-- ==== Sys2Proof/Word.lean ====
section
/-!
DEFINITION. The word types of the model: bytes, 64-bit register words, byte strings, and a raw stamp (R35).
-/

namespace Sys2Proof

/-- One byte. -/
abbrev Byte := BitVec 8

/-- One 64-bit register or entry word (R3). -/
abbrev Word := BitVec 64

/-- A byte string, first byte on the wire or lowest address first. -/
abbrev Bytes := List Byte

/-- A raw stamp: the 64-bit raw count and the fraction of a tick in units of 2^-16 tick (R35). -/
structure Stamp where
  count : BitVec 64
  frac : BitVec 16 := 0
  deriving DecidableEq, Repr

end Sys2Proof
end

