-- ==== Sys2Proof/Syntax.lean ====
section
/-!
DEFINITION. The commands of the block: `Instr` has one constructor per row of spec/opcode_table.json, with the
operands that the row's sender supplies (a register value, a received frame, the data a host read returned, the
outcome of a physical measurement). Everything else a command needs is read from `State`.
The choices it makes stand under notes/assumptions: 5 (DESIGN CHOICE), 45 (DEDUCED), 47 (PRESUMED).
-/

namespace Sys2Proof

/-- The two PCI Express functions (R406). -/
inductive Fn where
  | pf0 | pf1
  deriving DecidableEq, Repr

/-- A whole-device reset input (Table 18-5). -/
inductive ResetPin where
  | pwrGood | sysResetN
  deriving DecidableEq, Repr

/-- Domain A, domain B or the crossing clock X: the index d of `RECKON_d_*` (R69). -/
inductive Dom where
  | a | b | x
  deriving DecidableEq, Repr

/-- The width of a BAR access (R4). -/
inductive AccWidth where
  | w32 | w64
  deriving DecidableEq, Repr

/-- What a configuration write reaches: the MSI-X enable and function mask, the PTM enable, the codes of the maximum
payload and read request size, the power state, the error bits of AER that a 1 clears, another dword of configuration
space, one dword of the MSI-X table, or the pending-bit array (R10, R406, R482). -/
inductive CfgTarget where
  | msixControl (enable mask : Bool)
  | ptmControl (enable : Bool)
  | deviceControl (payload read : Nat)
  | powerState (d3hot : Bool)
  | aerStatus
  | aerSeverity
  | configSpace (off : Nat)
  | msixTable (vector : Nat) (dword : Nat)
  | pendingBits (off : Nat)
  deriving DecidableEq, Repr

/-- How bad an SRAM error is (R21, R22). -/
inductive EccKind where
  | singleBit | uncorrectable
  deriving DecidableEq, Repr

/-- Where Hold keeps a frame: in a class queue, the launch list or the timed frames that wait for it, by its place
there; held by pre-emption; recirculating; offered and waiting for room; waiting for its turn at the Compass; a Garvane
frame handed on, at its place among them; in transmission; under reassembly; a ferry frame that the crossing engine
keeps until the input deadline (R151), by branch, crossing and frame number; or an own ACYCLIC frame that waits, at its
place in its branch. -/
inductive HoldPlace where
  | queued (port cls index : Nat)
  | listed (port index : Nat)
  | waiting (port index : Nat)
  | preempted (port : Nat)
  | recirculating (index : Nat)
  | offered (index : Nat)
  | compass (index : Nat)
  | handed (index : Nat)
  | sending (port : Nat)
  | assembling (port : Nat)
  | ferry (b crossing frame : Nat)
  | acyclic (b index : Nat)
  deriving DecidableEq, Repr

/-- The SRAM word at fault, by region (Table 01-5): for Hold the frame it belongs to, the image byte for Cargo, for Record
the counter offset, a not yet consumed stamp record, or a latency sample of the ring. -/
inductive MemSite where
  | hold (place : HoldPlace)
  | cargoIn (byte : Nat)
  | cargoOut (byte : Nat)
  | state
  | queue
  | recordCounter (off : Nat)
  | recordStamp (index : Nat)
  | recordSample (index : Nat)
  deriving DecidableEq, Repr

/-- A merge of BRANCH_DEADLINE that came too late (R125): the berth, and whether the inputs-only copy before it had not
reached Cargo either. -/
structure LateMerge where
  berth : Nat
  priorLate : Bool
  deriving DecidableEq, Repr

/-- How what a port receives begins, and whether it ends the frame (IEEE 802.3 Clause 99): an express frame, the first
fragment of a preemptable frame with its frame count, a later fragment with its frame and fragment counts, or a delimiter
that is none of these. A fragment that is not the last ends with its mCRC, the last with the FCS of the frame. -/
inductive Delimiter where
  | express
  | first (frame : Nat) (last : Bool)
  | next (frame count : Nat) (last : Bool)
  | unknown
  deriving DecidableEq, Repr

/-- A flit on a fabric link: what the sending stage sent for the first time, what arrived, and whether it is the next flit
of a replay (R19). -/
structure Flit where
  sent : Bytes
  data : Bytes
  replayed : Bool := false
  deriving DecidableEq, Repr

/-- Where the transmit island's stamp of a frame comes from: its own stamp of the block with the stamp point, and the
line-bit position of the point in it (R229, R230). -/
structure BlockStamp where
  island : Stamp
  bitPos : Nat := 0
  deriving DecidableEq, Repr

/-- A verify or respond frame as a port receives it, with the receive island's stamp of its first bit (R299, R300). -/
structure MergeFrame where
  port : Nat
  stamp : BlockStamp
  deriving DecidableEq, Repr

/-- What came back in a PTM dialog besides the master time: the stamp of the response, and the ns that it reports from
t2 to t3 (R66). -/
structure PtmResponse where
  stamp : Stamp
  turn : Nat
  deriving DecidableEq, Repr

/-- A transfer of the hand-over that failed: whether it was one of metadata, and the PCIe cause of Table 15-8. -/
structure TransferFault where
  isMeta : Bool
  cause : Nat
  deriving DecidableEq, Repr

/-- What the decoders of a port counted since the end of the frame before, between the frames as well as in this one: FEC
codewords corrected and not correctable, symbols corrected, and errored blocks or code groups (Table 09-8). -/
structure LineErrors where
  corrected : Nat := 0
  uncorrected : Nat := 0
  symbols : Nat := 0
  blocks : Nat := 0
  deriving DecidableEq, Repr

/-- A frame, or a fragment of one, as a port receives it. `bytes` runs from the first byte of the destination address to
the last byte before the frame ended, FCS included. `island` and `bitPos` are the receive island's own stamp of the
codeword or block and the stamp point's line-bit position in it (R230). -/
structure RxFrame where
  bytes : Bytes
  island : Stamp
  bitPos : Nat := 0
  /-- the frame contains an invalid code group or block (CODE_ERR, R271) -/
  codeErr : Bool := false
  /-- no valid preamble and delimiter, or not a whole number of bytes (ALIGN_ERR, R271) -/
  alignErr : Bool := false
  /-- the frame ended with an invalid termination, or the port left RUN within it (TRUNC, R271) -/
  invalidTerm : Bool := false
  /-- the delimiter before the first byte (R297, R298) -/
  delimiter : Delimiter := .express
  /-- the port's decoders up to the frame's end -/
  errors : LineErrors := {}
  deriving DecidableEq, Repr

/-- What a host-memory read returned: bytes, or a failure after its retries with the PCIe cause of Table 15-8. -/
inductive HostRead where
  | ok (data : Bytes)
  | failed (cause : Nat)
  deriving DecidableEq, Repr

/-- What SFDP and the ID read report of the flash (R491, Table 17-21). -/
structure Sfdp where
  jedecId : BitVec 24
  sizeLog2 : Nat
  /-- the read of header copy 0 in the header's mode matched the 1-1-1 read -/
  modeOk : Bool := true
  deriving DecidableEq, Repr

/-- The sensor readings that Trim takes at the end of an interval (R388). -/
structure Sensor where
  valid : Bool
  tempC : Int
  deriving DecidableEq, Repr

/-- Why a port in RUN loses its link (Table 09-4). -/
inductive LinkLoss where
  | lossOfSignal | lossOfLock | highBer | partnerRestart
  deriving DecidableEq, Repr

/-- The Tender read that failed: a descriptor, a list at an address, a data read of either stream at an offset, or the
confirming read (Table 15-5). -/
inductive TenderReadKind where
  | desc
  | list (dst : Bool) (addr len : Nat)
  | data (dst : Bool) (offset : Nat)
  | confirm
  deriving DecidableEq, Repr

/-- The commands of the block, one constructor per row of spec/opcode_table.json, in its order. Operands: `p` a port,
`b` a branch, `k` a frame of a train, `n` a crossing, `i` an index (cycle point, pin, source), `q` a queue, `c` a class
or Tender channel, `s` a stream, `v` a vector or a value written, `skew` where the stamp point of a launch falls within
the 2 ns around the instant asked for, in units of 2^-16 tick from 2 ns before it (R233), `frac` the fraction of the
present tick at which a fragment ends. `fixDone`, `mergeDone`, `lastWrite` and a skiff's `ready` are the raw counts at
which the core finished that work, which Log measures (Table 13-2); a skiff that is not whole at its launch time has
none. -/
inductive Instr where
  | powerOn
  | resetAssert (pin : ResetPin) (lowNs : Nat)
  | resetRelease (ref10MHz : Bool)
  | wipeComplete (flash : Sfdp)
  | perstAssert (lowNs : Nat)
  | perstRelease
  | flrPf0
  | flrPf1
  | busMasterEnableChange (fn : Fn) (enable : Bool)
  | pcieConfigWrite (fn : Fn) (target : CfgTarget) (value : BitVec 32)
  | msixUnmask (fn : Fn) (v : Nat)
  | unsupportedAccess (fn : Fn) (addr bytes : Nat) (isWrite : Bool)
  | regWrite (fn : Fn) (addr : Nat) (w : AccWidth) (value : Word)
  | rcRead (fn : Fn) (addr : Nat) (w : AccWidth)
  | flitReceive (link : Nat) (flit : Flit) (crc : BitVec 16)
  | fabricFailLimit (link : Nat)
  | memUncorrectable (kind : EccKind) (site : MemSite)
  | haltLogWrite
  | crossingBoundary (fixDone : Word) (fuseOk : Bool)
  | cargoErrLimit
  | ferryAssembled (b k : Nat)
  | ferryLaunch (b k : Nat)
  | ferryReturn (p : Nat)
  | skiffReturn (p : Nat)
  | returnWindowClose (id : Nat)
  | skiffLaunch (b : Nat) (ready : Option Word)
  | branchDeadline (b : Nat) (mergeDone : Word) (lateMerges : List LateMerge)
  | cyclePointFire (i : Nat)
  | claimSpare
  | releaseSpare
  | acyclicLaunch (b w : Nat)
  | fetchPoint
  | outSeqReadDone (value : Word)
  | fetchComplete (rest : Bytes)
  | snapshotConfirmed (c : Nat)
  | handoverTransferFail (snapshot : Bool) (addr : Word) (fault : TransferFault)
  | attach (alsoDetach : Bool)
  | detach
  | rearm (b : Nat)
  | portRxFrame (p : Nat) (f : RxFrame)
  | pilotCutOff (p : Nat) (f : RxFrame)
  | violationLimitReached (p : Nat)
  | fenceRemainExpire (p : Nat)
  | forceFence (p : Nat)
  | unfence (p : Nat)
  | nodeAcyclicRx (p : Nat)
  | ownAcyclicReturn (p : Nat)
  | musterReturn (p : Nat)
  | musterWindowExpire (p : Nat)
  | musterTimeout
  | musterAccept (b : Nat)
  | fixFrameSend (p skew : Nat)
  | fixRx (p : Nat)
  | coldstartRx (p : Nat)
  | listenTimeout
  | coldstartSend (p skew : Nat)
  | backoffTimeout
  | confirmCountReached
  | integrateCountReached
  | sourceLossLimitReached
  | regainCountReached
  | snapshotTake
  | reckonIncrWrite (d : Dom) (value : Word)
  | reckonStepWrite (d : Dom) (value : Word)
  | reckonSetHiWrite (d : Dom) (value : Word)
  | reckonSetLoWrite (d : Dom) (value : Word)
  | deferredFold (d : Dom)
  | servoAlive (d : Dom)
  | holdoverTimeout (d : Dom)
  | primaryArm (target auto : Bool)
  | primaryDisarm (target auto : Bool)
  | primarySwitch
  | refclkTimeLost
  | refclkTimeReturn
  | ppsInEdge
  | ptmTrigger
  | ptmAutoInterval
  | ptmDialogDone (master : Word) (resp : PtmResponse)
  | ptmTimeout
  | strecConsWrite (value : BitVec 32)
  | tioModeWrite (i : Nat) (value : Word)
  | tioArm (i : Nat)
  | tioDisarm (i : Nat)
  | beaconEdge (i : Nat)
  | tioPulseEnd (i : Nat)
  | tioCaptureEdge (i : Nat) (level : Bool)
  | timedLaunch (p skew : Nat)
  | frameTxStart (p : Nat) (block : BlockStamp)
  | frameTxEnd (p : Nat)
  | preempt (p : Nat) (frac : BitVec 16)
  | preemptAtClose (p c : Nat) (frac : BitVec 16)
  | gateChange (p : Nat)
  | gateConfigChange (p : Nat)
  | gateCancel (p : Nat)
  | gateChangeTime (p : Nat)
  | shaperCfgWrite (p c : Nat) (value : Word)
  | sampleRound
  | portLockAcquired (p : Nat) (trained : Bool)
  | portLinkFault (p : Nat) (cause : LinkLoss)
  | portRecoveryTimeout (p : Nat)
  | anFail (p : Nat)
  | refclkNetLost (r : Nat)
  | refclkNetReturn (r : Nat)
  | portRestart (p : Nat)
  | portTestStart (p : Nat)
  | portTestStop (p : Nat)
  | portSleep (p : Nat)
  | portWake (p : Nat)
  | wakePatternMatch (p : Nat) (frame : Bytes)
  | wakeSignal (p : Nat)
  | pauseFrameRx (p : Nat) (f : RxFrame)
  | pfcFrameRx (p : Nat) (f : RxFrame)
  | pauseTimerExpire (p c : Nat)
  | xoffRepeat (p : Nat)
  | verifyFrameRx (f : MergeFrame)
  | respondFrameRx (f : MergeFrame)
  | verifyTimeout (p : Nat)
  | verifyRestart (p : Nat)
  | peCfgWrite (p : Nat) (value : Word)
  | frerResetTimeout (s : Nat)
  | streamCfgWrite (s : Nat) (recovery : Bool) (value : Word)
  | genReset (s : Nat)
  | rcvyReset (s : Nat)
  | recircPass2
  | bankSwap (target : Bool)
  | ruleWrite (bank : Bool) (index : Nat)
  | ruleRead (bank : Bool) (index : Nat)
  | ruleInvalidate (bank : Bool) (index : Nat)
  | missActionWrite (bank : Bool) (value : Word)
  | meterCfgWrite (m : Nat) (value : Word)
  | trimEvalInterval (sensors : List Sensor)
  | avsTransactionDone (acked : Bool) (currentDa : Nat)
  | avsFaultLimit
  | relaxLimit
  | headingSelect (v : BitVec 3)
  | sqDoorbell (q : Nat)
  | cqDoorbell (q : Nat)
  | sqProdWrite (q : Nat) (value : BitVec 32)
  | cqConsWrite (q : Nat) (value : BitVec 32)
  | sqInvalidate (q : Nat)
  | invalidateDone (q : Nat)
  | unitFetchDone (q : Nat) (r : HostRead)
  | nop (q : Nat)
  | send (q : Nat) (sgList : HostRead)
  | sendFrameFetched (q : Nat) (head : Bytes) (frame : HostRead)
  | rxPost (q : Nat)
  | acyclicSend (q : Nat) (data : HostRead)
  | tenderRun (q : Nat)
  | adminEnable (value : Word)
  | createCq
  | deleteCq
  | createSq
  | deleteSq
  | testStart
  | testEnd
  | tenderDescriptorFetched (c : Nat) (desc srcList dstList : Bytes)
  | tenderReadComplete (c : Nat) (dst : Bool) (offset : Nat) (data : Bytes)
  | tenderReadError (c : Nat) (what : TenderReadKind) (cause : Nat)
  | barrierReadDone (c : Nat)
  | tenderAbort (c : Nat)
  | tenderClear (c : Nat)
  | msixHoldoffExpire (v : Nat)
  | eventRouteWrite (i : Nat) (value : Word)
  | eventVecWrite (v : Nat) (value : Word)
  | flashHeaderReadDone
  | slotReadDone (readOk : Bool)
  | slotVerifyDone
  | chartCheckDone
  | retiredEraseDone
  | stageBegin (flashOk : Bool)
  | stageWrite (data : HostRead) (flashOk : Bool)
  | stageVerify
  | slotInvalidate (flashOk : Bool)
  | persistWrite (data : HostRead) (flashOk : Bool)
  | persistRead
  | lcProvision (keyHash : HostRead) (fuseOk : Bool)
  | lcField (fuseOk : Bool)
  | lcRetire (auth : HostRead) (fuseOk : Bool)
  | warmReset (value : Word)
  | smbReadStatus
  | smbReadTmax
  | smbReadPower
  | smbReadCurrent
  | smbReadVoltage
  | smbReadHeading
  | smbReadCrossing
  | smbReadSensor (code : BitVec 8)
  | smbReadUnlisted (code : BitVec 8) (bytes : Nat)
  | smbWrite (code : BitVec 8) (data : Bytes)
  | smbAlertResponse
  | extest
  | idcode
  | samplePreload
  | extestPulse
  | extestTrain
  | highz
  | clamp
  | bypass
  | debugInstruction (code : BitVec 8)
  | powerDown
  | pcieLinkUp
  | patternLock (p : Nat) (locked : Bool) (bitErrors : Nat)
  deriving DecidableEq, Repr

end Sys2Proof
end

