-- ==== Sys2Proof/Decode.lean ====
section
/-!
DEFINITION. The commands as the table spells them in bits. No row of spec/opcode_table.json gives any: the block takes
its commands as operations at its pins and interfaces, so no word spells a command.
-/

namespace Sys2Proof

/-- The command that the `nbits` bits of `w` spell: none, since no row of the table has bits. -/
def decodeTableWord (_nbits _w : Nat) : Option Instr := none

end Sys2Proof
end

