-- ==== Sys2Proof/Config.lean ====
section
/-!
DEFINITION. What an implementation fixes and the spec leaves open: free values, which no proof can see, and the two
cryptographic functions the chart loader uses, uninterpreted.
The choices it makes stand under notes/assumptions: 7 (DESIGN CHOICE), 8 (DESIGN CHOICE), 9 (DESIGN CHOICE), 10
(DESIGN CHOICE), 46 (DEDUCED).
-/

namespace Sys2Proof.Config

/-- A value the spec leaves open, a fresh one for each count of `Device.freeCtr`. -/
opaque freeValue : Nat → BitVec 64

/-- SHA-384 of a byte string, as 48 bytes in 384 bits (R499). Uninterpreted. -/
opaque sha384 : Bytes → BitVec 384

/-- Whether an ECDSA P-384 signature verifies: public key, message digest, signature (R499). Uninterpreted. -/
opaque ecdsaP384Verifies : Bytes → BitVec 384 → Bytes → Bool

/-- Whether an ECDSA P-384 signature over a digest was made with the key whose SHA-384 is the first argument (R516); how
the device comes by the key itself the spec does not say. Uninterpreted. -/
opaque fusedKeyVerifies : BitVec 384 → BitVec 384 → Bytes → Bool

/-- The JEP106 code of Idmathes, bits [11:1] of the IDCODE (R540). The spec does not give it. -/
opaque jep106 : BitVec 11

/-- The PCI-SIG Vendor ID of Idmathes (Table 14-1). The spec does not give its number. -/
opaque vendorId : BitVec 16

/-- The revision of the device in configuration space. The spec does not give it. -/
opaque revisionId : BitVec 8

/-- Network settings that the spec calls chart-set and gives no chart record for: the Garvane EtherType (R71), the
destination addresses of branches and of the flotilla group (Table 03-1), the tags of each uplink (R70), the room of
Hold set aside for Garvane frames (R280), and the transmitter equalisation of the ports (R263). -/
structure ChartNet where
  etherType : Option (BitVec 16) := none
  branchAddr : List (Nat × BitVec 48) := []
  groupAddr : Option (BitVec 48) := none
  uplinkTags : List (Nat × List (BitVec 32)) := []
  holdAside : Nat := 0
  txEq : List (Nat × Nat) := []
  deriving DecidableEq, Repr, Inhabited

/-- The network settings that a chart image gives, in a form the spec does not state. Uninterpreted. -/
opaque chartNet : Bytes → ChartNet

end Sys2Proof.Config
end

