-- ==== Sys2Proof/Machine/Regs.lean ====
section
/-!
DEFINITION. The register map of BAR0 (R29 and the register tables of every chapter): one `Fld` per register
field, with its place, its reset value, and one `RegDef` per register with the type of each field (R7), the
encodings its table marks as reserved (R12), the range its table states (R497) and whether its reset is "C" (R11).
The register file of `State` is keyed by field; a field that nothing has written reads its reset value.
-/

namespace Sys2Proof.Machine

/-- A register field: BAR0 address of index (0, 0), the strides of its two indices, its bits, its reset value, and the
value it has once a chart is loaded that gives it none (R495; the reset value for a field whose reset is not "C"). -/
structure Fld where
  base : Nat
  s1 : Nat := 0
  s2 : Nat := 0
  hi : Nat
  lo : Nat
  reset : Nat := 0
  dflt : Nat := 0
  deriving DecidableEq, Repr

/-- Register field types of Table 00-3 (R7). -/
inductive FType where
  | ro | rw | rc | w1c | wo | rl | rwa
  deriving DecidableEq, Repr

/-- How one field behaves: its type, its reserved encodings (R12), the range a chart value must lie in (R497),
and whether its reset is "C" (R11). -/
structure FieldDef where
  fld : Fld
  type : FType
  reserved : List (Nat × Nat) := []
  range : Option (Nat × Nat) := none
  isC : Bool := false
  deriving DecidableEq, Repr

/-- One register of the map: first address, index counts with strides, and its fields. -/
structure RegDef where
  addr : Nat
  n1 : Nat := 1
  s1 : Nat := 8
  n2 : Nat := 1
  s2 : Nat := 8
  fields : List FieldDef
  deriving DecidableEq, Repr

namespace F

def GLOBAL_STATUS_HALT_CAUSE : Fld := ⟨0x0, 0x0, 0x0, 63, 56, 0, 0⟩
def GLOBAL_STATUS_LIFECYCLE : Fld := ⟨0x0, 0x0, 0x0, 9, 8, 0, 0⟩
def GLOBAL_STATUS_CHART_FAULT : Fld := ⟨0x0, 0x0, 0x0, 6, 6, 0, 0⟩
def GLOBAL_STATUS_STATE : Fld := ⟨0x0, 0x0, 0x0, 3, 0, 2, 2⟩
def GLOBAL_ID_PART : Fld := ⟨0x8, 0x0, 0x0, 63, 48, 0x9640, 38464⟩
def GLOBAL_ID_REVISION : Fld := ⟨0x8, 0x0, 0x0, 47, 40, 0, 0⟩
def GLOBAL_ID_DEVICE_ID : Fld := ⟨0x8, 0x0, 0x0, 5, 0, 0, 0⟩
def GLOBAL_UID_UID : Fld := ⟨0x10, 0x0, 0x0, 63, 0, 0, 0⟩
def GLOBAL_MAC_ADDRESS : Fld := ⟨0x18, 0x0, 0x0, 47, 0, 0, 0⟩
def GLOBAL_CTRL_KEY : Fld := ⟨0x20, 0x0, 0x0, 63, 48, 0, 0⟩
def GLOBAL_CTRL_WARM_RESET : Fld := ⟨0x20, 0x0, 0x0, 0, 0, 0, 0⟩
def GLOBAL_CFG_TEST_PERMITTED : Fld := ⟨0x28, 0x0, 0x0, 0, 0, 0, 0⟩
def CHART_STATUS_SEQ : Fld := ⟨0x10000, 0x0, 0x0, 63, 32, 0, 0⟩
def CHART_STATUS_SVN : Fld := ⟨0x10000, 0x0, 0x0, 31, 24, 0, 0⟩
def CHART_STATUS_FUSED_SVN : Fld := ⟨0x10000, 0x0, 0x0, 23, 16, 0, 0⟩
def CHART_STATUS_FUSE_ERROR : Fld := ⟨0x10000, 0x0, 0x0, 8, 8, 0, 0⟩
def CHART_STATUS_ERASING : Fld := ⟨0x10000, 0x0, 0x0, 7, 7, 0, 0⟩
def CHART_STATUS_OVERRIDE_SKIPPED : Fld := ⟨0x10000, 0x0, 0x0, 6, 6, 0, 0⟩
def CHART_STATUS_STAGE_OPEN : Fld := ⟨0x10000, 0x0, 0x0, 5, 5, 0, 0⟩
def CHART_STATUS_HEADER_COPY : Fld := ⟨0x10000, 0x0, 0x0, 4, 4, 0, 0⟩
def CHART_STATUS_HEADER_FAULT : Fld := ⟨0x10000, 0x0, 0x0, 3, 3, 0, 0⟩
def CHART_STATUS_LOADED : Fld := ⟨0x10000, 0x0, 0x0, 1, 1, 0, 0⟩
def CHART_STATUS_SLOT : Fld := ⟨0x10000, 0x0, 0x0, 0, 0, 0, 0⟩
def CHART_SLOT_A_SEQ : Fld := ⟨0x10008, 0x0, 0x0, 63, 32, 0, 0⟩
def CHART_SLOT_A_SVN : Fld := ⟨0x10008, 0x0, 0x0, 31, 24, 0, 0⟩
def CHART_SLOT_A_FAULT_SECTION : Fld := ⟨0x10008, 0x0, 0x0, 23, 8, 0, 0⟩
def CHART_SLOT_A_FAULT : Fld := ⟨0x10008, 0x0, 0x0, 7, 0, 0, 0⟩
def CHART_SLOT_B_SEQ : Fld := ⟨0x10010, 0x0, 0x0, 63, 32, 0, 0⟩
def CHART_SLOT_B_SVN : Fld := ⟨0x10010, 0x0, 0x0, 31, 24, 0, 0⟩
def CHART_SLOT_B_FAULT_SECTION : Fld := ⟨0x10010, 0x0, 0x0, 23, 8, 0, 0⟩
def CHART_SLOT_B_FAULT : Fld := ⟨0x10010, 0x0, 0x0, 7, 0, 0, 0⟩
def CHART_FLASH_JEDEC_ID : Fld := ⟨0x10018, 0x0, 0x0, 63, 40, 0, 0⟩
def CHART_FLASH_SIZE_LOG2 : Fld := ⟨0x10018, 0x0, 0x0, 39, 32, 0, 0⟩
def CHART_FLASH_CLOCK_MHZ : Fld := ⟨0x10018, 0x0, 0x0, 23, 16, 0, 0⟩
def CHART_FLASH_MODE : Fld := ⟨0x10018, 0x0, 0x0, 1, 0, 0, 0⟩
def CHART_TIMING_TO_MUSTER_US : Fld := ⟨0x10020, 0x0, 0x0, 63, 32, 0, 0⟩
def CHART_TIMING_LOAD_US : Fld := ⟨0x10020, 0x0, 0x0, 31, 0, 0, 0⟩
def CHART_PERSIST_RECORDS : Fld := ⟨0x10028, 0x0, 0x0, 63, 48, 0, 0⟩
def CHART_PERSIST_FREE_KIB : Fld := ⟨0x10028, 0x0, 0x0, 47, 32, 0, 0⟩
def CHART_PERSIST_MAX_ERASES : Fld := ⟨0x10028, 0x0, 0x0, 31, 0, 0, 0⟩
def TRIM_STATUS_HEADING : Fld := ⟨0x20000, 0x0, 0x0, 63, 61, 0, 0⟩
def TRIM_STATUS_RUNG : Fld := ⟨0x20000, 0x0, 0x0, 60, 58, 0, 0⟩
def TRIM_STATUS_AT_CEILING : Fld := ⟨0x20000, 0x0, 0x0, 57, 57, 0, 0⟩
def TRIM_STATUS_OVER_CAP : Fld := ⟨0x20000, 0x0, 0x0, 56, 56, 0, 0⟩
def TRIM_STATUS_AVS_FAULT : Fld := ⟨0x20000, 0x0, 0x0, 55, 55, 0, 0⟩
def TRIM_STATUS_RELAX : Fld := ⟨0x20000, 0x0, 0x0, 54, 48, 0, 0⟩
def TRIM_STATUS_MARGIN : Fld := ⟨0x20000, 0x0, 0x0, 31, 0, 0x7fffffff, 2147483647⟩
def TRIM_HEADING_PREVIOUS : Fld := ⟨0x20008, 0x0, 0x0, 6, 4, 0, 0⟩
def TRIM_HEADING_SELECT : Fld := ⟨0x20008, 0x0, 0x0, 2, 0, 0, 0⟩
def TRIM_EVT_STATUS_FABRIC_REPLAY : Fld := ⟨0x20010, 0x0, 0x0, 7, 7, 0, 0⟩
def TRIM_EVT_STATUS_HEADING_REFUSED : Fld := ⟨0x20010, 0x0, 0x0, 6, 6, 0, 0⟩
def TRIM_EVT_STATUS_HEADING_CHANGED : Fld := ⟨0x20010, 0x0, 0x0, 5, 5, 0, 0⟩
def TRIM_EVT_STATUS_AVS_FAULT : Fld := ⟨0x20010, 0x0, 0x0, 4, 4, 0, 0⟩
def TRIM_EVT_STATUS_THERM_WARN : Fld := ⟨0x20010, 0x0, 0x0, 3, 3, 0, 0⟩
def TRIM_EVT_STATUS_SLACK_MISS : Fld := ⟨0x20010, 0x0, 0x0, 2, 2, 0, 0⟩
def TRIM_EVT_STATUS_LADDER : Fld := ⟨0x20010, 0x0, 0x0, 1, 1, 0, 0⟩
def TRIM_EVT_STATUS_OVERRIDE : Fld := ⟨0x20010, 0x0, 0x0, 0, 0, 0, 0⟩
def TRIM_EVT_EN_FABRIC_REPLAY : Fld := ⟨0x20018, 0x0, 0x0, 7, 7, 1, 1⟩
def TRIM_EVT_EN_HEADING_REFUSED : Fld := ⟨0x20018, 0x0, 0x0, 6, 6, 1, 1⟩
def TRIM_EVT_EN_HEADING_CHANGED : Fld := ⟨0x20018, 0x0, 0x0, 5, 5, 0, 0⟩
def TRIM_EVT_EN_AVS_FAULT : Fld := ⟨0x20018, 0x0, 0x0, 4, 4, 1, 1⟩
def TRIM_EVT_EN_THERM_WARN : Fld := ⟨0x20018, 0x0, 0x0, 3, 3, 1, 1⟩
def TRIM_EVT_EN_SLACK_MISS : Fld := ⟨0x20018, 0x0, 0x0, 2, 2, 0, 0⟩
def TRIM_EVT_EN_LADDER : Fld := ⟨0x20018, 0x0, 0x0, 1, 1, 1, 1⟩
def TRIM_EVT_EN_OVERRIDE : Fld := ⟨0x20018, 0x0, 0x0, 0, 0, 1, 1⟩
def TRIM_LOOP_CFG_RELAX_INTERVALS : Fld := ⟨0x20020, 0x0, 0x0, 63, 48, 0, 50⟩
def TRIM_LOOP_CFG_HYST_NS : Fld := ⟨0x20020, 0x0, 0x0, 47, 32, 0, 200⟩
def TRIM_LOOP_CFG_STEP_UP_MV : Fld := ⟨0x20020, 0x0, 0x0, 31, 24, 0, 10⟩
def TRIM_LOOP_CFG_STEP_DOWN_MV : Fld := ⟨0x20020, 0x0, 0x0, 23, 16, 0, 5⟩
def TRIM_LOOP_CFG_EVAL_US : Fld := ⟨0x20020, 0x0, 0x0, 9, 0, 0, 20⟩
def TRIM_AVS_SLEW_MV_US : Fld := ⟨0x20028, 0x0, 0x0, 63, 56, 0, 10⟩
def TRIM_AVS_FAULT_RUN : Fld := ⟨0x20028, 0x0, 0x0, 55, 48, 0, 0⟩
def TRIM_AVS_ACKED_MV : Fld := ⟨0x20028, 0x0, 0x0, 41, 32, 0, 0⟩
def TRIM_AVS_REQUEST_MV : Fld := ⟨0x20028, 0x0, 0x0, 9, 0, 0, 0⟩
def TRIM_POWER_CAP_W : Fld := ⟨0x20030, 0x0, 0x0, 63, 56, 0, 0⟩
def TRIM_POWER_POWER_DW : Fld := ⟨0x20030, 0x0, 0x0, 31, 16, 0, 0⟩
def TRIM_POWER_CORE_CURRENT_DA : Fld := ⟨0x20030, 0x0, 0x0, 15, 0, 0, 0⟩
def TRIM_THERMAL_WARN_C : Fld := ⟨0x20038, 0x0, 0x0, 63, 56, 0, 100⟩
def TRIM_THERMAL_HOT_SENSOR : Fld := ⟨0x20038, 0x0, 0x0, 52, 48, 0, 0⟩
def TRIM_THERMAL_TMAX_C : Fld := ⟨0x20038, 0x0, 0x0, 47, 40, 0, 0⟩
def TRIM_DSP_EXEMPT_PORTS : Fld := ⟨0x20040, 0x0, 0x0, 31, 0, 0, 0⟩
def TRIM_HROW_A_PINNED : Fld := ⟨0x20100, 0x10, 0x0, 63, 63, 0, 0⟩
def TRIM_HROW_A_LADDER_DEPTH : Fld := ⟨0x20100, 0x10, 0x0, 62, 60, 0, 0⟩
def TRIM_HROW_A_DSP : Fld := ⟨0x20100, 0x10, 0x0, 59, 58, 0, 0⟩
def TRIM_HROW_A_PIPES : Fld := ⟨0x20100, 0x10, 0x0, 57, 54, 0, 0⟩
def TRIM_HROW_A_VMAX_MV : Fld := ⟨0x20100, 0x10, 0x0, 53, 44, 0, 0⟩
def TRIM_HROW_A_CAP_W : Fld := ⟨0x20100, 0x10, 0x0, 43, 36, 0, 0⟩
def TRIM_HROW_A_OTHER_W : Fld := ⟨0x20100, 0x10, 0x0, 35, 28, 0, 0⟩
def TRIM_HROW_A_FWD_FLOOR_NS : Fld := ⟨0x20100, 0x10, 0x0, 25, 16, 0, 0⟩
def TRIM_HROW_A_FLOOR_NS : Fld := ⟨0x20100, 0x10, 0x0, 15, 0, 0, 0⟩
def TRIM_HROW_B_SAMPLE_NS : Fld := ⟨0x20108, 0x10, 0x0, 31, 0, 0, 0⟩
def TRIM_CURVE_VALID : Fld := ⟨0x20200, 0x8, 0x0, 63, 63, 0, 0⟩
def TRIM_CURVE_T_C : Fld := ⟨0x20200, 0x8, 0x0, 47, 40, 0, 0⟩
def TRIM_CURVE_VMIN_MV : Fld := ⟨0x20200, 0x8, 0x0, 9, 0, 0, 0⟩
def TRIM_LOG_ENABLE : Fld := ⟨0x20300, 0x8, 0x0, 63, 63, 0, 1⟩
def TRIM_LOG_MISSES : Fld := ⟨0x20300, 0x8, 0x0, 47, 32, 0, 0⟩
def TRIM_LOG_MIN_SLACK : Fld := ⟨0x20300, 0x8, 0x0, 31, 0, 0, 0⟩
def TRIM_SENSOR_VALID : Fld := ⟨0x20400, 0x8, 0x0, 63, 63, 0, 0⟩
def TRIM_SENSOR_TEMP_C : Fld := ⟨0x20400, 0x8, 0x0, 7, 0, 0, 0⟩
def TRIM_FABRIC_MAX_RUN : Fld := ⟨0x20500, 0x8, 0x0, 63, 60, 0, 0⟩
def TRIM_FABRIC_REPLAYS : Fld := ⟨0x20500, 0x8, 0x0, 47, 0, 0, 0⟩
def EVENT_SUMMARY_WORDS : Fld := ⟨0x30000, 0x0, 0x0, 7, 0, 0, 0⟩
def EVENT_STATUS_BITS : Fld := ⟨0x30100, 0x8, 0x0, 63, 0, 0, 0⟩
def EVENT_ROUTE_MSIX_EN : Fld := ⟨0x31000, 0x8, 0x0, 63, 63, 0, 0⟩
def EVENT_ROUTE_VECTOR : Fld := ⟨0x31000, 0x8, 0x0, 62, 52, 0, 0⟩
def EVENT_ROUTE_PF1_EN : Fld := ⟨0x31000, 0x8, 0x0, 51, 51, 0, 0⟩
def EVENT_ROUTE_PF1_VECTOR : Fld := ⟨0x31000, 0x8, 0x0, 50, 46, 0, 0⟩
def EVENT_ROUTE_TENDER_EN : Fld := ⟨0x31000, 0x8, 0x0, 45, 45, 0, 0⟩
def EVENT_ROUTE_TENDER_CH : Fld := ⟨0x31000, 0x8, 0x0, 44, 39, 0, 0⟩
def EVENT_ROUTE_DEFER_EN : Fld := ⟨0x31000, 0x8, 0x0, 38, 38, 0, 0⟩
def EVENT_ROUTE_DEFER_CP : Fld := ⟨0x31000, 0x8, 0x0, 37, 32, 0, 0⟩
def EVENT_ROUTE_TIO_MASK : Fld := ⟨0x31000, 0x8, 0x0, 31, 16, 0, 0⟩
def EVENT_ROUTE_HELD : Fld := ⟨0x31000, 0x8, 0x0, 0, 0, 0, 0⟩
def EVENT_VEC_HOLDOFF_NS : Fld := ⟨0x34000, 0x8, 0x0, 47, 24, 0, 0⟩
def EVENT_VEC_THRESH : Fld := ⟨0x34000, 0x8, 0x0, 23, 16, 0, 1⟩
def EVENT_VEC_PENDING : Fld := ⟨0x34000, 0x8, 0x0, 7, 0, 0, 0⟩
def RECKON_RAW_VALUE : Fld := ⟨0x40000, 0x0, 0x0, 63, 0, 0, 0⟩
def RECKON_STATUS_REF_LOST_SEEN : Fld := ⟨0x40008, 0x0, 0x0, 2, 2, 0, 0⟩
def RECKON_STATUS_REF_LOST : Fld := ⟨0x40008, 0x0, 0x0, 1, 1, 0, 0⟩
def RECKON_STATUS_REF_SEL : Fld := ⟨0x40008, 0x0, 0x0, 0, 0, 0, 0⟩
def RECKON_SNAP_CTRL_SEQ : Fld := ⟨0x40010, 0x0, 0x0, 63, 32, 0, 0⟩
def RECKON_SNAP_CTRL_TAKE : Fld := ⟨0x40010, 0x0, 0x0, 0, 0, 0, 0⟩
def RECKON_SNAP_RAW_VALUE : Fld := ⟨0x40018, 0x0, 0x0, 63, 0, 0, 0⟩
def RECKON_SNAP_A_HI_SECONDS : Fld := ⟨0x40020, 0x0, 0x0, 47, 0, 0, 0⟩
def RECKON_SNAP_A_LO_NANOSECONDS : Fld := ⟨0x40028, 0x0, 0x0, 47, 16, 0, 0⟩
def RECKON_SNAP_A_LO_FRACTION : Fld := ⟨0x40028, 0x0, 0x0, 15, 0, 0, 0⟩
def RECKON_SNAP_B_HI_SECONDS : Fld := ⟨0x40030, 0x0, 0x0, 47, 0, 0, 0⟩
def RECKON_SNAP_B_LO_NANOSECONDS : Fld := ⟨0x40038, 0x0, 0x0, 47, 16, 0, 0⟩
def RECKON_SNAP_B_LO_FRACTION : Fld := ⟨0x40038, 0x0, 0x0, 15, 0, 0, 0⟩
def RECKON_SNAP_X_HI_SECONDS : Fld := ⟨0x40040, 0x0, 0x0, 47, 0, 0, 0⟩
def RECKON_SNAP_X_LO_NANOSECONDS : Fld := ⟨0x40048, 0x0, 0x0, 47, 16, 0, 0⟩
def RECKON_SNAP_X_LO_FRACTION : Fld := ⟨0x40048, 0x0, 0x0, 15, 0, 0, 0⟩
def RECKON_PRIMARY_AUTO : Fld := ⟨0x40050, 0x0, 0x0, 3, 3, 0, 0⟩
def RECKON_PRIMARY_ARM : Fld := ⟨0x40050, 0x0, 0x0, 2, 2, 0, 0⟩
def RECKON_PRIMARY_TARGET : Fld := ⟨0x40050, 0x0, 0x0, 1, 1, 0, 0⟩
def RECKON_PRIMARY_PRIMARY : Fld := ⟨0x40050, 0x0, 0x0, 0, 0, 0, 0⟩
def RECKON_SWITCH_AT_VALUE : Fld := ⟨0x40058, 0x0, 0x0, 63, 0, 0, 0⟩
def RECKON_PPS_RAW_VALUE : Fld := ⟨0x40060, 0x0, 0x0, 63, 0, 0, 0⟩
def RECKON_PTM_CTRL_INTERVAL_MS : Fld := ⟨0x40068, 0x0, 0x0, 31, 16, 0x3e8, 1000⟩
def RECKON_PTM_CTRL_TRIGGER : Fld := ⟨0x40068, 0x0, 0x0, 1, 1, 0, 0⟩
def RECKON_PTM_CTRL_AUTO : Fld := ⟨0x40068, 0x0, 0x0, 0, 0, 0, 0⟩
def RECKON_PTM_STATUS_SEQ : Fld := ⟨0x40070, 0x0, 0x0, 63, 32, 0, 0⟩
def RECKON_PTM_STATUS_FAIL : Fld := ⟨0x40070, 0x0, 0x0, 17, 17, 0, 0⟩
def RECKON_PTM_STATUS_VALID : Fld := ⟨0x40070, 0x0, 0x0, 16, 16, 0, 0⟩
def RECKON_PTM_STATUS_RAW_FRACTION : Fld := ⟨0x40070, 0x0, 0x0, 15, 0, 0, 0⟩
def RECKON_PTM_MASTER_VALUE : Fld := ⟨0x40078, 0x0, 0x0, 63, 0, 0, 0⟩
def RECKON_PTM_RAW_VALUE : Fld := ⟨0x40080, 0x0, 0x0, 63, 0, 0, 0⟩
def RECKON_D_CTRL_FOLDS : Fld := ⟨0x40100, 0x100, 0x0, 31, 16, 0, 0⟩
def RECKON_D_CTRL_REJECT : Fld := ⟨0x40100, 0x100, 0x0, 10, 10, 0, 0⟩
def RECKON_D_CTRL_PENDING : Fld := ⟨0x40100, 0x100, 0x0, 9, 9, 0, 0⟩
def RECKON_D_CTRL_SERVO_ALIVE : Fld := ⟨0x40100, 0x100, 0x0, 8, 8, 0, 0⟩
def RECKON_D_CTRL_STATE : Fld := ⟨0x40100, 0x100, 0x0, 1, 0, 0, 0⟩
def RECKON_D_INCR_INCR : Fld := ⟨0x40108, 0x100, 0x0, 47, 0, 0x14000000000, 1374389534720⟩
def RECKON_D_STEP_NANOSECONDS : Fld := ⟨0x40110, 0x100, 0x0, 63, 16, 0, 0⟩
def RECKON_D_STEP_FRACTION : Fld := ⟨0x40110, 0x100, 0x0, 15, 0, 0, 0⟩
def RECKON_D_SET_HI_SECONDS : Fld := ⟨0x40118, 0x100, 0x0, 47, 0, 0, 0⟩
def RECKON_D_SET_LO_NANOSECONDS : Fld := ⟨0x40120, 0x100, 0x0, 47, 16, 0, 0⟩
def RECKON_D_SET_LO_FRACTION : Fld := ⟨0x40120, 0x100, 0x0, 15, 0, 0, 0⟩
def RECKON_D_BASE_HI_SECONDS : Fld := ⟨0x40128, 0x100, 0x0, 47, 0, 0, 0⟩
def RECKON_D_BASE_LO_NANOSECONDS : Fld := ⟨0x40130, 0x100, 0x0, 47, 16, 0, 0⟩
def RECKON_D_BASE_LO_FRACTION : Fld := ⟨0x40130, 0x100, 0x0, 15, 0, 0, 0⟩
def RECKON_D_RAW_AT_BASE_VALUE : Fld := ⟨0x40138, 0x100, 0x0, 63, 0, 0, 0⟩
def RECKON_D_HOLDOVER_TIMEOUT_TIMEOUT_MS : Fld := ⟨0x40140, 0x100, 0x0, 31, 0, 0, 3000⟩
def RECKON_STREC_PROD_PROD : Fld := ⟨0x40400, 0x0, 0x0, 31, 0, 0, 0⟩
def RECKON_STREC_CONS_CONS : Fld := ⟨0x40408, 0x0, 0x0, 31, 0, 0, 0⟩
def RECKON_TIO_CFG_WIDTH_NS : Fld := ⟨0x41000, 0x40, 0x0, 47, 16, 0, 0⟩
def RECKON_TIO_CFG_RECORD : Fld := ⟨0x41000, 0x40, 0x0, 11, 11, 0, 0⟩
def RECKON_TIO_CFG_EDGES : Fld := ⟨0x41000, 0x40, 0x0, 10, 9, 0, 0⟩
def RECKON_TIO_CFG_POLARITY : Fld := ⟨0x41000, 0x40, 0x0, 8, 8, 0, 0⟩
def RECKON_TIO_CFG_TB : Fld := ⟨0x41000, 0x40, 0x0, 5, 4, 0, 0⟩
def RECKON_TIO_CFG_MODE : Fld := ⟨0x41000, 0x40, 0x0, 2, 0, 0, 0⟩
def RECKON_TIO_START_S_SECONDS : Fld := ⟨0x41008, 0x40, 0x0, 47, 0, 0, 0⟩
def RECKON_TIO_START_NS_NANOSECONDS : Fld := ⟨0x41010, 0x40, 0x0, 47, 16, 0, 0⟩
def RECKON_TIO_START_NS_FRACTION : Fld := ⟨0x41010, 0x40, 0x0, 15, 0, 0, 0⟩
def RECKON_TIO_PERIOD_NANOSECONDS : Fld := ⟨0x41018, 0x40, 0x0, 63, 16, 0, 0⟩
def RECKON_TIO_PERIOD_FRACTION : Fld := ⟨0x41018, 0x40, 0x0, 15, 0, 0, 0⟩
def RECKON_TIO_CTRL_DISARM : Fld := ⟨0x41020, 0x40, 0x0, 1, 1, 0, 0⟩
def RECKON_TIO_CTRL_ARM : Fld := ⟨0x41020, 0x40, 0x0, 0, 0, 0, 0⟩
def RECKON_TIO_CAPTURE_RAW : Fld := ⟨0x41028, 0x40, 0x0, 63, 0, 0, 0⟩
def RECKON_TIO_STATUS_CAP_SEQ : Fld := ⟨0x41030, 0x40, 0x0, 63, 48, 0, 0⟩
def RECKON_TIO_STATUS_MISSED : Fld := ⟨0x41030, 0x40, 0x0, 47, 16, 0, 0⟩
def RECKON_TIO_STATUS_LEVEL : Fld := ⟨0x41030, 0x40, 0x0, 5, 5, 0, 0⟩
def RECKON_TIO_STATUS_ARM_ERR : Fld := ⟨0x41030, 0x40, 0x0, 4, 4, 0, 0⟩
def RECKON_TIO_STATUS_OVERRUN : Fld := ⟨0x41030, 0x40, 0x0, 3, 3, 0, 0⟩
def RECKON_TIO_STATUS_CAP_NEW : Fld := ⟨0x41030, 0x40, 0x0, 2, 2, 0, 0⟩
def RECKON_TIO_STATUS_LATE : Fld := ⟨0x41030, 0x40, 0x0, 1, 1, 0, 0⟩
def RECKON_TIO_STATUS_ARMED : Fld := ⟨0x41030, 0x40, 0x0, 0, 0, 0, 0⟩
def FIX_STATUS_USED : Fld := ⟨0x50000, 0x0, 0x0, 51, 48, 0, 0⟩
def FIX_STATUS_MEASURED : Fld := ⟨0x50000, 0x0, 0x0, 43, 40, 0, 0⟩
def FIX_STATUS_ATTEMPT : Fld := ⟨0x50000, 0x0, 0x0, 39, 32, 0, 0⟩
def FIX_STATUS_SOURCE_LOSS : Fld := ⟨0x50000, 0x0, 0x0, 31, 16, 0, 0⟩
def FIX_STATUS_REGAIN : Fld := ⟨0x50000, 0x0, 0x0, 15, 8, 0, 0⟩
def FIX_STATUS_STATE : Fld := ⟨0x50000, 0x0, 0x0, 3, 0, 0, 0⟩
def FIX_CFG_SELF : Fld := ⟨0x50008, 0x0, 0x0, 63, 63, 0, 0⟩
def FIX_CFG_CS_CAPABLE : Fld := ⟨0x50008, 0x0, 0x0, 62, 62, 0, 0⟩
def FIX_CFG_RANK : Fld := ⟨0x50008, 0x0, 0x0, 61, 56, 0, 0⟩
def FIX_CFG_TX_OFFSET : Fld := ⟨0x50008, 0x0, 0x0, 26, 0, 0, 0⟩
def FIX_TX_CS_WINDOW_OFFSET : Fld := ⟨0x50010, 0x0, 0x0, 58, 32, 0, 0⟩
def FIX_TX_PORTS : Fld := ⟨0x50010, 0x0, 0x0, 31, 0, 0, 0⟩
def FIX_LIMITS_SOURCE_LOSS_LIMIT : Fld := ⟨0x50018, 0x0, 0x0, 63, 48, 0, 16⟩
def FIX_LIMITS_REGAIN_CROSSINGS : Fld := ⟨0x50018, 0x0, 0x0, 47, 40, 0, 8⟩
def FIX_LIMITS_RATE_LIMIT_PPM : Fld := ⟨0x50018, 0x0, 0x0, 39, 32, 0, 50⟩
def FIX_LIMITS_OFFSET_LIMIT : Fld := ⟨0x50018, 0x0, 0x0, 31, 0, 0, 1000⟩
def FIX_COLDSTART_INTEGRATE_CROSSINGS : Fld := ⟨0x50020, 0x0, 0x0, 63, 60, 0, 4⟩
def FIX_COLDSTART_CONFIRM_CROSSINGS : Fld := ⟨0x50020, 0x0, 0x0, 59, 56, 0, 4⟩
def FIX_COLDSTART_BACKOFF_BASE : Fld := ⟨0x50020, 0x0, 0x0, 39, 20, 0, 1000⟩
def FIX_COLDSTART_LISTEN_TIMEOUT : Fld := ⟨0x50020, 0x0, 0x0, 19, 0, 0, 20000⟩
def FIX_PEERS_VALID0 : Fld := ⟨0x50028, 0x0, 0x0, 15, 15, 0, 0⟩
def FIX_PEERS_DEV0 : Fld := ⟨0x50028, 0x0, 0x0, 11, 6, 0, 0⟩
def FIX_PEERS_RANK0 : Fld := ⟨0x50028, 0x0, 0x0, 5, 0, 0, 0⟩
def FIX_PEERS_VALID1 : Fld := ⟨0x50028, 0x0, 0x0, 31, 31, 0, 0⟩
def FIX_PEERS_DEV1 : Fld := ⟨0x50028, 0x0, 0x0, 27, 22, 0, 0⟩
def FIX_PEERS_RANK1 : Fld := ⟨0x50028, 0x0, 0x0, 21, 16, 0, 0⟩
def FIX_PEERS_VALID2 : Fld := ⟨0x50028, 0x0, 0x0, 47, 47, 0, 0⟩
def FIX_PEERS_DEV2 : Fld := ⟨0x50028, 0x0, 0x0, 43, 38, 0, 0⟩
def FIX_PEERS_RANK2 : Fld := ⟨0x50028, 0x0, 0x0, 37, 32, 0, 0⟩
def FIX_PEERS_VALID3 : Fld := ⟨0x50028, 0x0, 0x0, 63, 63, 0, 0⟩
def FIX_PEERS_DEV3 : Fld := ⟨0x50028, 0x0, 0x0, 59, 54, 0, 0⟩
def FIX_PEERS_RANK3 : Fld := ⟨0x50028, 0x0, 0x0, 53, 48, 0, 0⟩
def FIX_STEER_COUPLING : Fld := ⟨0x50030, 0x0, 0x0, 63, 63, 0, 0⟩
def FIX_STEER_DOMAIN : Fld := ⟨0x50030, 0x0, 0x0, 62, 61, 0, 0⟩
def FIX_STEER_SHIFT : Fld := ⟨0x50030, 0x0, 0x0, 60, 56, 0, 0⟩
def FIX_STEER_LIMIT_PPB : Fld := ⟨0x50030, 0x0, 0x0, 47, 32, 0, 100⟩
def FIX_STEER_PHASE_NS : Fld := ⟨0x50030, 0x0, 0x0, 31, 0, 0, 0⟩
def FIX_OFFSET_NANOSECONDS : Fld := ⟨0x50038, 0x0, 0x0, 63, 16, 0, 0⟩
def FIX_OFFSET_FRACTION : Fld := ⟨0x50038, 0x0, 0x0, 15, 0, 0, 0⟩
def FIX_RATE_STEER_PPB : Fld := ⟨0x50040, 0x0, 0x0, 63, 32, 0, 0⟩
def FIX_RATE_RATE_PPB : Fld := ⟨0x50040, 0x0, 0x0, 31, 0, 0, 0⟩
def FIX_MUSTER_CFG_MUSTER_TIMEOUT_MS : Fld := ⟨0x50048, 0x0, 0x0, 15, 0, 0, 500⟩
def FIX_CS_WINDOW_COLLISION_WINDOW : Fld := ⟨0x50050, 0x0, 0x0, 31, 0, 0, 4000⟩
def FIX_SRC_ENABLE : Fld := ⟨0x51000, 0x10, 0x0, 63, 63, 0, 0⟩
def FIX_SRC_PORT : Fld := ⟨0x51000, 0x10, 0x0, 60, 56, 0, 0⟩
def FIX_SRC_DEV : Fld := ⟨0x51000, 0x10, 0x0, 53, 48, 0, 0⟩
def FIX_SRC_DELAY_NS : Fld := ⟨0x51000, 0x10, 0x0, 47, 16, 0, 0⟩
def FIX_SRC_DELAY_FRACTION : Fld := ⟨0x51000, 0x10, 0x0, 15, 0, 0, 0⟩
def FIX_SRC_DEV_MEASURED : Fld := ⟨0x51008, 0x10, 0x0, 63, 63, 0, 0⟩
def FIX_SRC_DEV_NANOSECONDS : Fld := ⟨0x51008, 0x10, 0x0, 47, 16, 0, 0⟩
def FIX_SRC_DEV_FRACTION : Fld := ⟨0x51008, 0x10, 0x0, 15, 0, 0, 0⟩
def FIX_MUSTER_BR_POLICY : Fld := ⟨0x52000, 0x8, 0x0, 63, 63, 0, 0⟩
def FIX_MUSTER_BR_ACCEPT : Fld := ⟨0x52000, 0x8, 0x0, 62, 62, 0, 0⟩
def FIX_MUSTER_BR_RESULT : Fld := ⟨0x52000, 0x8, 0x0, 61, 60, 0, 0⟩
def FIX_MUSTER_BR_REASON : Fld := ⟨0x52000, 0x8, 0x0, 59, 49, 0, 0⟩
def FIX_MUSTER_BR_ABSENT : Fld := ⟨0x52000, 0x8, 0x0, 47, 32, 0, 0⟩
def FIX_MUSTER_BR_EXTRA : Fld := ⟨0x52000, 0x8, 0x0, 31, 16, 0, 0⟩
def FIX_MUSTER_BR_FOUND : Fld := ⟨0x52000, 0x8, 0x0, 15, 0, 0, 0⟩
def CROSS_STATUS_RUNNING : Fld := ⟨0x100000, 0x0, 0x0, 48, 48, 0, 0⟩
def CROSS_STATUS_CROSSING : Fld := ⟨0x100000, 0x0, 0x0, 47, 0, 0, 0⟩
def CROSS_PERIOD_PERIOD_NS : Fld := ⟨0x100008, 0x0, 0x0, 26, 0, 0, 0⟩
def CROSS_MARGINS_MERGE_MARGIN : Fld := ⟨0x100010, 0x0, 0x0, 63, 48, 0, 1000⟩
def CROSS_MARGINS_SKIFF_LEAD : Fld := ⟨0x100010, 0x0, 0x0, 47, 32, 0, 3000⟩
def CROSS_MARGINS_READY_MARGIN : Fld := ⟨0x100010, 0x0, 0x0, 15, 0, 0, 2000⟩
def CROSS_SPARE_SPARE_TOTAL : Fld := ⟨0x100018, 0x0, 0x0, 48, 32, 0, 0⟩
def CROSS_SPARE_SPARE_CLAIMED : Fld := ⟨0x100018, 0x0, 0x0, 16, 0, 0, 0⟩
def CROSS_BR_CFG_ENABLE : Fld := ⟨0x101000, 0x100, 0x0, 63, 63, 0, 0⟩
def CROSS_BR_CFG_DUAL : Fld := ⟨0x101000, 0x100, 0x0, 62, 62, 0, 0⟩
def CROSS_BR_CFG_PORT_A : Fld := ⟨0x101000, 0x100, 0x0, 52, 48, 0, 0⟩
def CROSS_BR_CFG_PORT_B : Fld := ⟨0x101000, 0x100, 0x0, 44, 40, 0, 0⟩
def CROSS_BR_CFG_SUBMULT : Fld := ⟨0x101000, 0x100, 0x0, 38, 36, 0, 0⟩
def CROSS_BR_CFG_PHASE : Fld := ⟨0x101000, 0x100, 0x0, 35, 30, 0, 0⟩
def CROSS_BR_CFG_SKIFF_MAX : Fld := ⟨0x101000, 0x100, 0x0, 29, 28, 0, 0⟩
def CROSS_BR_CFG_TRAIN_LAST : Fld := ⟨0x101000, 0x100, 0x0, 27, 24, 0, 0⟩
def CROSS_BR_CFG_BERTHS : Fld := ⟨0x101000, 0x100, 0x0, 15, 0, 0, 0⟩
def CROSS_BR_LAUNCH_LAUNCH_OFFSET : Fld := ⟨0x101008, 0x100, 0x0, 26, 0, 0, 0⟩
def CROSS_BR_DEADLINE_INPUT_DEADLINE : Fld := ⟨0x101010, 0x100, 0x0, 32, 0, 0, 0⟩
def CROSS_BR_RTT_A_NANOSECONDS : Fld := ⟨0x101018, 0x100, 0x0, 47, 16, 0, 0⟩
def CROSS_BR_RTT_A_FRACTION : Fld := ⟨0x101018, 0x100, 0x0, 15, 0, 0, 0⟩
def CROSS_BR_RTT_B_NANOSECONDS : Fld := ⟨0x101020, 0x100, 0x0, 47, 16, 0, 0⟩
def CROSS_BR_RTT_B_FRACTION : Fld := ⟨0x101020, 0x100, 0x0, 15, 0, 0, 0⟩
def CROSS_BR_STATUS_MERGE_LATE : Fld := ⟨0x101028, 0x100, 0x0, 7, 7, 0, 0⟩
def CROSS_BR_STATUS_TALLY_ILLEGAL : Fld := ⟨0x101028, 0x100, 0x0, 6, 6, 0, 0⟩
def CROSS_BR_STATUS_NOT_REFRESHED : Fld := ⟨0x101028, 0x100, 0x0, 5, 5, 0, 0⟩
def CROSS_BR_STATUS_LATE_COPY : Fld := ⟨0x101028, 0x100, 0x0, 4, 4, 0, 0⟩
def CROSS_BR_STATUS_SKIFF_OVERFLOW : Fld := ⟨0x101028, 0x100, 0x0, 3, 3, 0, 0⟩
def CROSS_BR_STATUS_SKIFF_NO_TIME : Fld := ⟨0x101028, 0x100, 0x0, 2, 2, 0, 0⟩
def CROSS_BR_STATUS_UNLAUNCHED : Fld := ⟨0x101028, 0x100, 0x0, 1, 1, 0, 0⟩
def CROSS_BR_STATUS_READY_LATE : Fld := ⟨0x101028, 0x100, 0x0, 0, 0, 0, 0⟩
def CROSS_BR_EVT_EN_MERGE_LATE : Fld := ⟨0x101030, 0x100, 0x0, 7, 7, 1, 1⟩
def CROSS_BR_EVT_EN_TALLY_ILLEGAL : Fld := ⟨0x101030, 0x100, 0x0, 6, 6, 1, 1⟩
def CROSS_BR_EVT_EN_NOT_REFRESHED : Fld := ⟨0x101030, 0x100, 0x0, 5, 5, 1, 1⟩
def CROSS_BR_EVT_EN_LATE_COPY : Fld := ⟨0x101030, 0x100, 0x0, 4, 4, 1, 1⟩
def CROSS_BR_EVT_EN_SKIFF_OVERFLOW : Fld := ⟨0x101030, 0x100, 0x0, 3, 3, 1, 1⟩
def CROSS_BR_EVT_EN_SKIFF_NO_TIME : Fld := ⟨0x101030, 0x100, 0x0, 2, 2, 1, 1⟩
def CROSS_BR_EVT_EN_UNLAUNCHED : Fld := ⟨0x101030, 0x100, 0x0, 1, 1, 1, 1⟩
def CROSS_BR_EVT_EN_READY_LATE : Fld := ⟨0x101030, 0x100, 0x0, 0, 0, 1, 1⟩
def CROSS_BR_LAST_CROSSING : Fld := ⟨0x101038, 0x100, 0x0, 47, 0, 0, 0⟩
def CROSS_BR_RTT_LIMIT_LINE_LIMIT_NS : Fld := ⟨0x101040, 0x100, 0x0, 63, 32, 0, 0⟩
def CROSS_BR_RTT_LIMIT_RING_LIMIT_NS : Fld := ⟨0x101040, 0x100, 0x0, 31, 0, 0, 0⟩
def CROSS_CP_CFG_ENABLE : Fld := ⟨0x104000, 0x10, 0x0, 63, 63, 0, 0⟩
def CROSS_CP_CFG_MILESTONE : Fld := ⟨0x104000, 0x10, 0x0, 59, 56, 0, 0⟩
def CROSS_CP_CFG_BRANCH : Fld := ⟨0x104000, 0x10, 0x0, 52, 48, 0, 0⟩
def CROSS_CP_CFG_EVERY : Fld := ⟨0x104000, 0x10, 0x0, 44, 42, 0, 0⟩
def CROSS_CP_CFG_PHASE : Fld := ⟨0x104000, 0x10, 0x0, 41, 36, 0, 0⟩
def CROSS_CP_CFG_OFFSET : Fld := ⟨0x104000, 0x10, 0x0, 32, 0, 0, 0⟩
def CROSS_CP_STATUS_FORCED : Fld := ⟨0x104008, 0x10, 0x0, 49, 49, 0, 0⟩
def CROSS_CP_STATUS_VALID : Fld := ⟨0x104008, 0x10, 0x0, 48, 48, 0, 0⟩
def CROSS_CP_STATUS_LAST_CROSSING : Fld := ⟨0x104008, 0x10, 0x0, 47, 0, 0, 0⟩
def CARGO_STATUS_STABLE_CROSSING : Fld := ⟨0x200000, 0x0, 0x0, 63, 16, 0, 0⟩
def CARGO_STATUS_SNAP_BUSY : Fld := ⟨0x200000, 0x0, 0x0, 4, 4, 0, 0⟩
def CARGO_STATUS_FETCH_BUSY : Fld := ⟨0x200000, 0x0, 0x0, 3, 3, 0, 0⟩
def CARGO_STATUS_DETACHED_BY_ERROR : Fld := ⟨0x200000, 0x0, 0x0, 2, 2, 0, 0⟩
def CARGO_STATUS_ATTACH_ERR : Fld := ⟨0x200000, 0x0, 0x0, 1, 1, 0, 0⟩
def CARGO_STATUS_ATTACHED : Fld := ⟨0x200000, 0x0, 0x0, 0, 0, 0, 0⟩
def CARGO_CTRL_DETACH : Fld := ⟨0x200008, 0x0, 0x0, 1, 1, 0, 0⟩
def CARGO_CTRL_ATTACH : Fld := ⟨0x200008, 0x0, 0x0, 0, 0, 0, 0⟩
def CARGO_IMAGE_IN_SIZE : Fld := ⟨0x200010, 0x0, 0x0, 54, 32, 0, 0⟩
def CARGO_IMAGE_OUT_SIZE : Fld := ⟨0x200010, 0x0, 0x0, 22, 0, 0, 0⟩
def CARGO_LAYOUT_STATUS_ENTRIES : Fld := ⟨0x200018, 0x0, 0x0, 48, 32, 0, 0⟩
def CARGO_LAYOUT_IN_DATA_BASE : Fld := ⟨0x200018, 0x0, 0x0, 19, 0, 0, 0⟩
def CARGO_TIMING_ERR_LIMIT : Fld := ⟨0x200020, 0x0, 0x0, 39, 32, 0, 8⟩
def CARGO_TIMING_FETCH_AT : Fld := ⟨0x200020, 0x0, 0x0, 26, 0, 0, 0⟩
def CARGO_HOST_SEQ_ADDR_ADDR : Fld := ⟨0x200028, 0x0, 0x0, 63, 6, 0, 0⟩
def CARGO_HOST_IN_BASE_ADDR : Fld := ⟨0x200030, 0x0, 0x0, 63, 12, 0, 0⟩
def CARGO_HOST_OUT_BASE_ADDR : Fld := ⟨0x200038, 0x0, 0x0, 63, 12, 0, 0⟩
def CARGO_HOST_SLOTS_OUT_SLOTS : Fld := ⟨0x200040, 0x0, 0x0, 44, 40, 0, 0⟩
def CARGO_HOST_SLOTS_IN_SLOTS_LOG2 : Fld := ⟨0x200040, 0x0, 0x0, 33, 32, 0, 0⟩
def CARGO_HOST_SLOTS_OUT_STRIDE : Fld := ⟨0x200040, 0x0, 0x0, 31, 16, 0, 0⟩
def CARGO_HOST_SLOTS_IN_STRIDE : Fld := ⟨0x200040, 0x0, 0x0, 15, 0, 0, 0⟩
def CARGO_ERR_ADDR_ADDR : Fld := ⟨0x200048, 0x0, 0x0, 63, 0, 0, 0⟩
def CARGO_ERR_INFO_CROSSING : Fld := ⟨0x200050, 0x0, 0x0, 63, 16, 0, 0⟩
def CARGO_ERR_INFO_ERR_RUN : Fld := ⟨0x200050, 0x0, 0x0, 15, 8, 0, 0⟩
def CARGO_ERR_INFO_META : Fld := ⟨0x200050, 0x0, 0x0, 1, 1, 0, 0⟩
def CARGO_ERR_INFO_DIR : Fld := ⟨0x200050, 0x0, 0x0, 0, 0, 0, 0⟩
def CARGO_BR_POLICY_LATCHED : Fld := ⟨0x201000, 0x10, 0x0, 17, 17, 0, 0⟩
def CARGO_BR_POLICY_REARM : Fld := ⟨0x201000, 0x10, 0x0, 16, 16, 0, 0⟩
def CARGO_BR_POLICY_AGE_LIMIT : Fld := ⟨0x201000, 0x10, 0x0, 15, 8, 0, 0⟩
def CARGO_BR_POLICY_POLICY : Fld := ⟨0x201000, 0x10, 0x0, 1, 0, 0, 0⟩
def PILOT_CFG_UPLINK_ACCEPT : Fld := ⟨0x300000, 0x0, 0x0, 47, 32, 0, 200⟩
def PILOT_CFG_ACCEPT_WINDOW : Fld := ⟨0x300000, 0x0, 0x0, 31, 16, 0, 100⟩
def PILOT_CFG_PRECISION_NS : Fld := ⟨0x300000, 0x0, 0x0, 15, 0, 0, 50⟩
def PILOT_FENCE_CFG_FENCE_BOTH : Fld := ⟨0x300008, 0x0, 0x0, 63, 63, 0, 0⟩
def PILOT_FENCE_CFG_REFENCE_MAX : Fld := ⟨0x300008, 0x0, 0x0, 62, 56, 0, 3⟩
def PILOT_FENCE_CFG_PROBATION_LEN : Fld := ⟨0x300008, 0x0, 0x0, 55, 40, 0, 10000⟩
def PILOT_FENCE_CFG_FENCE_HOLD : Fld := ⟨0x300008, 0x0, 0x0, 39, 24, 0, 1000⟩
def PILOT_FENCE_CFG_FENCE_PERIOD : Fld := ⟨0x300008, 0x0, 0x0, 23, 8, 0, 100⟩
def PILOT_FENCE_CFG_VIOLATION_LIMIT : Fld := ⟨0x300008, 0x0, 0x0, 7, 0, 0, 8⟩
def PILOT_ARM_CFG_FENCE_EN : Fld := ⟨0x301000, 0x40, 0x0, 63, 63, 0, 0⟩
def PILOT_ARM_CFG_ROLE : Fld := ⟨0x301000, 0x40, 0x0, 62, 61, 0, 0⟩
def PILOT_ARM_CFG_BRANCH : Fld := ⟨0x301000, 0x40, 0x0, 52, 48, 0, 0⟩
def PILOT_ARM_STATE_REFENCES : Fld := ⟨0x301008, 0x40, 0x0, 63, 56, 0, 0⟩
def PILOT_ARM_STATE_VIOL_RECENT : Fld := ⟨0x301008, 0x40, 0x0, 55, 40, 0, 0⟩
def PILOT_ARM_STATE_REMAIN : Fld := ⟨0x301008, 0x40, 0x0, 39, 24, 0, 0⟩
def PILOT_ARM_STATE_STATE : Fld := ⟨0x301008, 0x40, 0x0, 2, 0, 0, 0⟩
def PILOT_ARM_CTRL_UNFENCE : Fld := ⟨0x301010, 0x40, 0x0, 1, 1, 0, 0⟩
def PILOT_ARM_CTRL_FORCE_FENCE : Fld := ⟨0x301010, 0x40, 0x0, 0, 0, 0, 0⟩
def PILOT_ARM_STATUS_FENCE_HELD : Fld := ⟨0x301018, 0x40, 0x0, 4, 4, 0, 0⟩
def PILOT_ARM_STATUS_LOCKED : Fld := ⟨0x301018, 0x40, 0x0, 3, 3, 0, 0⟩
def PILOT_ARM_STATUS_UNFENCED : Fld := ⟨0x301018, 0x40, 0x0, 2, 2, 0, 0⟩
def PILOT_ARM_STATUS_FENCED : Fld := ⟨0x301018, 0x40, 0x0, 1, 1, 0, 0⟩
def PILOT_ARM_STATUS_VIOLATION : Fld := ⟨0x301018, 0x40, 0x0, 0, 0, 0, 0⟩
def PILOT_ARM_EVT_EN_FENCE_HELD : Fld := ⟨0x301020, 0x40, 0x0, 4, 4, 1, 1⟩
def PILOT_ARM_EVT_EN_LOCKED : Fld := ⟨0x301020, 0x40, 0x0, 3, 3, 1, 1⟩
def PILOT_ARM_EVT_EN_UNFENCED : Fld := ⟨0x301020, 0x40, 0x0, 2, 2, 1, 1⟩
def PILOT_ARM_EVT_EN_FENCED : Fld := ⟨0x301020, 0x40, 0x0, 1, 1, 1, 1⟩
def PILOT_ARM_EVT_EN_VIOLATION : Fld := ⟨0x301020, 0x40, 0x0, 0, 0, 0, 0⟩
def PILOT_ARM_RTT_LINE_NANOSECONDS : Fld := ⟨0x301028, 0x40, 0x0, 47, 16, 0, 0⟩
def PILOT_ARM_RTT_LINE_FRACTION : Fld := ⟨0x301028, 0x40, 0x0, 15, 0, 0, 0⟩
def PILOT_ARM_LAST_CROSSING : Fld := ⟨0x301030, 0x40, 0x0, 63, 16, 0, 0⟩
def PILOT_ARM_LAST_KIND : Fld := ⟨0x301030, 0x40, 0x0, 3, 0, 0, 0⟩
def PILOT_ARM_LAST_DEV_DEVIATION : Fld := ⟨0x301038, 0x40, 0x0, 31, 0, 0, 0⟩
def PILOT_ACY_CFG_ENABLE : Fld := ⟨0x308000, 0x40, 0x10, 63, 63, 0, 0⟩
def PILOT_ACY_CFG_DIR : Fld := ⟨0x308000, 0x40, 0x10, 62, 62, 0, 0⟩
def PILOT_ACY_CFG_MAX_DATA : Fld := ⟨0x308000, 0x40, 0x10, 50, 40, 0, 0⟩
def PILOT_ACY_CFG_ROTA_BASE : Fld := ⟨0x308000, 0x40, 0x10, 35, 24, 0, 0⟩
def PILOT_ACY_CFG_ROTA_LEN : Fld := ⟨0x308000, 0x40, 0x10, 8, 0, 0, 0⟩
def PILOT_ACY_GAP_GAP_NS : Fld := ⟨0x308008, 0x40, 0x10, 32, 0, 0, 0⟩
def PILOT_ROTA_NODE : Fld := ⟨0x310000, 0x8, 0x0, 13, 0, 0, 0⟩
def PORT_MODE_TX_INVERT : Fld := ⟨0x400000, 0x10000, 0x0, 23, 20, 0, 0⟩
def PORT_MODE_RX_INVERT : Fld := ⟨0x400000, 0x10000, 0x0, 19, 16, 0, 0⟩
def PORT_MODE_ABSORBED : Fld := ⟨0x400000, 0x10000, 0x0, 7, 7, 0, 0⟩
def PORT_MODE_AN_EN : Fld := ⟨0x400000, 0x10000, 0x0, 6, 6, 0, 0⟩
def PORT_MODE_FEC : Fld := ⟨0x400000, 0x10000, 0x0, 5, 4, 0, 0⟩
def PORT_MODE_MODE : Fld := ⟨0x400000, 0x10000, 0x0, 3, 0, 0, 0⟩
def PORT_STATE_LINK_ATTEMPTS : Fld := ⟨0x400008, 0x10000, 0x0, 47, 32, 0, 0⟩
def PORT_STATE_PATTERN_LOCK : Fld := ⟨0x400008, 0x10000, 0x0, 10, 10, 0, 0⟩
def PORT_STATE_TRAINED : Fld := ⟨0x400008, 0x10000, 0x0, 9, 9, 0, 0⟩
def PORT_STATE_AN_DONE : Fld := ⟨0x400008, 0x10000, 0x0, 8, 8, 0, 0⟩
def PORT_STATE_HI_BER : Fld := ⟨0x400008, 0x10000, 0x0, 7, 7, 0, 0⟩
def PORT_STATE_FEC_LOCK : Fld := ⟨0x400008, 0x10000, 0x0, 6, 6, 0, 0⟩
def PORT_STATE_PCS_LOCK : Fld := ⟨0x400008, 0x10000, 0x0, 5, 5, 0, 0⟩
def PORT_STATE_SIGNAL : Fld := ⟨0x400008, 0x10000, 0x0, 4, 4, 0, 0⟩
def PORT_STATE_STATE : Fld := ⟨0x400008, 0x10000, 0x0, 2, 0, 0, 0⟩
def PORT_CTRL_LOOPBACK : Fld := ⟨0x400010, 0x10000, 0x0, 12, 12, 0, 0⟩
def PORT_CTRL_TEST_PATTERN : Fld := ⟨0x400010, 0x10000, 0x0, 10, 8, 0, 0⟩
def PORT_CTRL_TEST_STOP : Fld := ⟨0x400010, 0x10000, 0x0, 4, 4, 0, 0⟩
def PORT_CTRL_TEST_START : Fld := ⟨0x400010, 0x10000, 0x0, 3, 3, 0, 0⟩
def PORT_CTRL_WAKE : Fld := ⟨0x400010, 0x10000, 0x0, 2, 2, 0, 0⟩
def PORT_CTRL_SLEEP : Fld := ⟨0x400010, 0x10000, 0x0, 1, 1, 0, 0⟩
def PORT_CTRL_RESTART : Fld := ⟨0x400010, 0x10000, 0x0, 0, 0, 0, 0⟩
def PORT_STATUS_SLEEP_REFUSED : Fld := ⟨0x400018, 0x10000, 0x0, 7, 7, 0, 0⟩
def PORT_STATUS_AN_FAIL : Fld := ⟨0x400018, 0x10000, 0x0, 6, 6, 0, 0⟩
def PORT_STATUS_RX_PAUSED : Fld := ⟨0x400018, 0x10000, 0x0, 5, 5, 0, 0⟩
def PORT_STATUS_XOFF_SENT : Fld := ⟨0x400018, 0x10000, 0x0, 4, 4, 0, 0⟩
def PORT_STATUS_HI_BER : Fld := ⟨0x400018, 0x10000, 0x0, 3, 3, 0, 0⟩
def PORT_STATUS_WAKE : Fld := ⟨0x400018, 0x10000, 0x0, 2, 2, 0, 0⟩
def PORT_STATUS_LINK_DOWN : Fld := ⟨0x400018, 0x10000, 0x0, 1, 1, 0, 0⟩
def PORT_STATUS_STATE_CHANGE : Fld := ⟨0x400018, 0x10000, 0x0, 0, 0, 0, 0⟩
def PORT_EVT_EN_SLEEP_REFUSED : Fld := ⟨0x400020, 0x10000, 0x0, 7, 7, 1, 1⟩
def PORT_EVT_EN_AN_FAIL : Fld := ⟨0x400020, 0x10000, 0x0, 6, 6, 1, 1⟩
def PORT_EVT_EN_RX_PAUSED : Fld := ⟨0x400020, 0x10000, 0x0, 5, 5, 0, 0⟩
def PORT_EVT_EN_XOFF_SENT : Fld := ⟨0x400020, 0x10000, 0x0, 4, 4, 0, 0⟩
def PORT_EVT_EN_HI_BER : Fld := ⟨0x400020, 0x10000, 0x0, 3, 3, 1, 1⟩
def PORT_EVT_EN_WAKE : Fld := ⟨0x400020, 0x10000, 0x0, 2, 2, 1, 1⟩
def PORT_EVT_EN_LINK_DOWN : Fld := ⟨0x400020, 0x10000, 0x0, 1, 1, 1, 1⟩
def PORT_EVT_EN_STATE_CHANGE : Fld := ⟨0x400020, 0x10000, 0x0, 0, 0, 0, 0⟩
def PORT_FRAME_PASS_CTRL : Fld := ⟨0x400028, 0x10000, 0x0, 18, 18, 0, 0⟩
def PORT_FRAME_RX_CSUM : Fld := ⟨0x400028, 0x10000, 0x0, 17, 17, 0, 0⟩
def PORT_FRAME_DELIVER_BAD : Fld := ⟨0x400028, 0x10000, 0x0, 16, 16, 0, 0⟩
def PORT_FRAME_MAX_FRAME : Fld := ⟨0x400028, 0x10000, 0x0, 14, 0, 0, 1522⟩
def PORT_FLOW_PAUSE_QUANTA : Fld := ⟨0x400030, 0x10000, 0x0, 31, 16, 0, 65535⟩
def PORT_FLOW_DEFAULT_PRIO : Fld := ⟨0x400030, 0x10000, 0x0, 6, 4, 0, 0⟩
def PORT_FLOW_MODE : Fld := ⟨0x400030, 0x10000, 0x0, 1, 0, 0, 0⟩
def PORT_FLOW_WM_HOLD_LIMIT : Fld := ⟨0x400038, 0x10000, 0x0, 47, 32, 0, 0⟩
def PORT_FLOW_WM_HIGH_WM : Fld := ⟨0x400038, 0x10000, 0x0, 31, 16, 0, 0⟩
def PORT_FLOW_WM_LOW_WM : Fld := ⟨0x400038, 0x10000, 0x0, 15, 0, 0, 0⟩
def PORT_FLOW_STATUS_PAUSED : Fld := ⟨0x400040, 0x10000, 0x0, 55, 48, 0, 0⟩
def PORT_FLOW_STATUS_XOFF : Fld := ⟨0x400040, 0x10000, 0x0, 47, 40, 0, 0⟩
def PORT_FLOW_STATUS_OCCUPANCY : Fld := ⟨0x400040, 0x10000, 0x0, 31, 0, 0, 0⟩
def PORT_WAKE_CTRL_LAST_SIGNAL : Fld := ⟨0x400048, 0x10000, 0x0, 7, 7, 0, 0⟩
def PORT_WAKE_CTRL_LAST_PATTERN : Fld := ⟨0x400048, 0x10000, 0x0, 6, 4, 0, 0⟩
def PORT_WAKE_CTRL_WAKE_ON_SIGNAL : Fld := ⟨0x400048, 0x10000, 0x0, 0, 0, 0, 0⟩
def PORT_TEST_ERRORS_ERRORS : Fld := ⟨0x400050, 0x10000, 0x0, 63, 0, 0, 0⟩
def PORT_WAKE_CFG_ENABLE : Fld := ⟨0x400100, 0x10000, 0x20, 63, 63, 0, 0⟩
def PORT_WAKE_CFG_LEN : Fld := ⟨0x400100, 0x10000, 0x20, 39, 32, 0, 0⟩
def PORT_WAKE_CFG_CHECK : Fld := ⟨0x400100, 0x10000, 0x20, 31, 0, 0, 0⟩
def PORT_WAKE_MASK_LO_MASK : Fld := ⟨0x400108, 0x10000, 0x20, 63, 0, 0, 0⟩
def PORT_WAKE_MASK_HI_MASK : Fld := ⟨0x400110, 0x10000, 0x20, 63, 0, 0, 0⟩
def PORT_STAMP_CAL_TX_CAL : Fld := ⟨0x400e00, 0x10000, 0x0, 63, 32, 0, 0⟩
def PORT_STAMP_CAL_RX_CAL : Fld := ⟨0x400e00, 0x10000, 0x0, 31, 0, 0, 0⟩
def PORT_STAMP_BOARD_BOARD_TX : Fld := ⟨0x400e08, 0x10000, 0x0, 63, 32, 0, 0⟩
def PORT_STAMP_BOARD_BOARD_RX : Fld := ⟨0x400e08, 0x10000, 0x0, 31, 0, 0, 0⟩
def COMPASS_CFG_MIRROR_CLASS : Fld := ⟨0x600000, 0x0, 0x0, 13, 11, 0, 0⟩
def COMPASS_CFG_START_NODE : Fld := ⟨0x600000, 0x0, 0x0, 5, 0, 0, 0⟩
def COMPASS_BANK_WRITABLE1 : Fld := ⟨0x600008, 0x0, 0x0, 50, 50, 0, 0⟩
def COMPASS_BANK_WRITABLE0 : Fld := ⟨0x600008, 0x0, 0x0, 49, 49, 0, 0⟩
def COMPASS_BANK_ACTIVE : Fld := ⟨0x600008, 0x0, 0x0, 48, 48, 0, 0⟩
def COMPASS_BANK_PINNED1 : Fld := ⟨0x600008, 0x0, 0x0, 31, 16, 0, 0⟩
def COMPASS_BANK_PINNED0 : Fld := ⟨0x600008, 0x0, 0x0, 15, 0, 0, 0⟩
def COMPASS_BANK_CTRL_TARGET : Fld := ⟨0x600010, 0x0, 0x0, 1, 1, 0, 0⟩
def COMPASS_BANK_CTRL_SWAP : Fld := ⟨0x600010, 0x0, 0x0, 0, 0, 0, 0⟩
def COMPASS_STATUS_PARITY_BANK : Fld := ⟨0x600018, 0x0, 0x0, 47, 47, 0, 0⟩
def COMPASS_STATUS_PARITY_INDEX : Fld := ⟨0x600018, 0x0, 0x0, 45, 32, 0, 0⟩
def COMPASS_STATUS_TCAM_PARITY : Fld := ⟨0x600018, 0x0, 0x0, 4, 4, 0, 0⟩
def COMPASS_STATUS_FWD_INVALID : Fld := ⟨0x600018, 0x0, 0x0, 3, 3, 0, 0⟩
def COMPASS_STATUS_STREAM_BLOCKED : Fld := ⟨0x600018, 0x0, 0x0, 2, 2, 0, 0⟩
def COMPASS_STATUS_WRITE_REJECT : Fld := ⟨0x600018, 0x0, 0x0, 1, 1, 0, 0⟩
def COMPASS_STATUS_BANK_FREE : Fld := ⟨0x600018, 0x0, 0x0, 0, 0, 0, 0⟩
def COMPASS_EVT_EN_TCAM_PARITY : Fld := ⟨0x600020, 0x0, 0x0, 4, 4, 1, 1⟩
def COMPASS_EVT_EN_FWD_INVALID : Fld := ⟨0x600020, 0x0, 0x0, 3, 3, 1, 1⟩
def COMPASS_EVT_EN_STREAM_BLOCKED : Fld := ⟨0x600020, 0x0, 0x0, 2, 2, 1, 1⟩
def COMPASS_EVT_EN_WRITE_REJECT : Fld := ⟨0x600020, 0x0, 0x0, 1, 1, 1, 1⟩
def COMPASS_EVT_EN_BANK_FREE : Fld := ⟨0x600020, 0x0, 0x0, 0, 0, 1, 1⟩
def COMPASS_MISS0_ACTION : Fld := ⟨0x600028, 0x0, 0x0, 63, 0, 0, 0⟩
def COMPASS_MISS1_ACTION : Fld := ⟨0x600030, 0x0, 0x0, 63, 0, 0x8000000000000000, 9223372036854775808⟩
def COMPASS_RULE_CMD_BUSY : Fld := ⟨0x600040, 0x0, 0x0, 63, 63, 0, 0⟩
def COMPASS_RULE_CMD_CMD_IGNORED : Fld := ⟨0x600040, 0x0, 0x0, 62, 62, 0, 0⟩
def COMPASS_RULE_CMD_REJECTED : Fld := ⟨0x600040, 0x0, 0x0, 61, 61, 0, 0⟩
def COMPASS_RULE_CMD_ENTRY_VALID : Fld := ⟨0x600040, 0x0, 0x0, 60, 60, 0, 0⟩
def COMPASS_RULE_CMD_OP : Fld := ⟨0x600040, 0x0, 0x0, 59, 58, 0, 0⟩
def COMPASS_RULE_CMD_BANK : Fld := ⟨0x600040, 0x0, 0x0, 56, 56, 0, 0⟩
def COMPASS_RULE_CMD_INDEX : Fld := ⟨0x600040, 0x0, 0x0, 13, 0, 0, 0⟩
def COMPASS_RULE_ACT0_WORD0 : Fld := ⟨0x600048, 0x0, 0x0, 63, 0, 0, 0⟩
def COMPASS_RULE_ACT1_WORD1 : Fld := ⟨0x600050, 0x0, 0x0, 63, 0, 0, 0⟩
def COMPASS_RULE_KEY_VALUE : Fld := ⟨0x600080, 0x8, 0x0, 63, 0, 0, 0⟩
def COMPASS_RULE_MASK_MASK : Fld := ⟨0x6000c0, 0x8, 0x0, 63, 0, 0, 0⟩
def COMPASS_PG_NODE_VALID : Fld := ⟨0x601000, 0x80, 0x0, 63, 63, 0, 0⟩
def COMPASS_PG_NODE_LEN_MODE : Fld := ⟨0x601000, 0x80, 0x0, 62, 62, 0, 0⟩
def COMPASS_PG_NODE_LEN_OFF : Fld := ⟨0x601000, 0x80, 0x0, 61, 55, 0, 0⟩
def COMPASS_PG_NODE_LEN_SHIFT : Fld := ⟨0x601000, 0x80, 0x0, 54, 51, 0, 0⟩
def COMPASS_PG_NODE_LEN_MASK : Fld := ⟨0x601000, 0x80, 0x0, 50, 43, 0, 0⟩
def COMPASS_PG_NODE_LEN_MUL_LOG2 : Fld := ⟨0x601000, 0x80, 0x0, 42, 40, 0, 0⟩
def COMPASS_PG_NODE_LEN_ADD : Fld := ⟨0x601000, 0x80, 0x0, 39, 32, 0, 0⟩
def COMPASS_PG_NODE_MIN_LEN : Fld := ⟨0x601000, 0x80, 0x0, 31, 24, 0, 0⟩
def COMPASS_PG_NODE_SEL_OFF : Fld := ⟨0x601000, 0x80, 0x0, 23, 17, 0, 0⟩
def COMPASS_PG_NODE_SEL_WIDTH : Fld := ⟨0x601000, 0x80, 0x0, 16, 15, 0, 0⟩
def COMPASS_PG_NODE_DEFAULT_VALID : Fld := ⟨0x601000, 0x80, 0x0, 14, 14, 0, 0⟩
def COMPASS_PG_NODE_DEFAULT_NEXT : Fld := ⟨0x601000, 0x80, 0x0, 13, 8, 0, 0⟩
def COMPASS_PG_TRANS_VALID : Fld := ⟨0x601008, 0x80, 0x8, 63, 63, 0, 0⟩
def COMPASS_PG_TRANS_NEXT : Fld := ⟨0x601008, 0x80, 0x8, 61, 56, 0, 0⟩
def COMPASS_PG_TRANS_MASK : Fld := ⟨0x601008, 0x80, 0x8, 31, 16, 0, 0⟩
def COMPASS_PG_TRANS_VALUE : Fld := ⟨0x601008, 0x80, 0x8, 15, 0, 0, 0⟩
def COMPASS_PG_EXTRACT01_VALID0 : Fld := ⟨0x601048, 0x80, 0x0, 31, 31, 0, 0⟩
def COMPASS_PG_EXTRACT01_HDR_OFF0 : Fld := ⟨0x601048, 0x80, 0x0, 30, 24, 0, 0⟩
def COMPASS_PG_EXTRACT01_LEN_M1_0 : Fld := ⟨0x601048, 0x80, 0x0, 23, 20, 0, 0⟩
def COMPASS_PG_EXTRACT01_KEY_POS0 : Fld := ⟨0x601048, 0x80, 0x0, 13, 8, 0, 0⟩
def COMPASS_PG_EXTRACT01_VALID1 : Fld := ⟨0x601048, 0x80, 0x0, 63, 63, 0, 0⟩
def COMPASS_PG_EXTRACT01_HDR_OFF1 : Fld := ⟨0x601048, 0x80, 0x0, 62, 56, 0, 0⟩
def COMPASS_PG_EXTRACT01_LEN_M1_1 : Fld := ⟨0x601048, 0x80, 0x0, 55, 52, 0, 0⟩
def COMPASS_PG_EXTRACT01_KEY_POS1 : Fld := ⟨0x601048, 0x80, 0x0, 45, 40, 0, 0⟩
def COMPASS_PG_EXTRACT23_VALID2 : Fld := ⟨0x601050, 0x80, 0x0, 31, 31, 0, 0⟩
def COMPASS_PG_EXTRACT23_HDR_OFF2 : Fld := ⟨0x601050, 0x80, 0x0, 30, 24, 0, 0⟩
def COMPASS_PG_EXTRACT23_LEN_M1_2 : Fld := ⟨0x601050, 0x80, 0x0, 23, 20, 0, 0⟩
def COMPASS_PG_EXTRACT23_KEY_POS2 : Fld := ⟨0x601050, 0x80, 0x0, 13, 8, 0, 0⟩
def COMPASS_PG_EXTRACT23_VALID3 : Fld := ⟨0x601050, 0x80, 0x0, 63, 63, 0, 0⟩
def COMPASS_PG_EXTRACT23_HDR_OFF3 : Fld := ⟨0x601050, 0x80, 0x0, 62, 56, 0, 0⟩
def COMPASS_PG_EXTRACT23_LEN_M1_3 : Fld := ⟨0x601050, 0x80, 0x0, 55, 52, 0, 0⟩
def COMPASS_PG_EXTRACT23_KEY_POS3 : Fld := ⟨0x601050, 0x80, 0x0, 45, 40, 0, 0⟩
def COMPASS_SF_CFG_ENABLE : Fld := ⟨0x620000, 0x8, 0x0, 63, 63, 0, 0⟩
def COMPASS_SF_CFG_BLOCK_EN : Fld := ⟨0x620000, 0x8, 0x0, 62, 62, 0, 0⟩
def COMPASS_SF_CFG_BLOCKED : Fld := ⟨0x620000, 0x8, 0x0, 61, 61, 0, 0⟩
def COMPASS_SF_CFG_METER_VALID : Fld := ⟨0x620000, 0x8, 0x0, 60, 60, 0, 0⟩
def COMPASS_SF_CFG_METER : Fld := ⟨0x620000, 0x8, 0x0, 42, 32, 0, 0⟩
def COMPASS_SF_CFG_MAX_LEN : Fld := ⟨0x620000, 0x8, 0x0, 14, 0, 0, 0⟩
def COMPASS_METER_CFG_ENABLE : Fld := ⟨0x640000, 0x10, 0x0, 63, 63, 0, 0⟩
def COMPASS_METER_CFG_BURST : Fld := ⟨0x640000, 0x10, 0x0, 47, 32, 0, 0⟩
def COMPASS_METER_CFG_RATE : Fld := ⟨0x640000, 0x10, 0x0, 31, 0, 0, 0⟩
def COMPASS_METER_TOKENS_TOKENS : Fld := ⟨0x640008, 0x10, 0x0, 31, 0, 0, 0⟩
def HELM_STATUS_LAST_PORT : Fld := ⟨0x800000, 0x0, 0x0, 36, 32, 0, 0⟩
def HELM_STATUS_TAIL_DROP : Fld := ⟨0x800000, 0x0, 0x0, 3, 3, 0, 0⟩
def HELM_STATUS_UNSENDABLE : Fld := ⟨0x800000, 0x0, 0x0, 2, 2, 0, 0⟩
def HELM_STATUS_CONFIG_ERROR : Fld := ⟨0x800000, 0x0, 0x0, 1, 1, 0, 0⟩
def HELM_STATUS_CONFIG_CHANGED : Fld := ⟨0x800000, 0x0, 0x0, 0, 0, 0, 0⟩
def HELM_EVT_EN_TAIL_DROP : Fld := ⟨0x800008, 0x0, 0x0, 3, 3, 0, 0⟩
def HELM_EVT_EN_UNSENDABLE : Fld := ⟨0x800008, 0x0, 0x0, 2, 2, 1, 1⟩
def HELM_EVT_EN_CONFIG_ERROR : Fld := ⟨0x800008, 0x0, 0x0, 1, 1, 1, 1⟩
def HELM_EVT_EN_CONFIG_CHANGED : Fld := ⟨0x800008, 0x0, 0x0, 0, 0, 1, 1⟩
def HELM_SAMPLE_CFG_ENABLE : Fld := ⟨0x800010, 0x0, 0x0, 63, 63, 0, 0⟩
def HELM_SAMPLE_CFG_SHED : Fld := ⟨0x800010, 0x0, 0x0, 62, 62, 0, 0⟩
def HELM_SAMPLE_CFG_PERIOD_NS : Fld := ⟨0x800010, 0x0, 0x0, 31, 0, 0, 0⟩
def HELM_SAMPLE_PROD_PROD : Fld := ⟨0x800018, 0x0, 0x0, 31, 0, 0, 0⟩
def HELM_GATE_BASE_S_SECONDS : Fld := ⟨0x801008, 0x100, 0x0, 47, 0, 0, 0⟩
def HELM_GATE_BASE_NS_NANOSECONDS : Fld := ⟨0x801010, 0x100, 0x0, 47, 16, 0, 0⟩
def HELM_GATE_CYCLE_CYCLE_EXT : Fld := ⟨0x801018, 0x100, 0x0, 63, 32, 0, 0⟩
def HELM_GATE_CYCLE_CYCLE_NS : Fld := ⟨0x801018, 0x100, 0x0, 31, 0, 0, 0⟩
def HELM_GATE_CTRL_CONFIG_CHANGE : Fld := ⟨0x801020, 0x100, 0x0, 63, 63, 0, 0⟩
def HELM_GATE_CTRL_CANCEL : Fld := ⟨0x801020, 0x100, 0x0, 62, 62, 0, 0⟩
def HELM_GATE_CTRL_ADMIN_GATE_EN : Fld := ⟨0x801020, 0x100, 0x0, 61, 61, 0, 0⟩
def HELM_GATE_CTRL_ADMIN_TB : Fld := ⟨0x801020, 0x100, 0x0, 60, 59, 0, 0⟩
def HELM_GATE_CTRL_ADMIN_LIST_LEN : Fld := ⟨0x801020, 0x100, 0x0, 10, 0, 0, 0⟩
def HELM_GATE_STATUS_PENDING : Fld := ⟨0x801028, 0x100, 0x0, 63, 63, 0, 0⟩
def HELM_GATE_STATUS_CONFIG_ERROR : Fld := ⟨0x801028, 0x100, 0x0, 62, 62, 0, 0⟩
def HELM_GATE_STATUS_ADMIN_BUSY : Fld := ⟨0x801028, 0x100, 0x0, 61, 61, 0, 0⟩
def HELM_GATE_STATUS_OPER_GATE_EN : Fld := ⟨0x801028, 0x100, 0x0, 60, 60, 0, 0⟩
def HELM_GATE_STATUS_OPER_TB : Fld := ⟨0x801028, 0x100, 0x0, 59, 58, 0, 0⟩
def HELM_GATE_STATUS_OPER_LIST_LEN : Fld := ⟨0x801028, 0x100, 0x0, 42, 32, 0, 0⟩
def HELM_GATE_STATUS_ENTRY : Fld := ⟨0x801028, 0x100, 0x0, 25, 16, 0, 0⟩
def HELM_GATE_STATUS_STATES : Fld := ⟨0x801028, 0x100, 0x0, 7, 0, 0, 0⟩
def HELM_GATE_CHANGE_S_SECONDS : Fld := ⟨0x801030, 0x100, 0x0, 47, 0, 0, 0⟩
def HELM_GATE_CHANGE_NS_NANOSECONDS : Fld := ⟨0x801038, 0x100, 0x0, 47, 16, 0, 0⟩
def HELM_GATE_CHANGE_NS_FRACTION : Fld := ⟨0x801038, 0x100, 0x0, 15, 0, 0, 0⟩
def HELM_CLASS_CFG_BEST_EFFORT : Fld := ⟨0x801040, 0x100, 0x18, 63, 63, 0, 0⟩
def HELM_CLASS_CFG_SAMPLE_EN : Fld := ⟨0x801040, 0x100, 0x18, 62, 62, 0, 0⟩
def HELM_CLASS_CFG_QLIMIT : Fld := ⟨0x801040, 0x100, 0x18, 47, 32, 0, 256⟩
def HELM_CLASS_CFG_MAX_FRAME : Fld := ⟨0x801040, 0x100, 0x18, 14, 0, 0, 0⟩
def HELM_SHAPER_CFG_ENABLE : Fld := ⟨0x801048, 0x100, 0x18, 63, 63, 0, 0⟩
def HELM_SHAPER_CFG_BURST : Fld := ⟨0x801048, 0x100, 0x18, 47, 32, 0, 0⟩
def HELM_SHAPER_CFG_RATE : Fld := ⟨0x801048, 0x100, 0x18, 31, 0, 0, 0⟩
def HELM_SHAPER_TOKENS_TOKENS : Fld := ⟨0x801050, 0x100, 0x18, 39, 0, 0, 0⟩
def HELM_GATE_ADMIN_STATES : Fld := ⟨0x810000, 0x2000, 0x8, 63, 56, 0, 0⟩
def HELM_GATE_ADMIN_INTERVAL_NS : Fld := ⟨0x810000, 0x2000, 0x8, 31, 0, 0, 0⟩
def HELM_GATE_OPER_STATES : Fld := ⟨0x850000, 0x2000, 0x8, 63, 56, 0, 0⟩
def HELM_GATE_OPER_INTERVAL_NS : Fld := ⟨0x850000, 0x2000, 0x8, 31, 0, 0, 0⟩
def HELM_FLOW_CFG_METER_VALID : Fld := ⟨0x900000, 0x8, 0x0, 63, 63, 0, 0⟩
def HELM_FLOW_CFG_METER : Fld := ⟨0x900000, 0x8, 0x0, 50, 40, 0, 0⟩
def HELM_FLOW_CFG_PORT : Fld := ⟨0x900000, 0x8, 0x0, 36, 32, 0, 0⟩
def HELM_FLOW_CFG_CLASS : Fld := ⟨0x900000, 0x8, 0x0, 26, 24, 0, 0⟩
def HELM_FLOW_CFG_WEIGHT : Fld := ⟨0x900000, 0x8, 0x0, 7, 0, 0, 1⟩
def REDUN_STATUS_LAST_STREAM : Fld := ⟨0xa00000, 0x0, 0x0, 43, 32, 0, 0⟩
def REDUN_STATUS_GEN_TOO_LONG : Fld := ⟨0xa00000, 0x0, 0x0, 3, 3, 0, 0⟩
def REDUN_STATUS_FRER_RESET : Fld := ⟨0xa00000, 0x0, 0x0, 2, 2, 0, 0⟩
def REDUN_STATUS_FRER_ROGUE : Fld := ⟨0xa00000, 0x0, 0x0, 1, 1, 0, 0⟩
def REDUN_STATUS_PE_VERIFY_CHANGE : Fld := ⟨0xa00000, 0x0, 0x0, 0, 0, 0, 0⟩
def REDUN_EVT_EN_GEN_TOO_LONG : Fld := ⟨0xa00008, 0x0, 0x0, 3, 3, 1, 1⟩
def REDUN_EVT_EN_FRER_RESET : Fld := ⟨0xa00008, 0x0, 0x0, 2, 2, 0, 0⟩
def REDUN_EVT_EN_FRER_ROGUE : Fld := ⟨0xa00008, 0x0, 0x0, 1, 1, 0, 0⟩
def REDUN_EVT_EN_PE_VERIFY_CHANGE : Fld := ⟨0xa00008, 0x0, 0x0, 0, 0, 1, 1⟩
def REDUN_PE_CFG_ENABLE : Fld := ⟨0xa01000, 0x20, 0x0, 63, 63, 0, 0⟩
def REDUN_PE_CFG_VERIFY_DISABLE : Fld := ⟨0xa01000, 0x20, 0x0, 62, 62, 0, 0⟩
def REDUN_PE_CFG_ADD_FRAG_SIZE : Fld := ⟨0xa01000, 0x20, 0x0, 61, 60, 0, 0⟩
def REDUN_PE_CFG_PREEMPTABLE : Fld := ⟨0xa01000, 0x20, 0x0, 55, 48, 0, 0⟩
def REDUN_PE_CFG_VERIFY_LIMIT : Fld := ⟨0xa01000, 0x20, 0x0, 18, 16, 0, 3⟩
def REDUN_PE_CFG_VERIFY_TIME_MS : Fld := ⟨0xa01000, 0x20, 0x0, 15, 8, 0, 10⟩
def REDUN_PE_STATUS_CHANGED : Fld := ⟨0xa01008, 0x20, 0x0, 15, 15, 0, 0⟩
def REDUN_PE_STATUS_ATTEMPTS : Fld := ⟨0xa01008, 0x20, 0x0, 11, 8, 0, 0⟩
def REDUN_PE_STATUS_ACTIVE : Fld := ⟨0xa01008, 0x20, 0x0, 4, 4, 0, 0⟩
def REDUN_PE_STATUS_VERIFY_STATUS : Fld := ⟨0xa01008, 0x20, 0x0, 2, 0, 0, 0⟩
def REDUN_PE_CTRL_VERIFY_RESTART : Fld := ⟨0xa01010, 0x20, 0x0, 0, 0, 0, 0⟩
def REDUN_STREAM_CFG_GENERATE : Fld := ⟨0xa10000, 0x20, 0x0, 63, 63, 0, 0⟩
def REDUN_STREAM_CFG_RECOVER : Fld := ⟨0xa10000, 0x20, 0x0, 62, 62, 0, 0⟩
def REDUN_STREAM_CFG_DECODE : Fld := ⟨0xa10000, 0x20, 0x0, 61, 61, 0, 0⟩
def REDUN_STREAM_CFG_TAKE_NO_SEQ : Fld := ⟨0xa10000, 0x20, 0x0, 60, 60, 0, 0⟩
def REDUN_STREAM_CFG_TX_PORTS : Fld := ⟨0xa10000, 0x20, 0x0, 31, 0, 0, 0⟩
def REDUN_STREAM_RCVY_HISTORY_LEN : Fld := ⟨0xa10008, 0x20, 0x0, 38, 32, 0, 32⟩
def REDUN_STREAM_RCVY_RESET_US : Fld := ⟨0xa10008, 0x20, 0x0, 19, 0, 0, 2000⟩
def REDUN_STREAM_STATE_GEN_SEQ : Fld := ⟨0xa10010, 0x20, 0x0, 63, 48, 0, 0⟩
def REDUN_STREAM_STATE_RCVY_SEQ : Fld := ⟨0xa10010, 0x20, 0x0, 47, 32, 0, 0⟩
def REDUN_STREAM_STATE_TAKE_ANY : Fld := ⟨0xa10010, 0x20, 0x0, 16, 16, 1, 1⟩
def REDUN_STREAM_CTRL_GEN_RESET : Fld := ⟨0xa10018, 0x20, 0x0, 1, 1, 0, 0⟩
def REDUN_STREAM_CTRL_RCVY_RESET : Fld := ⟨0xa10018, 0x20, 0x0, 0, 0, 0, 0⟩
def QUEUE_STATUS_POOL_FREE : Fld := ⟨0xb00000, 0x0, 0x0, 63, 48, 0, 0⟩
def QUEUE_STATUS_BACKLOG_USED : Fld := ⟨0xb00000, 0x0, 0x0, 47, 32, 0, 0⟩
def QUEUE_STATUS_CREATE_OK : Fld := ⟨0xb00000, 0x0, 0x0, 1, 1, 0, 0⟩
def QUEUE_STATUS_ADMIN_ENABLED : Fld := ⟨0xb00000, 0x0, 0x0, 0, 0, 0, 0⟩
def QUEUE_EVT_STATUS_LAST_QUEUE : Fld := ⟨0xb00008, 0x0, 0x0, 43, 32, 0, 0⟩
def QUEUE_EVT_STATUS_QUEUE_FAULT : Fld := ⟨0xb00008, 0x0, 0x0, 4, 4, 0, 0⟩
def QUEUE_EVT_STATUS_RXQ_NO_BUFFER : Fld := ⟨0xb00008, 0x0, 0x0, 3, 3, 0, 0⟩
def QUEUE_EVT_STATUS_CQ_CONS_INVALID : Fld := ⟨0xb00008, 0x0, 0x0, 2, 2, 0, 0⟩
def QUEUE_EVT_STATUS_SQ_OVERRUN : Fld := ⟨0xb00008, 0x0, 0x0, 1, 1, 0, 0⟩
def QUEUE_EVT_STATUS_CQ_STALL : Fld := ⟨0xb00008, 0x0, 0x0, 0, 0, 0, 0⟩
def QUEUE_EVT_EN_QUEUE_FAULT : Fld := ⟨0xb00010, 0x0, 0x0, 4, 4, 1, 1⟩
def QUEUE_EVT_EN_RXQ_NO_BUFFER : Fld := ⟨0xb00010, 0x0, 0x0, 3, 3, 0, 0⟩
def QUEUE_EVT_EN_CQ_CONS_INVALID : Fld := ⟨0xb00010, 0x0, 0x0, 2, 2, 1, 1⟩
def QUEUE_EVT_EN_SQ_OVERRUN : Fld := ⟨0xb00010, 0x0, 0x0, 1, 1, 1, 1⟩
def QUEUE_EVT_EN_CQ_STALL : Fld := ⟨0xb00010, 0x0, 0x0, 0, 0, 1, 1⟩
def QUEUE_CFG_RETRY_MAX : Fld := ⟨0xb00018, 0x0, 0x0, 3, 0, 0, 3⟩
def QUEUE_ACY_CFG_ENABLE : Fld := ⟨0xb00020, 0x0, 0x0, 63, 63, 0, 0⟩
def QUEUE_ACY_CFG_RXQ : Fld := ⟨0xb00020, 0x0, 0x0, 11, 0, 0, 0⟩
def QUEUE_ADMIN_SQ_BASE_ADDR : Fld := ⟨0xb00100, 0x0, 0x0, 63, 12, 0, 0⟩
def QUEUE_ADMIN_CQ_BASE_ADDR : Fld := ⟨0xb00108, 0x0, 0x0, 63, 12, 0, 0⟩
def QUEUE_ADMIN_CFG_ENABLE : Fld := ⟨0xb00110, 0x0, 0x0, 63, 63, 0, 0⟩
def QUEUE_ADMIN_CFG_NOTIFY_EN : Fld := ⟨0xb00110, 0x0, 0x0, 62, 62, 0, 0⟩
def QUEUE_ADMIN_CFG_CFG_ERR : Fld := ⟨0xb00110, 0x0, 0x0, 61, 61, 0, 0⟩
def QUEUE_ADMIN_CFG_CQ_SIZE_LOG2 : Fld := ⟨0xb00110, 0x0, 0x0, 36, 32, 0, 0⟩
def QUEUE_ADMIN_CFG_SQ_SIZE_LOG2 : Fld := ⟨0xb00110, 0x0, 0x0, 28, 24, 0, 0⟩
def QUEUE_ADMIN_CFG_VECTOR : Fld := ⟨0xb00110, 0x0, 0x0, 10, 0, 0, 0⟩
def QUEUE_ADMIN_SQ_PROD_INDEX : Fld := ⟨0xb00118, 0x0, 0x0, 31, 0, 0, 0⟩
def QUEUE_ADMIN_SQ_CONS_INDEX : Fld := ⟨0xb00120, 0x0, 0x0, 31, 0, 0, 0⟩
def QUEUE_ADMIN_CQ_PROD_INDEX : Fld := ⟨0xb00128, 0x0, 0x0, 31, 0, 0, 0⟩
def QUEUE_ADMIN_CQ_CONS_INDEX : Fld := ⟨0xb00130, 0x0, 0x0, 31, 0, 0, 0⟩
def QUEUE_ADMIN_SQ_DB_RING : Fld := ⟨0xb00138, 0x0, 0x0, 63, 0, 0, 0⟩
def QUEUE_ADMIN_CQ_DB_RING : Fld := ⟨0xb00140, 0x0, 0x0, 63, 0, 0, 0⟩
def QUEUE_SQ_PROD_PROD : Fld := ⟨0xb10000, 0x20, 0x0, 31, 0, 0, 0⟩
def QUEUE_SQ_CONS_CONS : Fld := ⟨0xb10008, 0x20, 0x0, 31, 0, 0, 0⟩
def QUEUE_SQ_CTRL_INVALIDATE : Fld := ⟨0xb10010, 0x20, 0x0, 0, 0, 0, 0⟩
def QUEUE_SQ_STATUS_EXISTS : Fld := ⟨0xb10018, 0x20, 0x0, 63, 63, 0, 0⟩
def QUEUE_SQ_STATUS_FAULT : Fld := ⟨0xb10018, 0x20, 0x0, 62, 62, 0, 0⟩
def QUEUE_SQ_STATUS_INVALIDATING : Fld := ⟨0xb10018, 0x20, 0x0, 61, 61, 0, 0⟩
def QUEUE_SQ_STATUS_KIND : Fld := ⟨0xb10018, 0x20, 0x0, 60, 59, 0, 0⟩
def QUEUE_SQ_STATUS_TB : Fld := ⟨0xb10018, 0x20, 0x0, 58, 57, 0, 0⟩
def QUEUE_SQ_STATUS_BATCHING : Fld := ⟨0xb10018, 0x20, 0x0, 56, 56, 0, 0⟩
def QUEUE_SQ_STATUS_CQ : Fld := ⟨0xb10018, 0x20, 0x0, 51, 40, 0, 0⟩
def QUEUE_SQ_STATUS_SIZE_LOG2 : Fld := ⟨0xb10018, 0x20, 0x0, 36, 32, 0, 0⟩
def QUEUE_SQ_STATUS_OUTSTANDING : Fld := ⟨0xb10018, 0x20, 0x0, 31, 16, 0, 0⟩
def QUEUE_SQ_STATUS_CACHED : Fld := ⟨0xb10018, 0x20, 0x0, 4, 0, 0, 0⟩
def QUEUE_CQ_PROD_PROD : Fld := ⟨0xb40000, 0x20, 0x0, 31, 0, 0, 0⟩
def QUEUE_CQ_CONS_CONS : Fld := ⟨0xb40008, 0x20, 0x0, 31, 0, 0, 0⟩
def QUEUE_CQ_STATUS_EXISTS : Fld := ⟨0xb40010, 0x20, 0x0, 63, 63, 0, 0⟩
def QUEUE_CQ_STATUS_STALLED : Fld := ⟨0xb40010, 0x20, 0x0, 62, 62, 0, 0⟩
def QUEUE_CQ_STATUS_ARMED : Fld := ⟨0xb40010, 0x20, 0x0, 61, 61, 0, 0⟩
def QUEUE_CQ_STATUS_NOTIFY_EN : Fld := ⟨0xb40010, 0x20, 0x0, 60, 60, 0, 0⟩
def QUEUE_CQ_STATUS_VECTOR : Fld := ⟨0xb40010, 0x20, 0x0, 58, 48, 0, 0⟩
def QUEUE_CQ_STATUS_SIZE_LOG2 : Fld := ⟨0xb40010, 0x20, 0x0, 44, 40, 0, 0⟩
def QUEUE_CQ_STATUS_BACKLOG : Fld := ⟨0xb40010, 0x20, 0x0, 31, 16, 0, 0⟩
def QUEUE_CQ_STATUS_POOL_HELD : Fld := ⟨0xb40010, 0x20, 0x0, 15, 0, 0, 0⟩
def TENDER_STATUS_STAGE_USED_KIB : Fld := ⟨0xc00000, 0x0, 0x0, 42, 32, 0, 0⟩
def TENDER_STATUS_READS_OUT : Fld := ⟨0xc00000, 0x0, 0x0, 9, 0, 0, 0⟩
def TENDER_CFG_CH_STAGE_KIB : Fld := ⟨0xc00008, 0x0, 0x0, 15, 8, 0, 64⟩
def TENDER_CFG_RETRY_MAX : Fld := ⟨0xc00008, 0x0, 0x0, 3, 0, 0, 3⟩
def TENDER_HALTED_CHANNELS : Fld := ⟨0xc00010, 0x0, 0x0, 63, 0, 0, 0⟩
def TENDER_EVT_STATUS_LAST_CHANNEL : Fld := ⟨0xc00018, 0x0, 0x0, 13, 8, 0, 0⟩
def TENDER_EVT_STATUS_START_REJECT : Fld := ⟨0xc00018, 0x0, 0x0, 1, 1, 0, 0⟩
def TENDER_EVT_STATUS_CH_ERROR : Fld := ⟨0xc00018, 0x0, 0x0, 0, 0, 0, 0⟩
def TENDER_EVT_EN_START_REJECT : Fld := ⟨0xc00020, 0x0, 0x0, 1, 1, 1, 1⟩
def TENDER_EVT_EN_CH_ERROR : Fld := ⟨0xc00020, 0x0, 0x0, 0, 0, 1, 1⟩
def TENDER_CH_START_DESC_ADDR : Fld := ⟨0xc01000, 0x40, 0x0, 63, 6, 0, 0⟩
def TENDER_CH_START_DESC_START_VALID : Fld := ⟨0xc01000, 0x40, 0x0, 0, 0, 0, 0⟩
def TENDER_CH_STATE_BARRIER_WAIT : Fld := ⟨0xc01008, 0x40, 0x0, 3, 3, 0, 0⟩
def TENDER_CH_STATE_BME_WAIT : Fld := ⟨0xc01008, 0x40, 0x0, 2, 2, 0, 0⟩
def TENDER_CH_STATE_STATE : Fld := ⟨0xc01008, 0x40, 0x0, 1, 0, 0, 0⟩
def TENDER_CH_CTRL_CLEAR : Fld := ⟨0xc01010, 0x40, 0x0, 1, 1, 0, 0⟩
def TENDER_CH_CTRL_ABORT : Fld := ⟨0xc01010, 0x40, 0x0, 0, 0, 0, 0⟩
def TENDER_CH_ERR_ADDR_ADDR : Fld := ⟨0xc01018, 0x40, 0x0, 63, 0, 0, 0⟩
def TENDER_CH_ERR_INFO_CAUSE : Fld := ⟨0xc01020, 0x40, 0x0, 63, 56, 0, 0⟩
def TENDER_CH_ERR_INFO_CLASS : Fld := ⟨0xc01020, 0x40, 0x0, 55, 53, 0, 0⟩
def TENDER_CH_ERR_INFO_DIR : Fld := ⟨0xc01020, 0x40, 0x0, 52, 52, 0, 0⟩
def TENDER_CH_ERR_INFO_DESC_INDEX : Fld := ⟨0xc01020, 0x40, 0x0, 47, 32, 0, 0⟩
def TENDER_CH_ERR_INFO_BYTE_OFFSET : Fld := ⟨0xc01020, 0x40, 0x0, 31, 0, 0, 0⟩
def TENDER_CH_ERR_DESC_ADDR : Fld := ⟨0xc01028, 0x40, 0x0, 63, 0, 0, 0⟩
def TENDER_CH_PROGRESS_DESC_LO : Fld := ⟨0xc01030, 0x40, 0x0, 63, 32, 0, 0⟩
def TENDER_CH_PROGRESS_BYTES_DONE : Fld := ⟨0xc01030, 0x40, 0x0, 31, 0, 0, 0⟩

end F

/-- The GLOBAL block's registers (R521). -/
def globalRegs : List RegDef := [
  { addr := 0x0,
    fields := [
      { fld := F.GLOBAL_STATUS_HALT_CAUSE, type := .ro },
      { fld := F.GLOBAL_STATUS_LIFECYCLE, type := .ro },
      { fld := F.GLOBAL_STATUS_CHART_FAULT, type := .ro },
      { fld := F.GLOBAL_STATUS_STATE, type := .ro }] },
  { addr := 0x8,
    fields := [
      { fld := F.GLOBAL_ID_PART, type := .ro },
      { fld := F.GLOBAL_ID_REVISION, type := .ro },
      { fld := F.GLOBAL_ID_DEVICE_ID, type := .rl, isC := true }] },
  { addr := 0x10,
    fields := [
      { fld := F.GLOBAL_UID_UID, type := .ro }] },
  { addr := 0x18,
    fields := [
      { fld := F.GLOBAL_MAC_ADDRESS, type := .rl, isC := true }] },
  { addr := 0x20,
    fields := [
      { fld := F.GLOBAL_CTRL_KEY, type := .wo },
      { fld := F.GLOBAL_CTRL_WARM_RESET, type := .wo }] },
  { addr := 0x28,
    fields := [
      { fld := F.GLOBAL_CFG_TEST_PERMITTED, type := .rl, isC := true }] }]

/-- The CHART block's registers (R521). -/
def chartRegs : List RegDef := [
  { addr := 0x10000,
    fields := [
      { fld := F.CHART_STATUS_SEQ, type := .ro },
      { fld := F.CHART_STATUS_SVN, type := .ro },
      { fld := F.CHART_STATUS_FUSED_SVN, type := .ro },
      { fld := F.CHART_STATUS_FUSE_ERROR, type := .w1c },
      { fld := F.CHART_STATUS_ERASING, type := .ro },
      { fld := F.CHART_STATUS_OVERRIDE_SKIPPED, type := .w1c },
      { fld := F.CHART_STATUS_STAGE_OPEN, type := .ro },
      { fld := F.CHART_STATUS_HEADER_COPY, type := .ro },
      { fld := F.CHART_STATUS_HEADER_FAULT, type := .ro },
      { fld := F.CHART_STATUS_LOADED, type := .ro },
      { fld := F.CHART_STATUS_SLOT, type := .ro }] },
  { addr := 0x10008,
    fields := [
      { fld := F.CHART_SLOT_A_SEQ, type := .ro },
      { fld := F.CHART_SLOT_A_SVN, type := .ro },
      { fld := F.CHART_SLOT_A_FAULT_SECTION, type := .ro },
      { fld := F.CHART_SLOT_A_FAULT, type := .ro }] },
  { addr := 0x10010,
    fields := [
      { fld := F.CHART_SLOT_B_SEQ, type := .ro },
      { fld := F.CHART_SLOT_B_SVN, type := .ro },
      { fld := F.CHART_SLOT_B_FAULT_SECTION, type := .ro },
      { fld := F.CHART_SLOT_B_FAULT, type := .ro }] },
  { addr := 0x10018,
    fields := [
      { fld := F.CHART_FLASH_JEDEC_ID, type := .ro },
      { fld := F.CHART_FLASH_SIZE_LOG2, type := .ro },
      { fld := F.CHART_FLASH_CLOCK_MHZ, type := .ro },
      { fld := F.CHART_FLASH_MODE, type := .ro }] },
  { addr := 0x10020,
    fields := [
      { fld := F.CHART_TIMING_TO_MUSTER_US, type := .ro },
      { fld := F.CHART_TIMING_LOAD_US, type := .ro }] },
  { addr := 0x10028,
    fields := [
      { fld := F.CHART_PERSIST_RECORDS, type := .ro },
      { fld := F.CHART_PERSIST_FREE_KIB, type := .ro },
      { fld := F.CHART_PERSIST_MAX_ERASES, type := .ro }] }]

/-- The TRIM block's registers, part 1 (R405). -/
def trimRegs1 : List RegDef := [
  { addr := 0x20000,
    fields := [
      { fld := F.TRIM_STATUS_HEADING, type := .ro, isC := true },
      { fld := F.TRIM_STATUS_RUNG, type := .ro },
      { fld := F.TRIM_STATUS_AT_CEILING, type := .ro },
      { fld := F.TRIM_STATUS_OVER_CAP, type := .ro },
      { fld := F.TRIM_STATUS_AVS_FAULT, type := .ro },
      { fld := F.TRIM_STATUS_RELAX, type := .ro },
      { fld := F.TRIM_STATUS_MARGIN, type := .ro }] },
  { addr := 0x20008,
    fields := [
      { fld := F.TRIM_HEADING_PREVIOUS, type := .ro, isC := true },
      { fld := F.TRIM_HEADING_SELECT, type := .rw, isC := true }] },
  { addr := 0x20010,
    fields := [
      { fld := F.TRIM_EVT_STATUS_FABRIC_REPLAY, type := .w1c },
      { fld := F.TRIM_EVT_STATUS_HEADING_REFUSED, type := .w1c },
      { fld := F.TRIM_EVT_STATUS_HEADING_CHANGED, type := .w1c },
      { fld := F.TRIM_EVT_STATUS_AVS_FAULT, type := .w1c },
      { fld := F.TRIM_EVT_STATUS_THERM_WARN, type := .w1c },
      { fld := F.TRIM_EVT_STATUS_SLACK_MISS, type := .w1c },
      { fld := F.TRIM_EVT_STATUS_LADDER, type := .w1c },
      { fld := F.TRIM_EVT_STATUS_OVERRIDE, type := .w1c }] },
  { addr := 0x20018,
    fields := [
      { fld := F.TRIM_EVT_EN_FABRIC_REPLAY, type := .rw },
      { fld := F.TRIM_EVT_EN_HEADING_REFUSED, type := .rw },
      { fld := F.TRIM_EVT_EN_HEADING_CHANGED, type := .rw },
      { fld := F.TRIM_EVT_EN_AVS_FAULT, type := .rw },
      { fld := F.TRIM_EVT_EN_THERM_WARN, type := .rw },
      { fld := F.TRIM_EVT_EN_SLACK_MISS, type := .rw },
      { fld := F.TRIM_EVT_EN_LADDER, type := .rw },
      { fld := F.TRIM_EVT_EN_OVERRIDE, type := .rw }] },
  { addr := 0x20020,
    fields := [
      { fld := F.TRIM_LOOP_CFG_RELAX_INTERVALS, type := .rl, range := some (1, 65535), isC := true },
      { fld := F.TRIM_LOOP_CFG_HYST_NS, type := .rl, isC := true },
      { fld := F.TRIM_LOOP_CFG_STEP_UP_MV, type := .rl, range := some (1, 50), isC := true },
      { fld := F.TRIM_LOOP_CFG_STEP_DOWN_MV, type := .rl, range := some (1, 50), isC := true },
      { fld := F.TRIM_LOOP_CFG_EVAL_US, type := .rl, range := some (5, 1000), isC := true }] },
  { addr := 0x20028,
    fields := [
      { fld := F.TRIM_AVS_SLEW_MV_US, type := .rl, range := some (1, 255), isC := true },
      { fld := F.TRIM_AVS_FAULT_RUN, type := .ro },
      { fld := F.TRIM_AVS_ACKED_MV, type := .ro },
      { fld := F.TRIM_AVS_REQUEST_MV, type := .ro }] },
  { addr := 0x20030,
    fields := [
      { fld := F.TRIM_POWER_CAP_W, type := .rw, reserved := [(0, 19), (251, 255)], isC := true },
      { fld := F.TRIM_POWER_POWER_DW, type := .ro },
      { fld := F.TRIM_POWER_CORE_CURRENT_DA, type := .ro }] },
  { addr := 0x20038,
    fields := [
      { fld := F.TRIM_THERMAL_WARN_C, type := .rl, isC := true },
      { fld := F.TRIM_THERMAL_HOT_SENSOR, type := .ro },
      { fld := F.TRIM_THERMAL_TMAX_C, type := .ro }] },
  { addr := 0x20040,
    fields := [
      { fld := F.TRIM_DSP_EXEMPT_PORTS, type := .rl, isC := true }] },
  { addr := 0x20100, n1 := 8, s1 := 0x10,
    fields := [
      { fld := F.TRIM_HROW_A_PINNED, type := .rl, isC := true },
      { fld := F.TRIM_HROW_A_LADDER_DEPTH, type := .rl, range := some (0, 4), isC := true },
      { fld := F.TRIM_HROW_A_DSP, type := .rl, reserved := [(3, 3)], isC := true },
      { fld := F.TRIM_HROW_A_PIPES, type := .rl, range := some (1, 8), isC := true },
      { fld := F.TRIM_HROW_A_VMAX_MV, type := .rl, range := some (620, 880), isC := true },
      { fld := F.TRIM_HROW_A_CAP_W, type := .rl, range := some (20, 250), isC := true },
      { fld := F.TRIM_HROW_A_OTHER_W, type := .rl, range := some (0, 250), isC := true },
      { fld := F.TRIM_HROW_A_FWD_FLOOR_NS, type := .rl, range := some (0, 500), isC := true },
      { fld := F.TRIM_HROW_A_FLOOR_NS, type := .rl, isC := true }] }]

/-- The TRIM block's registers, part 2 (R405). -/
def trimRegs2 : List RegDef := [
  { addr := 0x20108, n1 := 8, s1 := 0x10,
    fields := [
      { fld := F.TRIM_HROW_B_SAMPLE_NS, type := .rl, isC := true }] },
  { addr := 0x20200, n1 := 8, s1 := 0x8,
    fields := [
      { fld := F.TRIM_CURVE_VALID, type := .rl, isC := true },
      { fld := F.TRIM_CURVE_T_C, type := .rl, isC := true },
      { fld := F.TRIM_CURVE_VMIN_MV, type := .rl, range := some (620, 880), isC := true }] },
  { addr := 0x20300, n1 := 8, s1 := 0x8,
    fields := [
      { fld := F.TRIM_LOG_ENABLE, type := .rl, isC := true },
      { fld := F.TRIM_LOG_MISSES, type := .rc },
      { fld := F.TRIM_LOG_MIN_SLACK, type := .ro }] },
  { addr := 0x20400, n1 := 24, s1 := 0x8,
    fields := [
      { fld := F.TRIM_SENSOR_VALID, type := .ro },
      { fld := F.TRIM_SENSOR_TEMP_C, type := .ro }] },
  { addr := 0x20500, n1 := 16, s1 := 0x8,
    fields := [
      { fld := F.TRIM_FABRIC_MAX_RUN, type := .ro },
      { fld := F.TRIM_FABRIC_REPLAYS, type := .rc }] }]

/-- The TRIM block's registers (R405). -/
def trimRegs : List RegDef := trimRegs1 ++ trimRegs2

/-- The EVENT block's registers (R489). -/
def eventRegs : List RegDef := [
  { addr := 0x30000,
    fields := [
      { fld := F.EVENT_SUMMARY_WORDS, type := .ro }] },
  { addr := 0x30100, n1 := 8, s1 := 0x8,
    fields := [
      { fld := F.EVENT_STATUS_BITS, type := .w1c }] },
  { addr := 0x31000, n1 := 512, s1 := 0x8,
    fields := [
      { fld := F.EVENT_ROUTE_MSIX_EN, type := .rw, isC := true },
      { fld := F.EVENT_ROUTE_VECTOR, type := .rw, isC := true },
      { fld := F.EVENT_ROUTE_PF1_EN, type := .rw, isC := true },
      { fld := F.EVENT_ROUTE_PF1_VECTOR, type := .rw, isC := true },
      { fld := F.EVENT_ROUTE_TENDER_EN, type := .rw, isC := true },
      { fld := F.EVENT_ROUTE_TENDER_CH, type := .rw, reserved := [(0, 15)], isC := true },
      { fld := F.EVENT_ROUTE_DEFER_EN, type := .rw, isC := true },
      { fld := F.EVENT_ROUTE_DEFER_CP, type := .rw, isC := true },
      { fld := F.EVENT_ROUTE_TIO_MASK, type := .rw, isC := true },
      { fld := F.EVENT_ROUTE_HELD, type := .ro }] },
  { addr := 0x34000, n1 := 2048, s1 := 0x8,
    fields := [
      { fld := F.EVENT_VEC_HOLDOFF_NS, type := .rw, isC := true },
      { fld := F.EVENT_VEC_THRESH, type := .rw, reserved := [(0, 0)], isC := true },
      { fld := F.EVENT_VEC_PENDING, type := .ro }] }]

/-- The RECKON block's registers, part 1 (R69, R257). -/
def reckonRegs1 : List RegDef := [
  { addr := 0x40000,
    fields := [
      { fld := F.RECKON_RAW_VALUE, type := .ro }] },
  { addr := 0x40008,
    fields := [
      { fld := F.RECKON_STATUS_REF_LOST_SEEN, type := .w1c },
      { fld := F.RECKON_STATUS_REF_LOST, type := .ro },
      { fld := F.RECKON_STATUS_REF_SEL, type := .ro }] },
  { addr := 0x40010,
    fields := [
      { fld := F.RECKON_SNAP_CTRL_SEQ, type := .ro },
      { fld := F.RECKON_SNAP_CTRL_TAKE, type := .wo }] },
  { addr := 0x40018,
    fields := [
      { fld := F.RECKON_SNAP_RAW_VALUE, type := .ro }] },
  { addr := 0x40020,
    fields := [
      { fld := F.RECKON_SNAP_A_HI_SECONDS, type := .ro }] },
  { addr := 0x40028,
    fields := [
      { fld := F.RECKON_SNAP_A_LO_NANOSECONDS, type := .ro },
      { fld := F.RECKON_SNAP_A_LO_FRACTION, type := .ro }] },
  { addr := 0x40030,
    fields := [
      { fld := F.RECKON_SNAP_B_HI_SECONDS, type := .ro }] },
  { addr := 0x40038,
    fields := [
      { fld := F.RECKON_SNAP_B_LO_NANOSECONDS, type := .ro },
      { fld := F.RECKON_SNAP_B_LO_FRACTION, type := .ro }] },
  { addr := 0x40040,
    fields := [
      { fld := F.RECKON_SNAP_X_HI_SECONDS, type := .ro }] },
  { addr := 0x40048,
    fields := [
      { fld := F.RECKON_SNAP_X_LO_NANOSECONDS, type := .ro },
      { fld := F.RECKON_SNAP_X_LO_FRACTION, type := .ro }] }]

/-- The RECKON block's registers, part 2 (R69, R257). -/
def reckonRegs2 : List RegDef := [
  { addr := 0x40050,
    fields := [
      { fld := F.RECKON_PRIMARY_AUTO, type := .rw, isC := true },
      { fld := F.RECKON_PRIMARY_ARM, type := .rw },
      { fld := F.RECKON_PRIMARY_TARGET, type := .rw },
      { fld := F.RECKON_PRIMARY_PRIMARY, type := .ro, isC := true }] },
  { addr := 0x40058,
    fields := [
      { fld := F.RECKON_SWITCH_AT_VALUE, type := .rw }] },
  { addr := 0x40060,
    fields := [
      { fld := F.RECKON_PPS_RAW_VALUE, type := .ro }] },
  { addr := 0x40068,
    fields := [
      { fld := F.RECKON_PTM_CTRL_INTERVAL_MS, type := .rw, reserved := [(0, 0)] },
      { fld := F.RECKON_PTM_CTRL_TRIGGER, type := .wo },
      { fld := F.RECKON_PTM_CTRL_AUTO, type := .rw }] },
  { addr := 0x40070,
    fields := [
      { fld := F.RECKON_PTM_STATUS_SEQ, type := .ro },
      { fld := F.RECKON_PTM_STATUS_FAIL, type := .w1c },
      { fld := F.RECKON_PTM_STATUS_VALID, type := .ro },
      { fld := F.RECKON_PTM_STATUS_RAW_FRACTION, type := .ro }] },
  { addr := 0x40078,
    fields := [
      { fld := F.RECKON_PTM_MASTER_VALUE, type := .ro }] },
  { addr := 0x40080,
    fields := [
      { fld := F.RECKON_PTM_RAW_VALUE, type := .ro }] },
  { addr := 0x40100, n1 := 3, s1 := 0x100,
    fields := [
      { fld := F.RECKON_D_CTRL_FOLDS, type := .ro },
      { fld := F.RECKON_D_CTRL_REJECT, type := .w1c },
      { fld := F.RECKON_D_CTRL_PENDING, type := .ro },
      { fld := F.RECKON_D_CTRL_SERVO_ALIVE, type := .wo },
      { fld := F.RECKON_D_CTRL_STATE, type := .ro }] },
  { addr := 0x40108, n1 := 3, s1 := 0x100,
    fields := [
      { fld := F.RECKON_D_INCR_INCR, type := .rw, reserved := [(0, 1373702339952), (1375076729488, 281474976710655)], isC := true }] },
  { addr := 0x40110, n1 := 3, s1 := 0x100,
    fields := [
      { fld := F.RECKON_D_STEP_NANOSECONDS, type := .wo },
      { fld := F.RECKON_D_STEP_FRACTION, type := .wo }] }]

/-- The RECKON block's registers, part 3 (R69, R257). -/
def reckonRegs3 : List RegDef := [
  { addr := 0x40118, n1 := 3, s1 := 0x100,
    fields := [
      { fld := F.RECKON_D_SET_HI_SECONDS, type := .wo }] },
  { addr := 0x40120, n1 := 3, s1 := 0x100,
    fields := [
      { fld := F.RECKON_D_SET_LO_NANOSECONDS, type := .wo },
      { fld := F.RECKON_D_SET_LO_FRACTION, type := .wo }] },
  { addr := 0x40128, n1 := 3, s1 := 0x100,
    fields := [
      { fld := F.RECKON_D_BASE_HI_SECONDS, type := .ro }] },
  { addr := 0x40130, n1 := 3, s1 := 0x100,
    fields := [
      { fld := F.RECKON_D_BASE_LO_NANOSECONDS, type := .ro },
      { fld := F.RECKON_D_BASE_LO_FRACTION, type := .ro }] },
  { addr := 0x40138, n1 := 3, s1 := 0x100,
    fields := [
      { fld := F.RECKON_D_RAW_AT_BASE_VALUE, type := .ro }] },
  { addr := 0x40140, n1 := 3, s1 := 0x100,
    fields := [
      { fld := F.RECKON_D_HOLDOVER_TIMEOUT_TIMEOUT_MS, type := .rw, isC := true }] },
  { addr := 0x40400,
    fields := [
      { fld := F.RECKON_STREC_PROD_PROD, type := .ro }] },
  { addr := 0x40408,
    fields := [
      { fld := F.RECKON_STREC_CONS_CONS, type := .rw }] },
  { addr := 0x41000, n1 := 16, s1 := 0x40,
    fields := [
      { fld := F.RECKON_TIO_CFG_WIDTH_NS, type := .rw, isC := true },
      { fld := F.RECKON_TIO_CFG_RECORD, type := .rw, isC := true },
      { fld := F.RECKON_TIO_CFG_EDGES, type := .rw, reserved := [(0, 0)], isC := true },
      { fld := F.RECKON_TIO_CFG_POLARITY, type := .rw, isC := true },
      { fld := F.RECKON_TIO_CFG_TB, type := .rw, isC := true },
      { fld := F.RECKON_TIO_CFG_MODE, type := .rw, reserved := [(5, 7)], isC := true }] },
  { addr := 0x41008, n1 := 16, s1 := 0x40,
    fields := [
      { fld := F.RECKON_TIO_START_S_SECONDS, type := .rw, isC := true }] }]

/-- The RECKON block's registers, part 4 (R69, R257). -/
def reckonRegs4 : List RegDef := [
  { addr := 0x41010, n1 := 16, s1 := 0x40,
    fields := [
      { fld := F.RECKON_TIO_START_NS_NANOSECONDS, type := .rw, range := some (0, 999999999), isC := true },
      { fld := F.RECKON_TIO_START_NS_FRACTION, type := .rw, isC := true }] },
  { addr := 0x41018, n1 := 16, s1 := 0x40,
    fields := [
      { fld := F.RECKON_TIO_PERIOD_NANOSECONDS, type := .rw, isC := true },
      { fld := F.RECKON_TIO_PERIOD_FRACTION, type := .rw, isC := true }] },
  { addr := 0x41020, n1 := 16, s1 := 0x40,
    fields := [
      { fld := F.RECKON_TIO_CTRL_DISARM, type := .wo },
      { fld := F.RECKON_TIO_CTRL_ARM, type := .wo }] },
  { addr := 0x41028, n1 := 16, s1 := 0x40,
    fields := [
      { fld := F.RECKON_TIO_CAPTURE_RAW, type := .ro }] },
  { addr := 0x41030, n1 := 16, s1 := 0x40,
    fields := [
      { fld := F.RECKON_TIO_STATUS_CAP_SEQ, type := .ro },
      { fld := F.RECKON_TIO_STATUS_MISSED, type := .rc },
      { fld := F.RECKON_TIO_STATUS_LEVEL, type := .ro },
      { fld := F.RECKON_TIO_STATUS_ARM_ERR, type := .w1c },
      { fld := F.RECKON_TIO_STATUS_OVERRUN, type := .w1c },
      { fld := F.RECKON_TIO_STATUS_CAP_NEW, type := .w1c },
      { fld := F.RECKON_TIO_STATUS_LATE, type := .w1c },
      { fld := F.RECKON_TIO_STATUS_ARMED, type := .ro }] }]

/-- The RECKON block's registers (R69, R257). -/
def reckonRegs : List RegDef := reckonRegs1 ++ reckonRegs2 ++ reckonRegs3 ++ reckonRegs4

/-- The FIX block's registers, part 1 (R227). -/
def fixRegs1 : List RegDef := [
  { addr := 0x50000,
    fields := [
      { fld := F.FIX_STATUS_USED, type := .ro },
      { fld := F.FIX_STATUS_MEASURED, type := .ro },
      { fld := F.FIX_STATUS_ATTEMPT, type := .ro },
      { fld := F.FIX_STATUS_SOURCE_LOSS, type := .ro },
      { fld := F.FIX_STATUS_REGAIN, type := .ro },
      { fld := F.FIX_STATUS_STATE, type := .ro }] },
  { addr := 0x50008,
    fields := [
      { fld := F.FIX_CFG_SELF, type := .rl, isC := true },
      { fld := F.FIX_CFG_CS_CAPABLE, type := .rl, isC := true },
      { fld := F.FIX_CFG_RANK, type := .rl, isC := true },
      { fld := F.FIX_CFG_TX_OFFSET, type := .rl, isC := true }] },
  { addr := 0x50010,
    fields := [
      { fld := F.FIX_TX_CS_WINDOW_OFFSET, type := .rl, isC := true },
      { fld := F.FIX_TX_PORTS, type := .rl, isC := true }] },
  { addr := 0x50018,
    fields := [
      { fld := F.FIX_LIMITS_SOURCE_LOSS_LIMIT, type := .rl, range := some (1, 65535), isC := true },
      { fld := F.FIX_LIMITS_REGAIN_CROSSINGS, type := .rl, range := some (1, 255), isC := true },
      { fld := F.FIX_LIMITS_RATE_LIMIT_PPM, type := .rl, range := some (1, 200), isC := true },
      { fld := F.FIX_LIMITS_OFFSET_LIMIT, type := .rl, range := some (1, 4294967295), isC := true }] },
  { addr := 0x50020,
    fields := [
      { fld := F.FIX_COLDSTART_INTEGRATE_CROSSINGS, type := .rl, range := some (1, 15), isC := true },
      { fld := F.FIX_COLDSTART_CONFIRM_CROSSINGS, type := .rl, range := some (1, 15), isC := true },
      { fld := F.FIX_COLDSTART_BACKOFF_BASE, type := .rl, isC := true },
      { fld := F.FIX_COLDSTART_LISTEN_TIMEOUT, type := .rl, isC := true }] },
  { addr := 0x50028,
    fields := [
      { fld := F.FIX_PEERS_VALID0, type := .rl, isC := true },
      { fld := F.FIX_PEERS_DEV0, type := .rl, isC := true },
      { fld := F.FIX_PEERS_RANK0, type := .rl, isC := true },
      { fld := F.FIX_PEERS_VALID1, type := .rl, isC := true },
      { fld := F.FIX_PEERS_DEV1, type := .rl, isC := true },
      { fld := F.FIX_PEERS_RANK1, type := .rl, isC := true },
      { fld := F.FIX_PEERS_VALID2, type := .rl, isC := true },
      { fld := F.FIX_PEERS_DEV2, type := .rl, isC := true },
      { fld := F.FIX_PEERS_RANK2, type := .rl, isC := true },
      { fld := F.FIX_PEERS_VALID3, type := .rl, isC := true },
      { fld := F.FIX_PEERS_DEV3, type := .rl, isC := true },
      { fld := F.FIX_PEERS_RANK3, type := .rl, isC := true }] },
  { addr := 0x50030,
    fields := [
      { fld := F.FIX_STEER_COUPLING, type := .rwa, isC := true },
      { fld := F.FIX_STEER_DOMAIN, type := .rwa, reserved := [(0, 0)], isC := true },
      { fld := F.FIX_STEER_SHIFT, type := .rwa, isC := true },
      { fld := F.FIX_STEER_LIMIT_PPB, type := .rwa, range := some (1, 65535), isC := true },
      { fld := F.FIX_STEER_PHASE_NS, type := .rwa, isC := true }] },
  { addr := 0x50038,
    fields := [
      { fld := F.FIX_OFFSET_NANOSECONDS, type := .ro },
      { fld := F.FIX_OFFSET_FRACTION, type := .ro }] },
  { addr := 0x50040,
    fields := [
      { fld := F.FIX_RATE_STEER_PPB, type := .ro },
      { fld := F.FIX_RATE_RATE_PPB, type := .ro }] },
  { addr := 0x50048,
    fields := [
      { fld := F.FIX_MUSTER_CFG_MUSTER_TIMEOUT_MS, type := .rl, range := some (1, 65535), isC := true }] }]

/-- The FIX block's registers, part 2 (R227). -/
def fixRegs2 : List RegDef := [
  { addr := 0x50050,
    fields := [
      { fld := F.FIX_CS_WINDOW_COLLISION_WINDOW, type := .rl, range := some (1, 4294967295), isC := true }] },
  { addr := 0x51000, n1 := 15, s1 := 0x10,
    fields := [
      { fld := F.FIX_SRC_ENABLE, type := .rl, isC := true },
      { fld := F.FIX_SRC_PORT, type := .rl, isC := true },
      { fld := F.FIX_SRC_DEV, type := .rl, isC := true },
      { fld := F.FIX_SRC_DELAY_NS, type := .rl, isC := true },
      { fld := F.FIX_SRC_DELAY_FRACTION, type := .rl, isC := true }] },
  { addr := 0x51008, n1 := 15, s1 := 0x10,
    fields := [
      { fld := F.FIX_SRC_DEV_MEASURED, type := .ro },
      { fld := F.FIX_SRC_DEV_NANOSECONDS, type := .ro },
      { fld := F.FIX_SRC_DEV_FRACTION, type := .ro }] },
  { addr := 0x52000, n1 := 32, s1 := 0x8,
    fields := [
      { fld := F.FIX_MUSTER_BR_POLICY, type := .rl, isC := true },
      { fld := F.FIX_MUSTER_BR_ACCEPT, type := .wo },
      { fld := F.FIX_MUSTER_BR_RESULT, type := .ro },
      { fld := F.FIX_MUSTER_BR_REASON, type := .ro },
      { fld := F.FIX_MUSTER_BR_ABSENT, type := .ro },
      { fld := F.FIX_MUSTER_BR_EXTRA, type := .ro },
      { fld := F.FIX_MUSTER_BR_FOUND, type := .ro }] }]

/-- The FIX block's registers (R227). -/
def fixRegs : List RegDef := fixRegs1 ++ fixRegs2

/-- The CROSS block's registers, part 1 (R143). -/
def crossRegs1 : List RegDef := [
  { addr := 0x100000,
    fields := [
      { fld := F.CROSS_STATUS_RUNNING, type := .ro },
      { fld := F.CROSS_STATUS_CROSSING, type := .ro }] },
  { addr := 0x100008,
    fields := [
      { fld := F.CROSS_PERIOD_PERIOD_NS, type := .rl, range := some (10000, 100000000), isC := true }] },
  { addr := 0x100010,
    fields := [
      { fld := F.CROSS_MARGINS_MERGE_MARGIN, type := .rl, isC := true },
      { fld := F.CROSS_MARGINS_SKIFF_LEAD, type := .rl, isC := true },
      { fld := F.CROSS_MARGINS_READY_MARGIN, type := .rl, range := some (500, 65535), isC := true }] },
  { addr := 0x100018,
    fields := [
      { fld := F.CROSS_SPARE_SPARE_TOTAL, type := .rl, isC := true },
      { fld := F.CROSS_SPARE_SPARE_CLAIMED, type := .ro }] },
  { addr := 0x101000, n1 := 32, s1 := 0x100,
    fields := [
      { fld := F.CROSS_BR_CFG_ENABLE, type := .rl, isC := true },
      { fld := F.CROSS_BR_CFG_DUAL, type := .rl, isC := true },
      { fld := F.CROSS_BR_CFG_PORT_A, type := .rl, isC := true },
      { fld := F.CROSS_BR_CFG_PORT_B, type := .rl, isC := true },
      { fld := F.CROSS_BR_CFG_SUBMULT, type := .rl, reserved := [(7, 7)], isC := true },
      { fld := F.CROSS_BR_CFG_PHASE, type := .rl, isC := true },
      { fld := F.CROSS_BR_CFG_SKIFF_MAX, type := .rl, reserved := [(3, 3)], isC := true },
      { fld := F.CROSS_BR_CFG_TRAIN_LAST, type := .rl, isC := true },
      { fld := F.CROSS_BR_CFG_BERTHS, type := .rl, range := some (1, 16384), isC := true }] },
  { addr := 0x101008, n1 := 32, s1 := 0x100,
    fields := [
      { fld := F.CROSS_BR_LAUNCH_LAUNCH_OFFSET, type := .rl, isC := true }] },
  { addr := 0x101010, n1 := 32, s1 := 0x100,
    fields := [
      { fld := F.CROSS_BR_DEADLINE_INPUT_DEADLINE, type := .rl, isC := true }] },
  { addr := 0x101018, n1 := 32, s1 := 0x100,
    fields := [
      { fld := F.CROSS_BR_RTT_A_NANOSECONDS, type := .ro },
      { fld := F.CROSS_BR_RTT_A_FRACTION, type := .ro }] },
  { addr := 0x101020, n1 := 32, s1 := 0x100,
    fields := [
      { fld := F.CROSS_BR_RTT_B_NANOSECONDS, type := .ro },
      { fld := F.CROSS_BR_RTT_B_FRACTION, type := .ro }] },
  { addr := 0x101028, n1 := 32, s1 := 0x100,
    fields := [
      { fld := F.CROSS_BR_STATUS_MERGE_LATE, type := .w1c },
      { fld := F.CROSS_BR_STATUS_TALLY_ILLEGAL, type := .w1c },
      { fld := F.CROSS_BR_STATUS_NOT_REFRESHED, type := .w1c },
      { fld := F.CROSS_BR_STATUS_LATE_COPY, type := .w1c },
      { fld := F.CROSS_BR_STATUS_SKIFF_OVERFLOW, type := .w1c },
      { fld := F.CROSS_BR_STATUS_SKIFF_NO_TIME, type := .w1c },
      { fld := F.CROSS_BR_STATUS_UNLAUNCHED, type := .w1c },
      { fld := F.CROSS_BR_STATUS_READY_LATE, type := .w1c }] }]

/-- The CROSS block's registers, part 2 (R143). -/
def crossRegs2 : List RegDef := [
  { addr := 0x101030, n1 := 32, s1 := 0x100,
    fields := [
      { fld := F.CROSS_BR_EVT_EN_MERGE_LATE, type := .rw },
      { fld := F.CROSS_BR_EVT_EN_TALLY_ILLEGAL, type := .rw },
      { fld := F.CROSS_BR_EVT_EN_NOT_REFRESHED, type := .rw },
      { fld := F.CROSS_BR_EVT_EN_LATE_COPY, type := .rw },
      { fld := F.CROSS_BR_EVT_EN_SKIFF_OVERFLOW, type := .rw },
      { fld := F.CROSS_BR_EVT_EN_SKIFF_NO_TIME, type := .rw },
      { fld := F.CROSS_BR_EVT_EN_UNLAUNCHED, type := .rw },
      { fld := F.CROSS_BR_EVT_EN_READY_LATE, type := .rw }] },
  { addr := 0x101038, n1 := 32, s1 := 0x100,
    fields := [
      { fld := F.CROSS_BR_LAST_CROSSING, type := .ro }] },
  { addr := 0x101040, n1 := 32, s1 := 0x100,
    fields := [
      { fld := F.CROSS_BR_RTT_LIMIT_LINE_LIMIT_NS, type := .rl, isC := true },
      { fld := F.CROSS_BR_RTT_LIMIT_RING_LIMIT_NS, type := .rl, isC := true }] },
  { addr := 0x104000, n1 := 64, s1 := 0x10,
    fields := [
      { fld := F.CROSS_CP_CFG_ENABLE, type := .rwa, isC := true },
      { fld := F.CROSS_CP_CFG_MILESTONE, type := .rwa, reserved := [(7, 15)], isC := true },
      { fld := F.CROSS_CP_CFG_BRANCH, type := .rwa, isC := true },
      { fld := F.CROSS_CP_CFG_EVERY, type := .rwa, reserved := [(7, 7)], isC := true },
      { fld := F.CROSS_CP_CFG_PHASE, type := .rwa, isC := true },
      { fld := F.CROSS_CP_CFG_OFFSET, type := .rwa, isC := true }] },
  { addr := 0x104008, n1 := 64, s1 := 0x10,
    fields := [
      { fld := F.CROSS_CP_STATUS_FORCED, type := .w1c },
      { fld := F.CROSS_CP_STATUS_VALID, type := .ro },
      { fld := F.CROSS_CP_STATUS_LAST_CROSSING, type := .ro }] }]

/-- The CROSS block's registers (R143). -/
def crossRegs : List RegDef := crossRegs1 ++ crossRegs2

/-- The CARGO block's registers, part 1 (R174). -/
def cargoRegs1 : List RegDef := [
  { addr := 0x200000,
    fields := [
      { fld := F.CARGO_STATUS_STABLE_CROSSING, type := .ro },
      { fld := F.CARGO_STATUS_SNAP_BUSY, type := .ro },
      { fld := F.CARGO_STATUS_FETCH_BUSY, type := .ro },
      { fld := F.CARGO_STATUS_DETACHED_BY_ERROR, type := .w1c },
      { fld := F.CARGO_STATUS_ATTACH_ERR, type := .w1c },
      { fld := F.CARGO_STATUS_ATTACHED, type := .ro }] },
  { addr := 0x200008,
    fields := [
      { fld := F.CARGO_CTRL_DETACH, type := .wo },
      { fld := F.CARGO_CTRL_ATTACH, type := .wo }] },
  { addr := 0x200010,
    fields := [
      { fld := F.CARGO_IMAGE_IN_SIZE, type := .rl, range := some (0, 4194304), isC := true },
      { fld := F.CARGO_IMAGE_OUT_SIZE, type := .rl, range := some (0, 4194304), isC := true }] },
  { addr := 0x200018,
    fields := [
      { fld := F.CARGO_LAYOUT_STATUS_ENTRIES, type := .rl, range := some (0, 65536), isC := true },
      { fld := F.CARGO_LAYOUT_IN_DATA_BASE, type := .rl, isC := true }] },
  { addr := 0x200020,
    fields := [
      { fld := F.CARGO_TIMING_ERR_LIMIT, type := .rl, range := some (1, 255), isC := true },
      { fld := F.CARGO_TIMING_FETCH_AT, type := .rl, isC := true }] },
  { addr := 0x200028,
    fields := [
      { fld := F.CARGO_HOST_SEQ_ADDR_ADDR, type := .rw }] },
  { addr := 0x200030,
    fields := [
      { fld := F.CARGO_HOST_IN_BASE_ADDR, type := .rw }] },
  { addr := 0x200038,
    fields := [
      { fld := F.CARGO_HOST_OUT_BASE_ADDR, type := .rw }] },
  { addr := 0x200040,
    fields := [
      { fld := F.CARGO_HOST_SLOTS_OUT_SLOTS, type := .rw },
      { fld := F.CARGO_HOST_SLOTS_IN_SLOTS_LOG2, type := .rw },
      { fld := F.CARGO_HOST_SLOTS_OUT_STRIDE, type := .rw },
      { fld := F.CARGO_HOST_SLOTS_IN_STRIDE, type := .rw }] },
  { addr := 0x200048,
    fields := [
      { fld := F.CARGO_ERR_ADDR_ADDR, type := .ro }] }]

/-- The CARGO block's registers, part 2 (R174). -/
def cargoRegs2 : List RegDef := [
  { addr := 0x200050,
    fields := [
      { fld := F.CARGO_ERR_INFO_CROSSING, type := .ro },
      { fld := F.CARGO_ERR_INFO_ERR_RUN, type := .ro },
      { fld := F.CARGO_ERR_INFO_META, type := .ro },
      { fld := F.CARGO_ERR_INFO_DIR, type := .ro }] },
  { addr := 0x201000, n1 := 32, s1 := 0x10,
    fields := [
      { fld := F.CARGO_BR_POLICY_LATCHED, type := .ro },
      { fld := F.CARGO_BR_POLICY_REARM, type := .wo },
      { fld := F.CARGO_BR_POLICY_AGE_LIMIT, type := .rl, range := some (0, 254), isC := true },
      { fld := F.CARGO_BR_POLICY_POLICY, type := .rl, reserved := [(3, 3)], isC := true }] }]

/-- The CARGO block's registers (R174). -/
def cargoRegs : List RegDef := cargoRegs1 ++ cargoRegs2

/-- The PILOT block's registers, part 1 (R198). -/
def pilotRegs1 : List RegDef := [
  { addr := 0x300000,
    fields := [
      { fld := F.PILOT_CFG_UPLINK_ACCEPT, type := .rl, range := some (4, 65535), isC := true },
      { fld := F.PILOT_CFG_ACCEPT_WINDOW, type := .rl, range := some (4, 65535), isC := true },
      { fld := F.PILOT_CFG_PRECISION_NS, type := .rl, isC := true }] },
  { addr := 0x300008,
    fields := [
      { fld := F.PILOT_FENCE_CFG_FENCE_BOTH, type := .rl, isC := true },
      { fld := F.PILOT_FENCE_CFG_REFENCE_MAX, type := .rl, range := some (1, 127), isC := true },
      { fld := F.PILOT_FENCE_CFG_PROBATION_LEN, type := .rl, range := some (1, 65535), isC := true },
      { fld := F.PILOT_FENCE_CFG_FENCE_HOLD, type := .rl, range := some (1, 65535), isC := true },
      { fld := F.PILOT_FENCE_CFG_FENCE_PERIOD, type := .rl, range := some (1, 65535), isC := true },
      { fld := F.PILOT_FENCE_CFG_VIOLATION_LIMIT, type := .rl, range := some (1, 255), isC := true }] },
  { addr := 0x301000, n1 := 32, s1 := 0x40,
    fields := [
      { fld := F.PILOT_ARM_CFG_FENCE_EN, type := .rl, isC := true },
      { fld := F.PILOT_ARM_CFG_ROLE, type := .rl, reserved := [(3, 3)], isC := true },
      { fld := F.PILOT_ARM_CFG_BRANCH, type := .rl, isC := true }] },
  { addr := 0x301008, n1 := 32, s1 := 0x40,
    fields := [
      { fld := F.PILOT_ARM_STATE_REFENCES, type := .ro },
      { fld := F.PILOT_ARM_STATE_VIOL_RECENT, type := .ro },
      { fld := F.PILOT_ARM_STATE_REMAIN, type := .ro },
      { fld := F.PILOT_ARM_STATE_STATE, type := .ro }] },
  { addr := 0x301010, n1 := 32, s1 := 0x40,
    fields := [
      { fld := F.PILOT_ARM_CTRL_UNFENCE, type := .wo },
      { fld := F.PILOT_ARM_CTRL_FORCE_FENCE, type := .wo }] },
  { addr := 0x301018, n1 := 32, s1 := 0x40,
    fields := [
      { fld := F.PILOT_ARM_STATUS_FENCE_HELD, type := .w1c },
      { fld := F.PILOT_ARM_STATUS_LOCKED, type := .w1c },
      { fld := F.PILOT_ARM_STATUS_UNFENCED, type := .w1c },
      { fld := F.PILOT_ARM_STATUS_FENCED, type := .w1c },
      { fld := F.PILOT_ARM_STATUS_VIOLATION, type := .w1c }] },
  { addr := 0x301020, n1 := 32, s1 := 0x40,
    fields := [
      { fld := F.PILOT_ARM_EVT_EN_FENCE_HELD, type := .rw },
      { fld := F.PILOT_ARM_EVT_EN_LOCKED, type := .rw },
      { fld := F.PILOT_ARM_EVT_EN_UNFENCED, type := .rw },
      { fld := F.PILOT_ARM_EVT_EN_FENCED, type := .rw },
      { fld := F.PILOT_ARM_EVT_EN_VIOLATION, type := .rw }] },
  { addr := 0x301028, n1 := 32, s1 := 0x40,
    fields := [
      { fld := F.PILOT_ARM_RTT_LINE_NANOSECONDS, type := .ro },
      { fld := F.PILOT_ARM_RTT_LINE_FRACTION, type := .ro }] },
  { addr := 0x301030, n1 := 32, s1 := 0x40,
    fields := [
      { fld := F.PILOT_ARM_LAST_CROSSING, type := .ro },
      { fld := F.PILOT_ARM_LAST_KIND, type := .ro }] },
  { addr := 0x301038, n1 := 32, s1 := 0x40,
    fields := [
      { fld := F.PILOT_ARM_LAST_DEV_DEVIATION, type := .ro }] }]

/-- The PILOT block's registers, part 2 (R198). -/
def pilotRegs2 : List RegDef := [
  { addr := 0x308000, n1 := 32, s1 := 0x40, n2 := 4, s2 := 0x10,
    fields := [
      { fld := F.PILOT_ACY_CFG_ENABLE, type := .rl, isC := true },
      { fld := F.PILOT_ACY_CFG_DIR, type := .rl, isC := true },
      { fld := F.PILOT_ACY_CFG_MAX_DATA, type := .rl, range := some (0, 1024), isC := true },
      { fld := F.PILOT_ACY_CFG_ROTA_BASE, type := .rl, isC := true },
      { fld := F.PILOT_ACY_CFG_ROTA_LEN, type := .rl, reserved := [(0, 0), (257, 511)], isC := true }] },
  { addr := 0x308008, n1 := 32, s1 := 0x40, n2 := 4, s2 := 0x10,
    fields := [
      { fld := F.PILOT_ACY_GAP_GAP_NS, type := .rl, isC := true }] },
  { addr := 0x310000, n1 := 4096, s1 := 0x8,
    fields := [
      { fld := F.PILOT_ROTA_NODE, type := .rl, isC := true }] }]

/-- The PILOT block's registers (R198). -/
def pilotRegs : List RegDef := pilotRegs1 ++ pilotRegs2

/-- The PORT block's registers, part 1 (R290, R257). -/
def portRegs1 : List RegDef := [
  { addr := 0x400000, n1 := 32, s1 := 0x10000,
    fields := [
      { fld := F.PORT_MODE_TX_INVERT, type := .rl, isC := true },
      { fld := F.PORT_MODE_RX_INVERT, type := .rl, isC := true },
      { fld := F.PORT_MODE_ABSORBED, type := .ro },
      { fld := F.PORT_MODE_AN_EN, type := .rl, isC := true },
      { fld := F.PORT_MODE_FEC, type := .rl, reserved := [(3, 3)], isC := true },
      { fld := F.PORT_MODE_MODE, type := .rl, reserved := [(11, 15)], isC := true }] },
  { addr := 0x400008, n1 := 32, s1 := 0x10000,
    fields := [
      { fld := F.PORT_STATE_LINK_ATTEMPTS, type := .ro },
      { fld := F.PORT_STATE_PATTERN_LOCK, type := .ro },
      { fld := F.PORT_STATE_TRAINED, type := .ro },
      { fld := F.PORT_STATE_AN_DONE, type := .ro },
      { fld := F.PORT_STATE_HI_BER, type := .ro },
      { fld := F.PORT_STATE_FEC_LOCK, type := .ro },
      { fld := F.PORT_STATE_PCS_LOCK, type := .ro },
      { fld := F.PORT_STATE_SIGNAL, type := .ro },
      { fld := F.PORT_STATE_STATE, type := .ro }] },
  { addr := 0x400010, n1 := 32, s1 := 0x10000,
    fields := [
      { fld := F.PORT_CTRL_LOOPBACK, type := .rw },
      { fld := F.PORT_CTRL_TEST_PATTERN, type := .rw, reserved := [(6, 7)] },
      { fld := F.PORT_CTRL_TEST_STOP, type := .wo },
      { fld := F.PORT_CTRL_TEST_START, type := .wo },
      { fld := F.PORT_CTRL_WAKE, type := .wo },
      { fld := F.PORT_CTRL_SLEEP, type := .wo },
      { fld := F.PORT_CTRL_RESTART, type := .wo }] },
  { addr := 0x400018, n1 := 32, s1 := 0x10000,
    fields := [
      { fld := F.PORT_STATUS_SLEEP_REFUSED, type := .w1c },
      { fld := F.PORT_STATUS_AN_FAIL, type := .w1c },
      { fld := F.PORT_STATUS_RX_PAUSED, type := .w1c },
      { fld := F.PORT_STATUS_XOFF_SENT, type := .w1c },
      { fld := F.PORT_STATUS_HI_BER, type := .w1c },
      { fld := F.PORT_STATUS_WAKE, type := .w1c },
      { fld := F.PORT_STATUS_LINK_DOWN, type := .w1c },
      { fld := F.PORT_STATUS_STATE_CHANGE, type := .w1c }] },
  { addr := 0x400020, n1 := 32, s1 := 0x10000,
    fields := [
      { fld := F.PORT_EVT_EN_SLEEP_REFUSED, type := .rw },
      { fld := F.PORT_EVT_EN_AN_FAIL, type := .rw },
      { fld := F.PORT_EVT_EN_RX_PAUSED, type := .rw },
      { fld := F.PORT_EVT_EN_XOFF_SENT, type := .rw },
      { fld := F.PORT_EVT_EN_HI_BER, type := .rw },
      { fld := F.PORT_EVT_EN_WAKE, type := .rw },
      { fld := F.PORT_EVT_EN_LINK_DOWN, type := .rw },
      { fld := F.PORT_EVT_EN_STATE_CHANGE, type := .rw }] },
  { addr := 0x400028, n1 := 32, s1 := 0x10000,
    fields := [
      { fld := F.PORT_FRAME_PASS_CTRL, type := .rw, isC := true },
      { fld := F.PORT_FRAME_RX_CSUM, type := .rw, isC := true },
      { fld := F.PORT_FRAME_DELIVER_BAD, type := .rw, isC := true },
      { fld := F.PORT_FRAME_MAX_FRAME, type := .rl, range := some (64, 16384), isC := true }] },
  { addr := 0x400030, n1 := 32, s1 := 0x10000,
    fields := [
      { fld := F.PORT_FLOW_PAUSE_QUANTA, type := .rl, range := some (2, 65535), isC := true },
      { fld := F.PORT_FLOW_DEFAULT_PRIO, type := .rl, isC := true },
      { fld := F.PORT_FLOW_MODE, type := .rl, reserved := [(3, 3)], isC := true }] },
  { addr := 0x400038, n1 := 32, s1 := 0x10000,
    fields := [
      { fld := F.PORT_FLOW_WM_HOLD_LIMIT, type := .rl, isC := true },
      { fld := F.PORT_FLOW_WM_HIGH_WM, type := .rl, isC := true },
      { fld := F.PORT_FLOW_WM_LOW_WM, type := .rl, isC := true }] },
  { addr := 0x400040, n1 := 32, s1 := 0x10000,
    fields := [
      { fld := F.PORT_FLOW_STATUS_PAUSED, type := .ro },
      { fld := F.PORT_FLOW_STATUS_XOFF, type := .ro },
      { fld := F.PORT_FLOW_STATUS_OCCUPANCY, type := .ro }] },
  { addr := 0x400048, n1 := 32, s1 := 0x10000,
    fields := [
      { fld := F.PORT_WAKE_CTRL_LAST_SIGNAL, type := .ro },
      { fld := F.PORT_WAKE_CTRL_LAST_PATTERN, type := .ro },
      { fld := F.PORT_WAKE_CTRL_WAKE_ON_SIGNAL, type := .rw, isC := true }] }]

/-- The PORT block's registers, part 2 (R290, R257). -/
def portRegs2 : List RegDef := [
  { addr := 0x400050, n1 := 32, s1 := 0x10000,
    fields := [
      { fld := F.PORT_TEST_ERRORS_ERRORS, type := .rc }] },
  { addr := 0x400100, n1 := 32, s1 := 0x10000, n2 := 8, s2 := 0x20,
    fields := [
      { fld := F.PORT_WAKE_CFG_ENABLE, type := .rw, isC := true },
      { fld := F.PORT_WAKE_CFG_LEN, type := .rw, reserved := [(0, 0), (129, 255)], isC := true },
      { fld := F.PORT_WAKE_CFG_CHECK, type := .rw, isC := true }] },
  { addr := 0x400108, n1 := 32, s1 := 0x10000, n2 := 8, s2 := 0x20,
    fields := [
      { fld := F.PORT_WAKE_MASK_LO_MASK, type := .rw, isC := true }] },
  { addr := 0x400110, n1 := 32, s1 := 0x10000, n2 := 8, s2 := 0x20,
    fields := [
      { fld := F.PORT_WAKE_MASK_HI_MASK, type := .rw, isC := true }] },
  { addr := 0x400e00, n1 := 32, s1 := 0x10000,
    fields := [
      { fld := F.PORT_STAMP_CAL_TX_CAL, type := .ro },
      { fld := F.PORT_STAMP_CAL_RX_CAL, type := .ro }] },
  { addr := 0x400e08, n1 := 32, s1 := 0x10000,
    fields := [
      { fld := F.PORT_STAMP_BOARD_BOARD_TX, type := .rl, isC := true },
      { fld := F.PORT_STAMP_BOARD_BOARD_RX, type := .rl, isC := true }] }]

/-- The PORT block's registers (R290, R257). -/
def portRegs : List RegDef := portRegs1 ++ portRegs2

/-- The COMPASS block's registers, part 1 (R351). -/
def compassRegs1 : List RegDef := [
  { addr := 0x600000,
    fields := [
      { fld := F.COMPASS_CFG_MIRROR_CLASS, type := .rl, isC := true },
      { fld := F.COMPASS_CFG_START_NODE, type := .rl, isC := true }] },
  { addr := 0x600008,
    fields := [
      { fld := F.COMPASS_BANK_WRITABLE1, type := .ro },
      { fld := F.COMPASS_BANK_WRITABLE0, type := .ro },
      { fld := F.COMPASS_BANK_ACTIVE, type := .ro, isC := true },
      { fld := F.COMPASS_BANK_PINNED1, type := .ro },
      { fld := F.COMPASS_BANK_PINNED0, type := .ro }] },
  { addr := 0x600010,
    fields := [
      { fld := F.COMPASS_BANK_CTRL_TARGET, type := .wo },
      { fld := F.COMPASS_BANK_CTRL_SWAP, type := .wo }] },
  { addr := 0x600018,
    fields := [
      { fld := F.COMPASS_STATUS_PARITY_BANK, type := .ro },
      { fld := F.COMPASS_STATUS_PARITY_INDEX, type := .ro },
      { fld := F.COMPASS_STATUS_TCAM_PARITY, type := .w1c },
      { fld := F.COMPASS_STATUS_FWD_INVALID, type := .w1c },
      { fld := F.COMPASS_STATUS_STREAM_BLOCKED, type := .w1c },
      { fld := F.COMPASS_STATUS_WRITE_REJECT, type := .w1c },
      { fld := F.COMPASS_STATUS_BANK_FREE, type := .w1c }] },
  { addr := 0x600020,
    fields := [
      { fld := F.COMPASS_EVT_EN_TCAM_PARITY, type := .rw },
      { fld := F.COMPASS_EVT_EN_FWD_INVALID, type := .rw },
      { fld := F.COMPASS_EVT_EN_STREAM_BLOCKED, type := .rw },
      { fld := F.COMPASS_EVT_EN_WRITE_REJECT, type := .rw },
      { fld := F.COMPASS_EVT_EN_BANK_FREE, type := .rw }] },
  { addr := 0x600028,
    fields := [
      { fld := F.COMPASS_MISS0_ACTION, type := .rw, isC := true }] },
  { addr := 0x600030,
    fields := [
      { fld := F.COMPASS_MISS1_ACTION, type := .rw }] },
  { addr := 0x600040,
    fields := [
      { fld := F.COMPASS_RULE_CMD_BUSY, type := .ro },
      { fld := F.COMPASS_RULE_CMD_CMD_IGNORED, type := .w1c },
      { fld := F.COMPASS_RULE_CMD_REJECTED, type := .w1c },
      { fld := F.COMPASS_RULE_CMD_ENTRY_VALID, type := .ro },
      { fld := F.COMPASS_RULE_CMD_OP, type := .wo },
      { fld := F.COMPASS_RULE_CMD_BANK, type := .rw },
      { fld := F.COMPASS_RULE_CMD_INDEX, type := .rw }] },
  { addr := 0x600048,
    fields := [
      { fld := F.COMPASS_RULE_ACT0_WORD0, type := .rw }] },
  { addr := 0x600050,
    fields := [
      { fld := F.COMPASS_RULE_ACT1_WORD1, type := .rw }] }]

/-- The COMPASS block's registers, part 2 (R351). -/
def compassRegs2 : List RegDef := [
  { addr := 0x600080, n1 := 8, s1 := 0x8,
    fields := [
      { fld := F.COMPASS_RULE_KEY_VALUE, type := .rw }] },
  { addr := 0x6000c0, n1 := 8, s1 := 0x8,
    fields := [
      { fld := F.COMPASS_RULE_MASK_MASK, type := .rw }] },
  { addr := 0x601000, n1 := 64, s1 := 0x80,
    fields := [
      { fld := F.COMPASS_PG_NODE_VALID, type := .rl, isC := true },
      { fld := F.COMPASS_PG_NODE_LEN_MODE, type := .rl, isC := true },
      { fld := F.COMPASS_PG_NODE_LEN_OFF, type := .rl, range := some (0, 126), isC := true },
      { fld := F.COMPASS_PG_NODE_LEN_SHIFT, type := .rl, isC := true },
      { fld := F.COMPASS_PG_NODE_LEN_MASK, type := .rl, isC := true },
      { fld := F.COMPASS_PG_NODE_LEN_MUL_LOG2, type := .rl, isC := true },
      { fld := F.COMPASS_PG_NODE_LEN_ADD, type := .rl, isC := true },
      { fld := F.COMPASS_PG_NODE_MIN_LEN, type := .rl, isC := true },
      { fld := F.COMPASS_PG_NODE_SEL_OFF, type := .rl, range := some (0, 126), isC := true },
      { fld := F.COMPASS_PG_NODE_SEL_WIDTH, type := .rl, reserved := [(2, 3)], isC := true },
      { fld := F.COMPASS_PG_NODE_DEFAULT_VALID, type := .rl, isC := true },
      { fld := F.COMPASS_PG_NODE_DEFAULT_NEXT, type := .rl, isC := true }] },
  { addr := 0x601008, n1 := 64, s1 := 0x80, n2 := 8, s2 := 0x8,
    fields := [
      { fld := F.COMPASS_PG_TRANS_VALID, type := .rl, isC := true },
      { fld := F.COMPASS_PG_TRANS_NEXT, type := .rl, isC := true },
      { fld := F.COMPASS_PG_TRANS_MASK, type := .rl, isC := true },
      { fld := F.COMPASS_PG_TRANS_VALUE, type := .rl, isC := true }] },
  { addr := 0x601048, n1 := 64, s1 := 0x80,
    fields := [
      { fld := F.COMPASS_PG_EXTRACT01_VALID0, type := .rl, isC := true },
      { fld := F.COMPASS_PG_EXTRACT01_HDR_OFF0, type := .rl, isC := true },
      { fld := F.COMPASS_PG_EXTRACT01_LEN_M1_0, type := .rl, isC := true },
      { fld := F.COMPASS_PG_EXTRACT01_KEY_POS0, type := .rl, range := some (8, 63), isC := true },
      { fld := F.COMPASS_PG_EXTRACT01_VALID1, type := .rl, isC := true },
      { fld := F.COMPASS_PG_EXTRACT01_HDR_OFF1, type := .rl, isC := true },
      { fld := F.COMPASS_PG_EXTRACT01_LEN_M1_1, type := .rl, isC := true },
      { fld := F.COMPASS_PG_EXTRACT01_KEY_POS1, type := .rl, range := some (8, 63), isC := true }] },
  { addr := 0x601050, n1 := 64, s1 := 0x80,
    fields := [
      { fld := F.COMPASS_PG_EXTRACT23_VALID2, type := .rl, isC := true },
      { fld := F.COMPASS_PG_EXTRACT23_HDR_OFF2, type := .rl, isC := true },
      { fld := F.COMPASS_PG_EXTRACT23_LEN_M1_2, type := .rl, isC := true },
      { fld := F.COMPASS_PG_EXTRACT23_KEY_POS2, type := .rl, range := some (8, 63), isC := true },
      { fld := F.COMPASS_PG_EXTRACT23_VALID3, type := .rl, isC := true },
      { fld := F.COMPASS_PG_EXTRACT23_HDR_OFF3, type := .rl, isC := true },
      { fld := F.COMPASS_PG_EXTRACT23_LEN_M1_3, type := .rl, isC := true },
      { fld := F.COMPASS_PG_EXTRACT23_KEY_POS3, type := .rl, range := some (8, 63), isC := true }] },
  { addr := 0x620000, n1 := 4096, s1 := 0x8,
    fields := [
      { fld := F.COMPASS_SF_CFG_ENABLE, type := .rw, isC := true },
      { fld := F.COMPASS_SF_CFG_BLOCK_EN, type := .rw, isC := true },
      { fld := F.COMPASS_SF_CFG_BLOCKED, type := .w1c },
      { fld := F.COMPASS_SF_CFG_METER_VALID, type := .rw, isC := true },
      { fld := F.COMPASS_SF_CFG_METER, type := .rw, isC := true },
      { fld := F.COMPASS_SF_CFG_MAX_LEN, type := .rw, range := some (64, 16384), isC := true }] },
  { addr := 0x640000, n1 := 2048, s1 := 0x10,
    fields := [
      { fld := F.COMPASS_METER_CFG_ENABLE, type := .rw, isC := true },
      { fld := F.COMPASS_METER_CFG_BURST, type := .rw, reserved := [(0, 0)], isC := true },
      { fld := F.COMPASS_METER_CFG_RATE, type := .rw, reserved := [(0, 0)], isC := true }] },
  { addr := 0x640008, n1 := 2048, s1 := 0x10,
    fields := [
      { fld := F.COMPASS_METER_TOKENS_TOKENS, type := .ro, isC := true }] }]

/-- The COMPASS block's registers (R351). -/
def compassRegs : List RegDef := compassRegs1 ++ compassRegs2

/-- The HELM block's registers, part 1 (R382). -/
def helmRegs1 : List RegDef := [
  { addr := 0x800000,
    fields := [
      { fld := F.HELM_STATUS_LAST_PORT, type := .ro },
      { fld := F.HELM_STATUS_TAIL_DROP, type := .w1c },
      { fld := F.HELM_STATUS_UNSENDABLE, type := .w1c },
      { fld := F.HELM_STATUS_CONFIG_ERROR, type := .w1c },
      { fld := F.HELM_STATUS_CONFIG_CHANGED, type := .w1c }] },
  { addr := 0x800008,
    fields := [
      { fld := F.HELM_EVT_EN_TAIL_DROP, type := .rw },
      { fld := F.HELM_EVT_EN_UNSENDABLE, type := .rw },
      { fld := F.HELM_EVT_EN_CONFIG_ERROR, type := .rw },
      { fld := F.HELM_EVT_EN_CONFIG_CHANGED, type := .rw }] },
  { addr := 0x800010,
    fields := [
      { fld := F.HELM_SAMPLE_CFG_ENABLE, type := .rw, isC := true },
      { fld := F.HELM_SAMPLE_CFG_SHED, type := .ro },
      { fld := F.HELM_SAMPLE_CFG_PERIOD_NS, type := .ro, isC := true }] },
  { addr := 0x800018,
    fields := [
      { fld := F.HELM_SAMPLE_PROD_PROD, type := .ro }] },
  { addr := 0x801008, n1 := 32, s1 := 0x100,
    fields := [
      { fld := F.HELM_GATE_BASE_S_SECONDS, type := .rw, isC := true }] },
  { addr := 0x801010, n1 := 32, s1 := 0x100,
    fields := [
      { fld := F.HELM_GATE_BASE_NS_NANOSECONDS, type := .rw, range := some (0, 999999999), isC := true }] },
  { addr := 0x801018, n1 := 32, s1 := 0x100,
    fields := [
      { fld := F.HELM_GATE_CYCLE_CYCLE_EXT, type := .rw, isC := true },
      { fld := F.HELM_GATE_CYCLE_CYCLE_NS, type := .rw, range := some (1000, 1000000000), isC := true }] },
  { addr := 0x801020, n1 := 32, s1 := 0x100,
    fields := [
      { fld := F.HELM_GATE_CTRL_CONFIG_CHANGE, type := .wo },
      { fld := F.HELM_GATE_CTRL_CANCEL, type := .wo },
      { fld := F.HELM_GATE_CTRL_ADMIN_GATE_EN, type := .rw, isC := true },
      { fld := F.HELM_GATE_CTRL_ADMIN_TB, type := .rw, isC := true },
      { fld := F.HELM_GATE_CTRL_ADMIN_LIST_LEN, type := .rw, range := some (1, 1024), isC := true }] },
  { addr := 0x801028, n1 := 32, s1 := 0x100,
    fields := [
      { fld := F.HELM_GATE_STATUS_PENDING, type := .ro },
      { fld := F.HELM_GATE_STATUS_CONFIG_ERROR, type := .w1c },
      { fld := F.HELM_GATE_STATUS_ADMIN_BUSY, type := .w1c },
      { fld := F.HELM_GATE_STATUS_OPER_GATE_EN, type := .ro, isC := true },
      { fld := F.HELM_GATE_STATUS_OPER_TB, type := .ro, isC := true },
      { fld := F.HELM_GATE_STATUS_OPER_LIST_LEN, type := .ro, isC := true },
      { fld := F.HELM_GATE_STATUS_ENTRY, type := .ro },
      { fld := F.HELM_GATE_STATUS_STATES, type := .ro }] },
  { addr := 0x801030, n1 := 32, s1 := 0x100,
    fields := [
      { fld := F.HELM_GATE_CHANGE_S_SECONDS, type := .ro }] }]

/-- The HELM block's registers, part 2 (R382). -/
def helmRegs2 : List RegDef := [
  { addr := 0x801038, n1 := 32, s1 := 0x100,
    fields := [
      { fld := F.HELM_GATE_CHANGE_NS_NANOSECONDS, type := .ro },
      { fld := F.HELM_GATE_CHANGE_NS_FRACTION, type := .ro }] },
  { addr := 0x801040, n1 := 32, s1 := 0x100, n2 := 8, s2 := 0x18,
    fields := [
      { fld := F.HELM_CLASS_CFG_BEST_EFFORT, type := .rl, isC := true },
      { fld := F.HELM_CLASS_CFG_SAMPLE_EN, type := .rw, isC := true },
      { fld := F.HELM_CLASS_CFG_QLIMIT, type := .rl, range := some (1, 65535), isC := true },
      { fld := F.HELM_CLASS_CFG_MAX_FRAME, type := .rl, range := some (64, 16384), isC := true }] },
  { addr := 0x801048, n1 := 32, s1 := 0x100, n2 := 8, s2 := 0x18,
    fields := [
      { fld := F.HELM_SHAPER_CFG_ENABLE, type := .rw, isC := true },
      { fld := F.HELM_SHAPER_CFG_BURST, type := .rw, reserved := [(0, 0)], isC := true },
      { fld := F.HELM_SHAPER_CFG_RATE, type := .rw, reserved := [(0, 0)], isC := true }] },
  { addr := 0x801050, n1 := 32, s1 := 0x100, n2 := 8, s2 := 0x18,
    fields := [
      { fld := F.HELM_SHAPER_TOKENS_TOKENS, type := .ro, isC := true }] },
  { addr := 0x810000, n1 := 32, s1 := 0x2000, n2 := 1024, s2 := 0x8,
    fields := [
      { fld := F.HELM_GATE_ADMIN_STATES, type := .rw, isC := true },
      { fld := F.HELM_GATE_ADMIN_INTERVAL_NS, type := .rw, range := some (1, 4294967295), isC := true }] },
  { addr := 0x850000, n1 := 32, s1 := 0x2000, n2 := 1024, s2 := 0x8,
    fields := [
      { fld := F.HELM_GATE_OPER_STATES, type := .ro, isC := true },
      { fld := F.HELM_GATE_OPER_INTERVAL_NS, type := .ro, range := some (1, 4294967295), isC := true }] },
  { addr := 0x900000, n1 := 4128, s1 := 0x8,
    fields := [
      { fld := F.HELM_FLOW_CFG_METER_VALID, type := .rw },
      { fld := F.HELM_FLOW_CFG_METER, type := .rw },
      { fld := F.HELM_FLOW_CFG_PORT, type := .ro },
      { fld := F.HELM_FLOW_CFG_CLASS, type := .ro },
      { fld := F.HELM_FLOW_CFG_WEIGHT, type := .rw, reserved := [(0, 0)], isC := true }] }]

/-- The HELM block's registers (R382). -/
def helmRegs : List RegDef := helmRegs1 ++ helmRegs2

/-- The REDUN block's registers (R315). -/
def redunRegs : List RegDef := [
  { addr := 0xa00000,
    fields := [
      { fld := F.REDUN_STATUS_LAST_STREAM, type := .ro },
      { fld := F.REDUN_STATUS_GEN_TOO_LONG, type := .w1c },
      { fld := F.REDUN_STATUS_FRER_RESET, type := .w1c },
      { fld := F.REDUN_STATUS_FRER_ROGUE, type := .w1c },
      { fld := F.REDUN_STATUS_PE_VERIFY_CHANGE, type := .w1c }] },
  { addr := 0xa00008,
    fields := [
      { fld := F.REDUN_EVT_EN_GEN_TOO_LONG, type := .rw },
      { fld := F.REDUN_EVT_EN_FRER_RESET, type := .rw },
      { fld := F.REDUN_EVT_EN_FRER_ROGUE, type := .rw },
      { fld := F.REDUN_EVT_EN_PE_VERIFY_CHANGE, type := .rw }] },
  { addr := 0xa01000, n1 := 32, s1 := 0x20,
    fields := [
      { fld := F.REDUN_PE_CFG_ENABLE, type := .rl, isC := true },
      { fld := F.REDUN_PE_CFG_VERIFY_DISABLE, type := .rw, isC := true },
      { fld := F.REDUN_PE_CFG_ADD_FRAG_SIZE, type := .rw, isC := true },
      { fld := F.REDUN_PE_CFG_PREEMPTABLE, type := .rw, isC := true },
      { fld := F.REDUN_PE_CFG_VERIFY_LIMIT, type := .rw, reserved := [(0, 0)], isC := true },
      { fld := F.REDUN_PE_CFG_VERIFY_TIME_MS, type := .rw, reserved := [(0, 0), (129, 255)], isC := true }] },
  { addr := 0xa01008, n1 := 32, s1 := 0x20,
    fields := [
      { fld := F.REDUN_PE_STATUS_CHANGED, type := .w1c },
      { fld := F.REDUN_PE_STATUS_ATTEMPTS, type := .ro },
      { fld := F.REDUN_PE_STATUS_ACTIVE, type := .ro },
      { fld := F.REDUN_PE_STATUS_VERIFY_STATUS, type := .ro }] },
  { addr := 0xa01010, n1 := 32, s1 := 0x20,
    fields := [
      { fld := F.REDUN_PE_CTRL_VERIFY_RESTART, type := .wo }] },
  { addr := 0xa10000, n1 := 4096, s1 := 0x20,
    fields := [
      { fld := F.REDUN_STREAM_CFG_GENERATE, type := .rw, isC := true },
      { fld := F.REDUN_STREAM_CFG_RECOVER, type := .rw, isC := true },
      { fld := F.REDUN_STREAM_CFG_DECODE, type := .rw, isC := true },
      { fld := F.REDUN_STREAM_CFG_TAKE_NO_SEQ, type := .rw, isC := true },
      { fld := F.REDUN_STREAM_CFG_TX_PORTS, type := .rw, isC := true }] },
  { addr := 0xa10008, n1 := 4096, s1 := 0x20,
    fields := [
      { fld := F.REDUN_STREAM_RCVY_HISTORY_LEN, type := .rw, reserved := [(0, 1), (65, 127)], isC := true },
      { fld := F.REDUN_STREAM_RCVY_RESET_US, type := .rw, reserved := [(0, 9), (1000001, 1048575)], isC := true }] },
  { addr := 0xa10010, n1 := 4096, s1 := 0x20,
    fields := [
      { fld := F.REDUN_STREAM_STATE_GEN_SEQ, type := .ro },
      { fld := F.REDUN_STREAM_STATE_RCVY_SEQ, type := .ro },
      { fld := F.REDUN_STREAM_STATE_TAKE_ANY, type := .ro }] },
  { addr := 0xa10018, n1 := 4096, s1 := 0x20,
    fields := [
      { fld := F.REDUN_STREAM_CTRL_GEN_RESET, type := .wo },
      { fld := F.REDUN_STREAM_CTRL_RCVY_RESET, type := .wo }] }]

/-- The QUEUE block's registers, part 1 (R453). -/
def queueRegs1 : List RegDef := [
  { addr := 0xb00000,
    fields := [
      { fld := F.QUEUE_STATUS_POOL_FREE, type := .ro },
      { fld := F.QUEUE_STATUS_BACKLOG_USED, type := .ro },
      { fld := F.QUEUE_STATUS_CREATE_OK, type := .ro },
      { fld := F.QUEUE_STATUS_ADMIN_ENABLED, type := .ro }] },
  { addr := 0xb00008,
    fields := [
      { fld := F.QUEUE_EVT_STATUS_LAST_QUEUE, type := .ro },
      { fld := F.QUEUE_EVT_STATUS_QUEUE_FAULT, type := .w1c },
      { fld := F.QUEUE_EVT_STATUS_RXQ_NO_BUFFER, type := .w1c },
      { fld := F.QUEUE_EVT_STATUS_CQ_CONS_INVALID, type := .w1c },
      { fld := F.QUEUE_EVT_STATUS_SQ_OVERRUN, type := .w1c },
      { fld := F.QUEUE_EVT_STATUS_CQ_STALL, type := .w1c }] },
  { addr := 0xb00010,
    fields := [
      { fld := F.QUEUE_EVT_EN_QUEUE_FAULT, type := .rw },
      { fld := F.QUEUE_EVT_EN_RXQ_NO_BUFFER, type := .rw },
      { fld := F.QUEUE_EVT_EN_CQ_CONS_INVALID, type := .rw },
      { fld := F.QUEUE_EVT_EN_SQ_OVERRUN, type := .rw },
      { fld := F.QUEUE_EVT_EN_CQ_STALL, type := .rw }] },
  { addr := 0xb00018,
    fields := [
      { fld := F.QUEUE_CFG_RETRY_MAX, type := .rl, reserved := [(0, 0)], isC := true }] },
  { addr := 0xb00020,
    fields := [
      { fld := F.QUEUE_ACY_CFG_ENABLE, type := .rw },
      { fld := F.QUEUE_ACY_CFG_RXQ, type := .rw }] },
  { addr := 0xb00100,
    fields := [
      { fld := F.QUEUE_ADMIN_SQ_BASE_ADDR, type := .rw }] },
  { addr := 0xb00108,
    fields := [
      { fld := F.QUEUE_ADMIN_CQ_BASE_ADDR, type := .rw }] },
  { addr := 0xb00110,
    fields := [
      { fld := F.QUEUE_ADMIN_CFG_ENABLE, type := .rw },
      { fld := F.QUEUE_ADMIN_CFG_NOTIFY_EN, type := .rw },
      { fld := F.QUEUE_ADMIN_CFG_CFG_ERR, type := .w1c },
      { fld := F.QUEUE_ADMIN_CFG_CQ_SIZE_LOG2, type := .rw },
      { fld := F.QUEUE_ADMIN_CFG_SQ_SIZE_LOG2, type := .rw },
      { fld := F.QUEUE_ADMIN_CFG_VECTOR, type := .rw }] },
  { addr := 0xb00118,
    fields := [
      { fld := F.QUEUE_ADMIN_SQ_PROD_INDEX, type := .rw }] },
  { addr := 0xb00120,
    fields := [
      { fld := F.QUEUE_ADMIN_SQ_CONS_INDEX, type := .ro }] }]

/-- The QUEUE block's registers, part 2 (R453). -/
def queueRegs2 : List RegDef := [
  { addr := 0xb00128,
    fields := [
      { fld := F.QUEUE_ADMIN_CQ_PROD_INDEX, type := .ro }] },
  { addr := 0xb00130,
    fields := [
      { fld := F.QUEUE_ADMIN_CQ_CONS_INDEX, type := .rw }] },
  { addr := 0xb00138,
    fields := [
      { fld := F.QUEUE_ADMIN_SQ_DB_RING, type := .wo }] },
  { addr := 0xb00140,
    fields := [
      { fld := F.QUEUE_ADMIN_CQ_DB_RING, type := .wo }] },
  { addr := 0xb10000, n1 := 4096, s1 := 0x20,
    fields := [
      { fld := F.QUEUE_SQ_PROD_PROD, type := .rw }] },
  { addr := 0xb10008, n1 := 4096, s1 := 0x20,
    fields := [
      { fld := F.QUEUE_SQ_CONS_CONS, type := .ro }] },
  { addr := 0xb10010, n1 := 4096, s1 := 0x20,
    fields := [
      { fld := F.QUEUE_SQ_CTRL_INVALIDATE, type := .wo }] },
  { addr := 0xb10018, n1 := 4096, s1 := 0x20,
    fields := [
      { fld := F.QUEUE_SQ_STATUS_EXISTS, type := .ro },
      { fld := F.QUEUE_SQ_STATUS_FAULT, type := .ro },
      { fld := F.QUEUE_SQ_STATUS_INVALIDATING, type := .ro },
      { fld := F.QUEUE_SQ_STATUS_KIND, type := .ro },
      { fld := F.QUEUE_SQ_STATUS_TB, type := .ro },
      { fld := F.QUEUE_SQ_STATUS_BATCHING, type := .ro },
      { fld := F.QUEUE_SQ_STATUS_CQ, type := .ro },
      { fld := F.QUEUE_SQ_STATUS_SIZE_LOG2, type := .ro },
      { fld := F.QUEUE_SQ_STATUS_OUTSTANDING, type := .ro },
      { fld := F.QUEUE_SQ_STATUS_CACHED, type := .ro }] },
  { addr := 0xb40000, n1 := 4096, s1 := 0x20,
    fields := [
      { fld := F.QUEUE_CQ_PROD_PROD, type := .ro }] },
  { addr := 0xb40008, n1 := 4096, s1 := 0x20,
    fields := [
      { fld := F.QUEUE_CQ_CONS_CONS, type := .rw }] }]

/-- The QUEUE block's registers, part 3 (R453). -/
def queueRegs3 : List RegDef := [
  { addr := 0xb40010, n1 := 4096, s1 := 0x20,
    fields := [
      { fld := F.QUEUE_CQ_STATUS_EXISTS, type := .ro },
      { fld := F.QUEUE_CQ_STATUS_STALLED, type := .ro },
      { fld := F.QUEUE_CQ_STATUS_ARMED, type := .ro },
      { fld := F.QUEUE_CQ_STATUS_NOTIFY_EN, type := .ro },
      { fld := F.QUEUE_CQ_STATUS_VECTOR, type := .ro },
      { fld := F.QUEUE_CQ_STATUS_SIZE_LOG2, type := .ro },
      { fld := F.QUEUE_CQ_STATUS_BACKLOG, type := .ro },
      { fld := F.QUEUE_CQ_STATUS_POOL_HELD, type := .ro }] }]

/-- The QUEUE block's registers (R453). -/
def queueRegs : List RegDef := queueRegs1 ++ queueRegs2 ++ queueRegs3

/-- The TENDER block's registers, part 1 (R472). -/
def tenderRegs1 : List RegDef := [
  { addr := 0xc00000,
    fields := [
      { fld := F.TENDER_STATUS_STAGE_USED_KIB, type := .ro },
      { fld := F.TENDER_STATUS_READS_OUT, type := .ro }] },
  { addr := 0xc00008,
    fields := [
      { fld := F.TENDER_CFG_CH_STAGE_KIB, type := .rl, range := some (4, 256), isC := true },
      { fld := F.TENDER_CFG_RETRY_MAX, type := .rl, reserved := [(0, 0)], isC := true }] },
  { addr := 0xc00010,
    fields := [
      { fld := F.TENDER_HALTED_CHANNELS, type := .ro }] },
  { addr := 0xc00018,
    fields := [
      { fld := F.TENDER_EVT_STATUS_LAST_CHANNEL, type := .ro },
      { fld := F.TENDER_EVT_STATUS_START_REJECT, type := .w1c },
      { fld := F.TENDER_EVT_STATUS_CH_ERROR, type := .w1c }] },
  { addr := 0xc00020,
    fields := [
      { fld := F.TENDER_EVT_EN_START_REJECT, type := .rw },
      { fld := F.TENDER_EVT_EN_CH_ERROR, type := .rw }] },
  { addr := 0xc01000, n1 := 64, s1 := 0x40,
    fields := [
      { fld := F.TENDER_CH_START_DESC_ADDR, type := .rw },
      { fld := F.TENDER_CH_START_DESC_START_VALID, type := .rw }] },
  { addr := 0xc01008, n1 := 64, s1 := 0x40,
    fields := [
      { fld := F.TENDER_CH_STATE_BARRIER_WAIT, type := .ro },
      { fld := F.TENDER_CH_STATE_BME_WAIT, type := .ro },
      { fld := F.TENDER_CH_STATE_STATE, type := .ro }] },
  { addr := 0xc01010, n1 := 64, s1 := 0x40,
    fields := [
      { fld := F.TENDER_CH_CTRL_CLEAR, type := .wo },
      { fld := F.TENDER_CH_CTRL_ABORT, type := .wo }] },
  { addr := 0xc01018, n1 := 64, s1 := 0x40,
    fields := [
      { fld := F.TENDER_CH_ERR_ADDR_ADDR, type := .ro }] },
  { addr := 0xc01020, n1 := 64, s1 := 0x40,
    fields := [
      { fld := F.TENDER_CH_ERR_INFO_CAUSE, type := .ro },
      { fld := F.TENDER_CH_ERR_INFO_CLASS, type := .ro },
      { fld := F.TENDER_CH_ERR_INFO_DIR, type := .ro },
      { fld := F.TENDER_CH_ERR_INFO_DESC_INDEX, type := .ro },
      { fld := F.TENDER_CH_ERR_INFO_BYTE_OFFSET, type := .ro }] }]

/-- The TENDER block's registers, part 2 (R472). -/
def tenderRegs2 : List RegDef := [
  { addr := 0xc01028, n1 := 64, s1 := 0x40,
    fields := [
      { fld := F.TENDER_CH_ERR_DESC_ADDR, type := .ro }] },
  { addr := 0xc01030, n1 := 64, s1 := 0x40,
    fields := [
      { fld := F.TENDER_CH_PROGRESS_DESC_LO, type := .ro },
      { fld := F.TENDER_CH_PROGRESS_BYTES_DONE, type := .ro }] }]

/-- The TENDER block's registers (R472). -/
def tenderRegs : List RegDef := tenderRegs1 ++ tenderRegs2

/-- The registers of the block whose BAR0 window (Table 01-8) holds `a`. -/
def blockRegs (a : Nat) : List RegDef :=
  if 0x0 ≤ a ∧ a < 0x10000 then globalRegs
  else if 0x10000 ≤ a ∧ a < 0x20000 then chartRegs
  else if 0x20000 ≤ a ∧ a < 0x30000 then trimRegs
  else if 0x30000 ≤ a ∧ a < 0x40000 then eventRegs
  else if 0x40000 ≤ a ∧ a < 0x50000 then reckonRegs
  else if 0x50000 ≤ a ∧ a < 0x60000 then fixRegs
  else if 0x100000 ≤ a ∧ a < 0x200000 then crossRegs
  else if 0x200000 ≤ a ∧ a < 0x300000 then cargoRegs
  else if 0x300000 ≤ a ∧ a < 0x400000 then pilotRegs
  else if 0x400000 ≤ a ∧ a < 0x600000 then portRegs
  else if 0x600000 ≤ a ∧ a < 0x800000 then compassRegs
  else if 0x800000 ≤ a ∧ a < 0xa00000 then helmRegs
  else if 0xa00000 ≤ a ∧ a < 0xb00000 then redunRegs
  else if 0xb00000 ≤ a ∧ a < 0xc00000 then queueRegs
  else if 0xc00000 ≤ a ∧ a < 0xd00000 then tenderRegs
  else []

/-- Every register of BAR0. -/
def allRegs : List RegDef :=
  globalRegs ++ chartRegs ++ trimRegs ++ eventRegs ++ reckonRegs ++ fixRegs ++ crossRegs ++ cargoRegs ++ pilotRegs ++ portRegs ++ compassRegs ++ helmRegs ++ redunRegs ++ queueRegs ++ tenderRegs

/-- The indices (i, j) at which register `d` lies at address `a`, when it does. -/
def regIndex (d : RegDef) (a : Nat) : Option (Nat × Nat) :=
  if a < d.addr then none
  else if (a - d.addr) / d.s1 ≥ d.n1 then none
  else if (a - d.addr) % d.s1 / d.s2 ≥ d.n2 then none
  else if (a - d.addr) % d.s1 % d.s2 = 0 then some ((a - d.addr) / d.s1, (a - d.addr) % d.s1 / d.s2) else none

/-- The register at the 8-byte-aligned BAR0 address `a`, with its indices; none at a reserved address (R6). -/
def lookupReg (a : Nat) : Option (RegDef × Nat × Nat) :=
  (blockRegs a).findSome? fun d => (regIndex d a).map fun ij => (d, ij.1, ij.2)

/-- The key under which field `f` of indices `i`, `j` is held in the register file. -/
def Fld.key (f : Fld) (i j : Nat) : Nat := (f.base + f.s1 * i + f.s2 * j) * 64 + f.lo

/-- Number of bits of a field. -/
def Fld.width (f : Fld) : Nat := f.hi - f.lo + 1

/-- Whether the encoding `v` is one the field's table marks as reserved (R12). -/
def FieldDef.isReserved (d : FieldDef) (v : Nat) : Bool := d.reserved.any fun r => r.1 ≤ v && v ≤ r.2

/-- Whether `v` lies in the range the field's table states (R497). -/
def FieldDef.inRange (d : FieldDef) (v : Nat) : Bool :=
  match d.range with
  | none => true
  | some r => r.1 ≤ v && v ≤ r.2

end Sys2Proof.Machine
end

