-- ==== Sys2Proof/Machine/Table.lean ====
section
/-!
DEFINITION. Sparse tables: a list of (key, value) pairs in one canonical form, keys strictly rising and no entry
equal to what an unlisted key reads as. Register fields, counters, per-port and per-queue records, image buffers
and the chart flash are all held in this form, so that equal tables are equal data.
The choices it makes stand under notes/assumptions: 4 (DESIGN CHOICE).
-/

namespace Sys2Proof.Machine

/-- A sparse table. -/
abbrev Tab (α : Type) := List (Nat × α)

/-- The value at key `k`; `d` is what an unlisted key reads as. -/
def tabGet {α : Type} (d : α) : Tab α → Nat → α
  | [], _ => d
  | (i, v) :: t, k => if i = k then v else tabGet d t k

/-- The table without key `k`. -/
def tabErase {α : Type} (t : Tab α) (k : Nat) : Tab α := t.filter fun e => e.1 != k

/-- The table with `v` at key `k`, listed whatever `v` is. -/
def tabPut {α : Type} (v : α) : Tab α → Nat → Tab α
  | [], k => [(k, v)]
  | (i, w) :: t, k =>
    if i = k then (k, v) :: t else if k < i then (k, v) :: (i, w) :: t else (i, w) :: tabPut v t k

/-- A write in canonical form: writing what an unlisted key reads as removes the entry. -/
def tabSet {α : Type} [DecidableEq α] (d : α) (t : Tab α) (k : Nat) (v : α) : Tab α :=
  if v = d then tabErase t k else tabPut v t k

/-- Every key of the table is above `lo`, keys rise strictly, and no entry equals `d`. -/
def tabWfFrom {α : Type} [DecidableEq α] (d : α) : Option Nat → Tab α → Bool
  | _, [] => true
  | lo, (i, v) :: t =>
    (match lo with
     | none => true
     | some l => decide (l < i)) && decide (v ≠ d) && tabWfFrom d (some i) t

/-- The canonical form of a table. -/
def tabWf {α : Type} [DecidableEq α] (d : α) (t : Tab α) : Bool := tabWfFrom d none t

/-- Byte memory over `Host.Cell`; every unlisted address reads as `d`. -/
abbrev Mem := List Host.Cell

/-- The byte at address `a` of a memory whose unlisted bytes read as `d`. -/
def memRead (d : Byte) (m : Mem) (a : Nat) : Byte := tabGet d m a

/-- One byte written. -/
def memWrite (d : Byte) (m : Mem) (a : Nat) (b : Byte) : Mem := tabSet d m a b

/-- The `n` bytes from address `a`. -/
def memSlice (d : Byte) (m : Mem) (a : Nat) : Nat → Bytes
  | 0 => []
  | n + 1 => memRead d m a :: memSlice d m (a + 1) n

/-- The bytes `bs` written from address `a`. -/
def memPatch (d : Byte) (m : Mem) (a : Nat) : Bytes → Mem
  | [] => m
  | b :: bs => memPatch d (memWrite d m a b) (a + 1) bs

/-- Canonical form of a byte memory. -/
def Memory.wf (d : Byte) (m : Mem) : Bool := tabWf d m

/-- A pair put before the first pair of a list whose key is not smaller. -/
def pairInsert (x : Nat × Nat) : List (Nat × Nat) → List (Nat × Nat)
  | [] => [x]
  | y :: l => if x.1 ≤ y.1 then x :: y :: l else y :: pairInsert x l

/-- Pairs in ascending order of their keys; pairs of one key keep their order. -/
def pairSort (l : List (Nat × Nat)) : List (Nat × Nat) := l.foldr pairInsert []

end Sys2Proof.Machine
end

