-- ==== Sys2Proof/Machine/State.lean ====
section
/-!
DEFINITION. The state of the block: `Device` holds every register, counter, memory, queue, timer and mode that a
reset clears, `NonVol` holds the fuses and the chart flash, and `State` adds the queue of waiting commands. The
reasons a step can stop are here too, and the state after reset. Numeric register fields live in the sparse table
`regs`; whatever the spec gives a structure of its own (a state machine, a list, a timer) has its own field.
Times in a timebase are integers in units of 2^-56 ns, which represent every value of R36 exactly.
The choices it makes stand under notes/assumptions: 3 (DESIGN CHOICE), 6 (DESIGN CHOICE), 9 (DESIGN CHOICE), 11
(DESIGN CHOICE), 23 (PRESUMED), 27 (DEDUCED), 37 (DEDUCED), 47 (PRESUMED), 48 (DEDUCED).
-/

namespace Sys2Proof.Machine

/-- Why a step stops with a fault. No command of this block faults: every access the spec calls illegal has an
effect of its own (R5, R6). -/
inductive Fault where
  /-- raised by nobody; kept so that the type is not empty; safe. -/
  | unreachable
  deriving DecidableEq, Repr

/-- Why a step has no meaning. -/
inductive Refusal where
  /-- a command whose meaning is not written yet; raised by `exec` alone; safe. -/
  | notModelled (mnemonic : String)
  /-- a JTAG debug instruction, 0x40 to 0x7F, of a device that is not FIELDED: the spec gives it no effect (Table
  18-12, R540); raised by `execDebugInstruction`; safe. -/
  | debugUnitUndescribed (code : Nat)
  deriving DecidableEq, Repr

/-- Device states (Table 01-6). -/
inductive DevState where
  | off | reset | wipe | load | muster | firstCrossing | run | test | recovery | dormant | halt
  deriving DecidableEq, Repr

/-- Life-cycle states, codes 0 to 3 of `GLOBAL_STATUS.LIFECYCLE` (R515). -/
inductive Lifecycle where
  | blank | provisioned | fielded | retired
  deriving DecidableEq, Repr

/-- What a TIO pin drives: a level, or nothing (R245, R250). -/
inductive PinLevel where
  | low | high | highZ
  deriving DecidableEq, Repr

/-- What the transmitter of a port sends (Tables 09-3 and 09-7): nothing at all, negotiation and training and then idle,
an idle stream, frames, or a test pattern. -/
inductive TxLine where
  | electricalIdle | negotiation | idle | frames | testPattern
  deriving DecidableEq, Repr

/-- The groups of pins of Table 18-6; the TIO pins have levels of their own. -/
inductive PinGroup where
  | serdesTx | serdesRx | pcie | flash | avs | smb | tdo
  deriving DecidableEq, Repr

/-- How a group of pins behaves (Table 18-6): it floats, idles, is terminated, or serves its block; a driven flash group
idles with CS_N high, CLK low and DQ high-impedance. -/
inductive PinDrive where
  | highZ | electricalIdle | terminated | driven
  deriving DecidableEq, Repr

/-- Equaliser modes of a port's receiver (R401). -/
inductive DspMode where
  | full | adaptive | reduced
  deriving DecidableEq, Repr

/-- Something an observer outside the block sees. `Device.out` lists them, newest first. -/
inductive OutEvent where
  /-- a frame left a port whole: its bytes from the destination address, FCS included, and its transmit stamp -/
  | frame (port : Nat) (bytes : Bytes) (stamp : Stamp)
  /-- a fragment of a preemptable frame left, with the bytes sent so far (R295) -/
  | fragment (port : Nat) (sent : Nat)
  /-- a frame was ended with an invalid termination after the bytes it had sent: /V/ when `v` holds, else an /E/ block,
  then idle (R265) -/
  | cutOff (port : Nat) (sent : Bytes) (v : Bool)
  /-- bytes written to host memory through PF0 -/
  | hostWrite (addr : Nat) (data : Bytes)
  /-- a read of host memory was issued through PF0 -/
  | hostRead (addr : Nat) (len : Nat)
  /-- one MSI-X message -/
  | msix (fn : Fn) (vector : Nat)
  /-- the data of a register read, with the function that read it -/
  | readData (fn : Fn) (addr : Nat) (value : Word)
  /-- a completion with Unsupported Request status, an error that AER reports as fatal or not -/
  | unsupportedRequest (fn : Fn) (fatal : Bool)
  /-- a TIO pin took a level -/
  | tioEdge (pin : Nat) (level : PinLevel) (raw : Word)
  /-- the bytes an SMBus read or the Alert Response Address returned -/
  | smbData (data : Bytes)
  /-- the data bytes of an SMBus write were not acknowledged -/
  | smbNak
  /-- the JTAG instruction that acts from here on (R540), with the identification code that IDCODE selects -/
  | jtag (code : Nat) (idcode : Option (BitVec 32))
  /-- what the transmitter of a port sends changed -/
  | transmitter (port : Nat) (line : TxLine)
  /-- a port that starts without negotiation uses the transmitter equalisation of its chart (R263) -/
  | equalisation (port : Nat) (setting : Nat)
  /-- a group of pins changed as Table 18-6 says -/
  | pins (group : PinGroup) (drive : PinDrive)
  /-- the flash was reset: FLASH_RST_N low for 10 µs, then the JESD251 software reset in 8D-8D-8D and in 1-1-1 mode
  (R491) -/
  | flashReset
  /-- the equaliser mode of a port changed (R401) -/
  | equaliser (port : Nat) (mode : DspMode)
  /-- the number of lookup pipes that run changed (R402) -/
  | pipes (n : Nat)
  /-- a port that negotiates advertises its mode alone, and in a 25 Gb/s mode RS-FEC ability and request (R262) -/
  | advertise (port : Nat) (mode : Nat) (rsFec : Option Bool)
  /-- one PTM request left -/
  | ptmRequest
  /-- an AVSBus command left -/
  | avsWrite (mv : Nat)
  /-- an IEEE 802.3br verify frame left a port -/
  | verify (port : Nat)
  /-- an IEEE 802.3br respond frame left a port -/
  | respond (port : Nat)
  /-- the sender of a fabric link was told to replay -/
  | replay (link : Nat)
  /-- the sender of a fabric link re-sent a flit of its replay buffer -/
  | resent (link : Nat) (flit : Option Bytes)
  deriving DecidableEq, Repr

/-- A work-queue entry that has started and owes a completion: its queue, CID, opcode, BATCH_END, the TB of its
completion and a number that no other live entry has. -/
structure EntryRef where
  sq : Nat
  cid : Nat
  opcode : Nat
  batchEnd : Bool
  tb : Nat
  id : Nat
  deriving DecidableEq, Repr

/-! ### Reckoner (R32 to R69) -/

/-- One parameter set of a timebase (R37): BASE in units of 2^-40 ns, the raw count of its fold, and INCR. -/
structure ParamSet where
  base : Int := 0
  rawAt : Word := 0
  incr : Nat := 0x14000000000
  deriving DecidableEq, Repr

/-- Domain states (R53). -/
inductive DomState where
  | unset | tracking | holdover
  deriving DecidableEq, Repr

/-- A parameter write that waits for its fold (R50); times in units of 2^-16 ns. -/
inductive ParamWrite where
  | incr (v : Nat)
  | step (t : Int)
  | set (t : Int)
  deriving DecidableEq, Repr

/-- One timebase: the set in force, the set before it, and the domain's own state. -/
structure Domain where
  cur : ParamSet := {}
  prev : ParamSet := {}
  /-- the sets before `prev`, newest first: every stamp is converted within 1,600 ticks of its raw count, under the set in
  force then (R37, R38), and the model holds the sets in place of the results -/
  older : List ParamSet := []
  st : DomState := .unset
  /-- seconds staged by SET_HI (R49) -/
  staged : Nat := 0
  /-- the write whose fold is due, and its tick K -/
  pend : Option (ParamWrite × Word) := none
  /-- raw count of the last fold (R50) -/
  lastFold : Option Word := none
  /-- raw count at which the holdover timer last started (R53) -/
  holdStart : Word := 0
  deriving DecidableEq, Repr

/-- The Reckoner's state beside its registers. -/
structure Reckon where
  a : Domain := {}
  b : Domain := {}
  x : Domain := {}
  /-- raw counts of the requests of the PTM dialogs in progress, oldest first (R65, R67) -/
  ptmDialogs : List Word := []
  /-- raw count from which the automatic PTM interval runs -/
  ptmAutoFrom : Word := 0
  /-- raw count at which PRIMARY last changed -/
  switchedAt : Option Word := none
  deriving DecidableEq, Repr

/-! ### TIO pins and stamp records (R240 to R250) -/

/-- A TIO pin beside its registers. START, PERIOD and the next target are in units of 2^-16 ns. -/
structure TioPin where
  start : Int := 0
  period : Int := 0
  next : Option Int := none
  /-- raw count of the leading edge of the pulse in progress -/
  pulse : Option Word := none
  /-- that pulse is the one of a BEACON_ONCE arm -/
  once : Bool := false
  deriving DecidableEq, Repr

/-- The eight words of a stamp record (Table 08-3). -/
abbrev StRecord := List Word

/-- The stamp record queue beside PROD and CONS: ring slots, and the drops since the last record written. -/
structure StRecQueue where
  ring : Tab StRecord := []
  dropped : Nat := 0
  /-- a counter was discarded: the next record carries LOST (Table 01-5) -/
  mark : Bool := false
  deriving DecidableEq, Repr

/-! ### Event matrix and PCI Express functions (R473 to R486) -/

/-- A deferred occurrence (R480): which kinds of target it still owes a delivery, and the vectors CQ_NOTIFY carried. -/
structure Held where
  pf0 : Bool := true
  pf1 : Bool := true
  other : Bool := true
  vecs : List Nat := []
  deriving DecidableEq, Repr

/-- The event matrix beside its registers. -/
structure Events where
  /-- held delivery of each source -/
  held : Tab (Option Held) := []
  /-- raw count at which a PF0 vector's holdoff timer started -/
  timer : Tab (Option Word) := []
  /-- PF0 vectors presented an occurrence in this tick -/
  touched : List Nat := []
  /-- PF0 vectors whose message was sent in this tick; what is presented to them in it is part of that message (R481) -/
  fired : List Nat := []
  /-- sources whose Tender start is due at the next tick -/
  later : List Nat := []
  deriving DecidableEq, Repr

/-- One PCI Express function's interrupt and configuration state. -/
structure FnState where
  busMaster : Bool := false
  msixEnable : Bool := false
  funcMask : Bool := false
  /-- MSI-X table: message address and data, dword 4v + k for k = 0 to 2 -/
  table : Tab (BitVec 32) := []
  /-- vectors whose Mask Bit is 0 (the PCI Express reset value is 1) -/
  unmasked : Tab Bool := []
  /-- pending-bit array -/
  pba : Tab Bool := []
  /-- other configuration space dwords that were written -/
  cfg : Tab (BitVec 32) := []
  ptmEnable : Bool := false
  /-- max payload size and max read request size in bytes, as the root complex programs them (Table 14-1); PRESUMED: the
  reset values of PCI Express -/
  maxPayload : Nat := 128
  maxRead : Nat := 512
  /-- the function is in D3hot, else in D0 (Table 14-1) -/
  d3hot : Bool := false
  /-- Uncorrectable Error Status of AER. PRESUMED: its bits lie where PCI Express has them -/
  aer : Nat := 0
  /-- Uncorrectable Error Severity of AER: Data Link Protocol Error and Malformed TLP are fatal, every other error is
  not (Table 14-1). PRESUMED: its bits lie where PCI Express has them -/
  aerFatal : Nat := 2 ^ 4 + 2 ^ 18
  deriving DecidableEq, Repr

/-- The PCI Express interface. -/
structure Pcie where
  /-- PERST_N is low -/
  perst : Bool := true
  linkUp : Bool := false
  pf0 : FnState := {}
  pf1 : FnState := {}
  deriving DecidableEq, Repr

/-! ### Tender (R454 to R472) -/

/-- Channel states (Table 15-1). -/
inductive ChState where
  | idle | running | halted
  deriving DecidableEq, Repr

/-- An element of a scatter-gather list, or the one element of a side without a list (R459). -/
structure SgElem where
  addr : Nat
  len : Nat
  deriving DecidableEq, Repr

/-- A descriptor that passed R460. -/
structure TenderDesc where
  op : Nat
  barrier : Bool
  last : Bool
  srcSpace : Nat
  length : Nat
  src : List SgElem
  dst : List SgElem
  /-- 4 in a fetch of Cargo, whose destination is the output FILL buffer, and 5 as the source of a snapshot -/
  dstSpace : Nat
  pattern : Word
  next : Nat
  deriving DecidableEq, Repr

/-- A data read in flight: which stream, its offset in that stream and its length. -/
structure TenderRead where
  dst : Bool
  off : Nat
  len : Nat
  deriving DecidableEq, Repr

/-- A run in progress. Offsets `reqSrc`, `reqDst` and `done` count bytes in copy order. -/
structure TenderRun where
  descAddr : Nat
  /-- descriptors finished in this run -/
  index : Nat := 0
  /-- the TENDER_RUN entry that started the run -/
  entry : Option EntryRef := none
  /-- the descriptor in progress; none until it has been fetched -/
  desc : Option TenderDesc := none
  /-- the descriptor read, or that of OUT_SEQ, has yet to be issued -/
  metaDue : Bool := false
  /-- the metadata read in progress: that of the descriptor, then those of its lists, one after another (R466) -/
  reading : TenderReadKind := .desc
  /-- the sides whose lists have been asked for already -/
  listed : List Bool := []
  /-- a metadata read, address and length, that is issued again once it may (R457, R466) -/
  again : Option (Nat × Nat) := none
  /-- raw count at which the run started, from which the rate of R30 counts -/
  since : Word := 0
  /-- metadata retries of the read in progress (R466) -/
  tries : Nat := 0
  reqSrc : Nat := 0
  reqDst : Nat := 0
  reads : List TenderRead := []
  /-- bytes received and not yet written or compared, by stream offset -/
  srcGot : Tab (Option Byte) := []
  dstGot : Tab (Option Byte) := []
  /-- bytes written or compared -/
  done : Nat := 0
  /-- the confirming read is outstanding -/
  confirming : Bool := false
  deriving DecidableEq, Repr

/-- A Tender channel beside its registers. -/
structure TenderCh where
  st : ChState := .idle
  run : Option TenderRun := none
  deriving DecidableEq, Repr

/-! ### Host queues (R406 to R453) -/

/-- A SEND entry whose frame data is being read (R429). -/
structure SendCtx where
  len : Nat
  batchEnd : Bool
  cid : Nat
  head : Bytes
  frameLen : Nat
  csumL3 : Bool
  csumL4 : Bool
  stream : Option Nat
  ext : Bool
  stampOp : Nat
  record : Bool
  tb : Nat
  launch : Bool
  stampOffset : Nat
  corrOffset : Nat
  tag : Nat
  refRaw : Stamp
  launchTime : Int
  deriving DecidableEq, Repr

/-- A submission queue; index 4,096 of the table is the admin pair's. -/
structure Sq where
  present : Bool := false
  base : Nat := 0
  cq : Nat := 0
  /-- 0 SEND, 1 RECEIVE, 2 GENERAL; 3 is the admin pair -/
  kind : Nat := 0
  tb : Nat := 0
  batching : Bool := false
  port : Nat := 0
  cls : Nat := 0
  sizeLog2 : Nat := 0
  prod : BitVec 32 := 0
  cons : BitVec 32 := 0
  /-- 32-byte units held in the descriptor cache, from unit `cons` on -/
  cache : List Bytes := []
  /-- fetch was asked for and has not reached P -/
  wanted : Bool := false
  /-- units of the fetch read in flight -/
  inflight : Nat := 0
  tries : Nat := 0
  fault : Bool := false
  invalidating : Bool := false
  /-- failed reads of the indirect list of the entry at the head (R427) -/
  listTries : Nat := 0
  sending : Option SendCtx := none
  /-- entries started and not completed -/
  live : List EntryRef := []
  /-- silent OK completions since the last posted one (R439) -/
  silent : Nat := 0
  /-- CID of the DELETE_SQ command that waits for this queue's last completions (R446) -/
  deleting : Option Nat := none
  deriving DecidableEq, Repr

/-- A completion queue; index 4,096 of the table is the admin pair's. -/
structure Cq where
  present : Bool := false
  base : Nat := 0
  sizeLog2 : Nat := 0
  prod : BitVec 32 := 0
  cons : BitVec 32 := 0
  reserve : Nat := 0
  vector : Nat := 0
  notify : Bool := false
  armed : Bool := false
  stalled : Bool := false
  /-- completions in the backlog, oldest first, PHASE not yet set -/
  backlog : List Bytes := []
  deriving DecidableEq, Repr

/-- The host queues. -/
structure HostQ where
  sqs : Tab Sq := []
  cqs : Tab Cq := []
  nextId : Nat := 0
  /-- submission queue with which the round robin of fetches goes on (R418) -/
  turn : Nat := 0
  /-- queue creation has been accepted since the last reset that re-enters WIPE (R23) -/
  createOk : Bool := false
  /-- a TEST_START or TEST_END command that completes at the boundary (R447): true for start, with its CID -/
  testReq : Option (Bool × EntryRef) := none
  deriving DecidableEq, Repr

/-! ### The chart as loaded (Tables 17-6, 17-7) -/

/-- A node table entry. -/
structure NodeEntry where
  valid : Bool := false
  branch : Nat := 0
  position : Nat := 0
  part : Nat := 0
  nberth : Nat := 0
  berths : List Nat := []
  deriving DecidableEq, Repr

/-- A berth map entry. -/
structure BerthEntry where
  node : Nat := 0
  bidx : Nat := 0
  branch : Nat := 0
  frame : Nat := 0
  pos : Nat := 20
  outLen : Nat := 0
  inLen : Nat := 0
  spare : Bool := false
  safeKind : Nat := 0
  outOff : Nat := 0
  inOff : Nat := 0
  safeRef : Nat := 0
  deriving DecidableEq, Repr

/-- A C field that the test timeline names: its value in TEST and outside (R543). -/
structure TestField where
  fld : Fld
  i : Nat
  j : Nat
  test : Nat
  init : Nat
  deriving DecidableEq, Repr

/-- The chart tables of the State region. -/
structure Chart where
  nodes : Tab NodeEntry := []
  berths : List BerthEntry := []
  pool : Bytes := []
  testFields : List TestField := []
  bumpSvn : Bool := false
  /-- BUMP_SVN has been acted on since this chart loaded (R502) -/
  bumpDone : Bool := false
  svn : Nat := 0
  /-- domains for which a REG_INIT record gave an INCR (R55) -/
  incrA : Option Nat := none
  incrB : Option Nat := none
  deriving DecidableEq, Repr

/-- Network settings of the chart in force, with the defaults of R71 and Table 03-1; branch addresses and uplink tags are
those that the chart gives. -/
structure NetCfg where
  etherType : Nat := 0x88B5
  branchAddr : Tab Nat := []
  groupAddr : Nat := 0x034A58000100
  uplinkTags : Tab (List Nat) := []
  /-- bytes of Hold set aside for Garvane frames (R280) -/
  holdAside : Nat := 0
  /-- transmitter equalisation of the ports (R263) -/
  txEq : Tab Nat := []
  deriving DecidableEq, Repr

/-! ### Crossing engine (chapter 04) -/

/-- A copy that supplies a berth's inputs (R121). -/
structure Winner where
  /-- WINNER code of Table 05-2 -/
  code : Nat
  complete : Bool
  stamp : Stamp
  chan : Nat
  inputs : Bytes
  mbx : Bool
  fault : Bool
  deriving DecidableEq, Repr

/-- One berth of a run: its bytes as sent, and the merge so far. -/
structure BerthRun where
  idx : Nat
  frame : Nat
  pos : Nat
  sent : Bytes
  spare : Bool
  absent : Bool
  safe : Bool
  stale : Bool
  outAge : Nat
  win : Option Winner := none
  /-- the inputs-only winner that a complete one replaced (R125) -/
  prior : Option Winner := none
  delivered : Bool := false
  illegal : Bool := false
  deriving DecidableEq, Repr

/-- What became of a frame's launch. -/
inductive LaunchState where
  | waiting | launched | unlaunched
  deriving DecidableEq, Repr

/-- One ferry frame of a train. -/
structure FrameRun where
  len : Nat
  pduLen : Nat
  first : Nat
  count : Nat
  launchAt : Int
  /-- it is whole in its launch register, and it was so before its launch time -/
  whole : Bool := false
  ready : Bool := false
  st : LaunchState := .waiting
  /-- an uncorrectable error has taken it from Hold, where skiffs would find its berths (R151, Table 01-5) -/
  lost : Bool := false
  deriving DecidableEq, Repr

/-- One skiff of a run. -/
structure SkiffRun where
  len : Nat
  pduLen : Nat
  berths : List Nat
  launchAt : Int
  st : LaunchState := .waiting
  deriving DecidableEq, Repr

/-- One active crossing of a branch, from its boundary until every copy is accounted for. -/
structure Run where
  branch : Nat
  crossing : Nat
  start : Int
  deadline : Int
  test : Bool
  /-- TRAIN_LAST and SUBMULT as its frames carry them -/
  last : Nat
  submult : Nat
  frames : List FrameRun
  berths : List BerthRun
  skiffs : List SkiffRun := []
  /-- decisions taken: after the train, after skiff 0, after skiff 1 -/
  decisions : Nat := 0
  /-- no further skiff can be sent (R131) -/
  closed : Bool := false
  overflow : List Nat := []
  merged : Bool := false
  /-- DL_b has passed -/
  final : Bool := false
  deriving DecidableEq, Repr

/-- An own ACYCLIC frame that waits for a DOWN window or is leaving (R140, R433). -/
structure AcyOut where
  node : Nat
  mbx : Nat
  seq : Nat
  data : Bytes
  entry : EntryRef
  deriving DecidableEq, Repr

/-- A branch beside its registers. -/
structure Branch where
  inService : Bool := false
  lastSent : Nat := 0
  /-- host outputs were sent since the last CARGO_SAFE_ENTERED (R155) -/
  hostSent : Bool := false
  rearm : Bool := false
  /-- bits of CROSS_BR_STATUS that raised an event in this crossing (R142) -/
  raised : Nat := 0
  acyQueue : List AcyOut := []
  deriving DecidableEq, Repr

/-- A cycle point that is due in a crossing (R133, R134). -/
structure CpDue where
  point : Nat
  crossing : Nat
  milestone : Nat
  branch : Nat
  at_ : Int
  /-- a condition milestone whose condition has occurred; true for a time milestone -/
  met : Bool
  deriving DecidableEq, Repr

/-- The crossing engine beside its registers. -/
structure Cross where
  /-- the epoch is set and crossings are counted -/
  epoch : Bool := false
  /-- crossing in progress; none before the first boundary -/
  current : Option Nat := none
  runs : List Run := []
  branches : Tab Branch := []
  due : List CpDue := []
  inAge : Tab Nat := []
  outAge : Tab Nat := []
  /-- claims in effect: NODE and BIDX of a claimed spare berth -/
  claims : Tab (Option (Nat × Nat)) := []
  /-- accepted claims and releases not yet in effect, oldest first -/
  claimReqs : List (Nat × Option (Nat × Nat)) := []
  /-- per-node sequence counters of own ACYCLIC frames -/
  acySeq : Tab Nat := []
  /-- ACYCLIC frames kept in this crossing: NODE_ADDR, MBX_TYPE, SEQ (R88) -/
  acySeen : List (Nat × Nat × Nat) := []
  deriving DecidableEq, Repr

/-! ### Cargo (chapter 05) -/

/-- An output buffer with its image number. -/
structure OutBuf where
  img : Nat := 0
  mem : Mem := []
  deriving DecidableEq, Repr

/-- The fetch in progress (R162). -/
inductive FetchSt where
  | none
  /-- the read of OUT_SEQ is outstanding; the crossing of the fetch point -/
  | seq (crossing : Nat)
  /-- image data is being read -/
  | image (crossing : Nat) (slot oseq : Nat)
  deriving DecidableEq, Repr

/-- The snapshot in progress (R165), with the raw count of its INPUTS_STABLE. -/
structure Snapshot where
  crossing : Nat
  count : Nat
  from_ : Word
  /-- the buffer it writes is no longer STABLE but held (Table 05-1) -/
  held : Bool := false
  deriving DecidableEq, Repr

/-- Cargo beside its registers: the buffers by role, and the hand-over. -/
structure Cargo where
  send : OutBuf := {}
  ready : OutBuf := {}
  fill : OutBuf := {}
  inFill : Mem := []
  inStable : Mem := []
  inSpare : Mem := []
  stableValid : Bool := false
  /-- image number of the last completed fetch -/
  lastImg : Nat := 0
  /-- berths with an uncorrectable error in an input or output buffer, not yet acted on (Table 01-5) -/
  inErr : List Nat := []
  outErr : List Nat := []
  /-- ATTACH (true) or DETACH (false) written since the last boundary -/
  attachReq : Option Bool := none
  fetch : FetchSt := .none
  snap : Option Snapshot := none
  snapCount : Nat := 0
  /-- OSEQ of the last image fetched since attach -/
  lastOseq : Option Nat := none
  /-- crossing whose fetch point has passed -/
  fetchPoint : Option Nat := none
  /-- a transfer failed, and one ended, in the crossing in progress (R168) -/
  failed : Bool := false
  ended : Bool := false
  /-- ERR_RUN has reached ERR_LIMIT and Cargo has yet to detach -/
  errDue : Bool := false
  deriving DecidableEq, Repr

/-! ### Pilot (chapter 06) -/

/-- Fencing states of a port, codes 0 to 3 (Table 06-10). -/
inductive ArmState where
  | serving | fenced | probation | locked
  deriving DecidableEq, Repr

/-- Window kinds (Table 06-1). -/
inductive WinKind where
  | ferry | skiff | ownAcyclic | nodeAcyclic | muster | fix | coldstart
  deriving DecidableEq, Repr

/-- A window of a port. Times are crossing-clock times. -/
structure Window where
  id : Nat
  port : Nat
  kind : WinKind
  expect : Int
  accLo : Int
  accHi : Int
  close : Int
  crossing : Nat
  branch : Nat
  /-- frame, skiff, acyclic window or FIX source number -/
  idx : Nat
  chan : Nat
  used : Bool := false
  /-- the copy it awaits was launched -/
  live : Bool := false
  /-- time at which its copy was received to its end, or it closed -/
  doneAt : Option Int := none
  deriving DecidableEq, Repr

/-- Pilot's state of a port beside its registers. -/
structure Arm where
  st : ArmState := .serving
  /-- violations by crossing, newest first (R189) -/
  viols : List (Nat × Nat) := []
  force : Bool := false
  unfence : Bool := false
  /-- the fencing condition occurred since the last boundary -/
  cond : Bool := false
  /-- a violation occurred in PROBATION since the last boundary -/
  probViol : Bool := false
  /-- bits of PILOT_ARM_STATUS that raised an event in this crossing (R197) -/
  raised : Nat := 0
  deriving DecidableEq, Repr

/-- A Garvane frame that passed the checks of Table 03-14 and waits for its consumer. -/
structure Handed where
  port : Nat
  win : Option Window
  /-- the frame's bytes from the destination address, as far as they were received -/
  bytes : Bytes
  /-- PDU offset in `bytes` -/
  off : Nat
  stamp : Stamp
  rxStatus : Nat
  /-- time at which its last received bit arrived -/
  endAt : Int
  deriving DecidableEq, Repr

/-- Pilot. -/
structure Pilot where
  arms : Tab Arm := []
  windows : List Window := []
  nextId : Nat := 0
  handed : List Handed := []
  deriving DecidableEq, Repr
/-! ### Ports, Helm and the redundancy unit (chapters 09, 10, 12) -/

/-- Port states, codes 0 to 6 (Table 09-3). -/
inductive PortSt where
  | idle | start | run | test | recovery | sleep | fenced
  deriving DecidableEq, Repr

/-- Verify status, codes 0 to 5 (Table 10-10). -/
inductive VerifySt where
  | disabled | initial | verifying | succeeded | failed | notVerified
  deriving DecidableEq, Repr

/-- A row of Table 10-2 that waits for the frame in transmission to complete (R299), in table order. -/
inductive VerifyReq where
  | restart | respond | timeout
  deriving DecidableEq, Repr

/-- A received frame as Hold keeps it: what it adds to the occupancy of its port (R280) and how many copies of it
have yet to leave. -/
structure HoldRec where
  port : Nat
  prio : Nat
  len : Nat
  refs : Nat
  deriving DecidableEq, Repr

/-- A SEND or ACYCLIC_SEND entry whose frame is under way: copies yet to leave, and the transmit stamp of the copy that
left on the lowest-numbered port so far, with its checksum skips (R429). -/
structure TxJob where
  entry : EntryRef
  left : Nat
  best : Option (Nat × Stamp × Nat) := none
  /-- SEQ of an own ACYCLIC frame (R433) -/
  seq : Option Nat := none
  deriving DecidableEq, Repr

/-- A frame in a class queue or a launch list: its bytes without FCS. -/
structure TxFrame where
  bytes : Bytes
  flow : Nat
  hold : Option Nat := none
  /-- leaves with every bit of its FCS inverted (R273) -/
  bad : Bool := false
  ctx : Option SendCtx := none
  job : Option Nat := none
  queuedAt : Word := 0
  /-- counted under GUARD_WAITS -/
  waited : Bool := false
  /-- the numbered frame that this is a copy of, for GENERATED (R306) -/
  gen : Option Nat := none
  deriving DecidableEq, Repr

/-- A frame in transmission, or the rest of a pre-empted one: its bytes with FCS, its transmit stamp, the bytes that
earlier fragments carried, and the checksum bits it skipped. -/
structure TxNow where
  frame : TxFrame
  cls : Option Nat
  /-- sent by the preemptable MAC -/
  pe : Bool := false
  bytes : Bytes
  stamp : Stamp
  sent : Nat := 0
  /-- stamp of the first bit of the fragment on the line -/
  from_ : Stamp
  skips : Nat := 0
  /-- what makes the port pre-empt it has stood since before this tick (R295) -/
  due : Bool := false
  deriving DecidableEq, Repr

/-- A Garvane frame of the device's own in transmission, with the own ACYCLIC entry it completes. -/
structure OwnTx where
  bytes : Bytes
  stamp : Stamp
  /-- raw count at which its last bit has left -/
  stop : Word
  job : Option Nat := none
  deriving DecidableEq, Repr

/-- A class of an uplink: its queued frames in order of arrival, the start tags of its flows, V_c, and its shaper's
tokens in units of 2^-32 ÷ 390,625 packet, in which every accrual is exact (R363). -/
structure ClassQ where
  frames : List TxFrame := []
  start : Tab Nat := []
  v : Nat := 0
  tokens : Int := 0
  last : Word := 0
  deriving DecidableEq, Repr

/-- A gate list (R366): STATES and INTERVAL_NS of each entry; BASE in ns. -/
structure GateList where
  en : Bool := false
  tb : Nat := 0
  base : Int := 0
  cycle : Nat := 0
  ext : Nat := 0
  entries : List (Nat × Nat) := []
  deriving DecidableEq, Repr

/-- A pending change of a gate list (R370): the list, and CT in ns of its timebase. -/
structure GatePend where
  list : GateList
  ct : Int
  deriving DecidableEq, Repr

/-- A preemptable frame under reassembly: its bytes, flags and first stamp so far, its frame count and the fragment count
that must come next (R297). -/
structure Reassembly where
  frame : RxFrame
  count : Nat
  next : Nat
  deriving DecidableEq, Repr

/-- A port beside its registers. -/
structure Port where
  st : PortSt := .idle
  /-- the partner restarted negotiation, and the port in RECOVERY trains (Table 09-3) -/
  training : Bool := false
  /-- raw count from which the 10 ms of RECOVERY run; none while its reference is absent -/
  recoverFrom : Option Word := none
  now : Option TxNow := none
  /-- the pre-empted frame -/
  held : Option TxNow := none
  own : Option OwnTx := none
  launch : List TxFrame := []
  /-- timed frames that wait, each at the head of its class, for room in the launch list, in fetch order (R253) -/
  waits : List (Nat × TxFrame) := []
  classes : Tab ClassQ := []
  /-- verify frames (false) and respond frames (true) that are due (R299, R300) -/
  mergeDue : List Bool := []
  /-- raw count until which the inter-packet gap after the last frame runs (R274) -/
  gapEnd : Word := 0
  /-- raw count until which a verify or respond frame is on the line (R299) -/
  mergeEnd : Word := 0
  /-- PAUSE and PFC frames that are due -/
  ctrlDue : List Bytes := []
  /-- the PFC frame last made due by a change of XOFF: its raw count, the priorities that changed there, and its bytes
  (R281) -/
  pfcLast : Option (Word × Nat × Bytes) := none
  /-- raw count at which the partner's pause of a class ends -/
  pauseEnd : Tab (Option Word) := []
  /-- raw count at which the last XOFF frame of a priority went -/
  xoffAt : Tab Word := []
  oper : GateList := {}
  /-- operational entry in force and the time in ns at which it ends -/
  entry : Nat := 0
  entryEnd : Int := 0
  pend : Option GatePend := none
  /-- the fragments received so far of the preemptable frame under reassembly (R297) -/
  asm : Option Reassembly := none
  verify : VerifySt := .disabled
  verifyFrom : Word := 0
  verifyReq : List VerifyReq := []
  deriving DecidableEq, Repr

/-- A stream's recovery and generation state (R305, R307); bit i of the history is RCVY_SEQ − i. -/
structure Stream where
  gen : Nat := 0
  rcvySeq : Nat := 0
  history : Nat := 0
  takeAny : Bool := true
  timer : Option Word := none
  deriving DecidableEq, Repr

/-- A host frame that its class has no room for: it waits, and its submission queue with it (Table 12-2). -/
structure Offer where
  port : Nat
  cls : Nat
  frame : TxFrame
  deriving DecidableEq, Repr

/-- The ports and what serves them all. -/
structure Net where
  ports : Tab Port := []
  holds : Tab HoldRec := []
  jobs : Tab (Option TxJob) := []
  nextId : Nat := 0
  offers : List Offer := []
  streams : Tab Stream := []
  /-- streams of the numbered frames of which no copy has been enqueued yet (R306) -/
  gens : Tab (Option Nat) := []
  /-- REFCLK_NET0 and REFCLK_NET1 are absent -/
  refLost : Tab Bool := []
  /-- queue samples (Table 12-5) by ring index, and the raw count of the last round -/
  samples : Tab (List Word) := []
  sampleAt : Word := 0
  deriving DecidableEq, Repr

/-! ### Compass (chapter 11) -/

/-- A frame under classification: ingress port, bytes without FCS, length under R270, receive status, stamp, Hold. -/
structure RxCtx where
  port : Nat
  bytes : Bytes
  len : Nat
  status : Nat
  stamp : Stamp
  hold : Nat
  deriving DecidableEq, Repr

/-- A ternary entry with its action. No command of the table damages an entry, so `parityErr` stays false in every
run from reset; a lookup acts on it as R328 says. -/
structure RuleEnt where
  value : BitVec 512
  mask : BitVec 512
  act0 : Word
  act1 : Word
  /-- cleared by INVALIDATE and by a parity error; the contents stay -/
  valid : Bool := true
  parityErr : Bool := false
  deriving DecidableEq, Repr

/-- A frame in the recirculation queue, pinned to its bank. -/
structure Recirc where
  port : Nat
  bytes : Bytes
  status : Nat
  stamp : Stamp
  bank : Bool
  act0 : Word
  act1 : Word
  stop : Nat
  stopNode : Nat
  lenConflict : Bool
  len : Nat
  hold : Nat
  /-- raw count of the pass-1 lookup -/
  at_ : Word
  deriving DecidableEq, Repr

/-- A meter: tokens in units of 2^-32 ÷ 390,625 packet, and the raw stamp of its last update (R346). -/
structure Meter where
  tokens : Nat := 0
  last : Stamp := { count := 0 }
  deriving DecidableEq, Repr

/-- The Compass beside its registers. -/
structure Compass where
  bank0 : Tab (Option RuleEnt) := []
  bank1 : Tab (Option RuleEnt) := []
  queue : List Recirc := []
  /-- classified frames with their action that wait for earlier-stamped frames of the recirculation queue, by stamp (R309,
  R346) -/
  wait : List (RxCtx × Nat) := []
  meters : Tab Meter := []
  /-- raw count at which the rule command in progress completes (R351) -/
  busyEnd : Word := 0
  deriving DecidableEq, Repr

/-! ### Fix and muster (chapter 07) -/

/-- Fix states, codes 0 to 6 (Table 07-1). -/
inductive FixSt where
  | idle | listen | coldstarting | backoff | integrating | synchronised | lostFix
  deriving DecidableEq, Repr

/-- Fix beside its registers. Deviations are in units of 2^-16 ns; RC and SIGMA in units of
1 ÷ (2^48 × 10^9 × PERIOD). -/
structure Fix where
  st : FixSt := .idle
  /-- raw count at which the listen or backoff timer started -/
  timerFrom : Word := 0
  rc : Int := 0
  sigma : Int := 0
  cPrev : Int := 0
  /-- measured in the crossing in progress, and in the one before: source and deviation -/
  meas : List (Nat × Int) := []
  prev : List (Nat × Int) := []
  /-- last measured deviation of each source, advanced by the corrections since (R206) -/
  last : Tab Int := []
  /-- raw count of the SET that set or adopted the epoch -/
  setAt : Word := 0
  /-- ports whose COLDSTART of crossing 0 has yet to leave (R214) -/
  csDue : List Nat := []
  /-- crossing of the last FIX frame sent on each port -/
  sent : Tab (Option Nat) := []
  /-- first crossing with FIX frames (R201) -/
  from_ : Nat := 0
  /-- crossings in a row since the epoch in which no source was measured (Table 07-2) -/
  missed : Nat := 0
  deriving DecidableEq, Repr

/-- An entry that muster received, at its position on the channel (Table 03-11). -/
structure MusterEntry where
  pos : Nat
  valid : Bool
  node : Nat
  part : Nat
  nberth : Nat
  flags : Nat
  outMax : Nat
  inMax : Nat
  deriving DecidableEq, Repr

/-- What a channel's muster sends: DISCOVER frames, ECHO frames, or nothing more in this stage. -/
inductive MusterStep where
  | discover | echo | done
  deriving DecidableEq, Repr

/-- The MUSTER frame in flight on a channel. -/
structure MusterSent where
  crossing : Nat
  op : Nat
  skip : Nat
  entryMax : Nat
  stamp : Stamp
  window : Nat
  deriving DecidableEq, Repr

/-- Muster of one channel, held under the port that launches it; round trips in units of 2^-16 ns. -/
structure MusterCh where
  step : MusterStep := .discover
  /-- MUSTER frames launched on the port since the device entered MUSTER (R78) -/
  count : Nat := 0
  sent : Option MusterSent := none
  skip : Nat := 0
  /-- node count that POSITION returned -/
  nodes : Option Nat := none
  entries : List MusterEntry := []
  echoes : List Int := []
  /-- a turned-back ECHO copy has returned in this line measurement (R195) -/
  primed : Bool := false
  deriving DecidableEq, Repr

/-- Muster: channels by launch port, results by branch, and the raw count of the entry into MUSTER. -/
structure Muster where
  from_ : Word := 0
  chans : Tab MusterCh := []
  /-- what a branch measures: 0 its ring or single channel, 1 the line of channel A, 2 that of channel B (R195) -/
  stage : Tab Nat := []
  /-- the branch has a result -/
  judged : Tab Bool := []
  /-- node IDs found on a branch, those the TOLERANT outcome marks ABSENT, and those it has marked -/
  found : Tab (List Nat) := []
  tolerant : Tab (List Nat) := []
  absent : Tab (List Nat) := []
  /-- ACCEPT was written since the last boundary -/
  accept : Tab Bool := []
  deriving DecidableEq, Repr
/-! ### Trim (chapter 13) -/

/-- Trim beside its registers. -/
structure Trim where
  /-- raw count at which the evaluation interval in progress began -/
  evalFrom : Word := 0
  /-- least slack in ns of each sentinel that completed work in this interval -/
  least : Tab (Option Int) := []
  /-- a request that changed the voltage: its raw count, and the ns until it has settled (R390) -/
  settle : Option (Word × Nat) := none
  /-- RELAX in full; the register saturates at 127 (R389) -/
  relax : Nat := 0
  /-- the last AVSBus transaction failed and is due again -/
  retry : Bool := false
  /-- T_max reached WARN_C and has not fallen 5 °C below it since -/
  warned : Bool := false
  /-- a heading that waits for its point of effect (R399) -/
  pend : Option Nat := none
  /-- the waiting heading was written in MUSTER: it takes effect at the end of the interval in progress (R399) -/
  soon : Bool := false
  /-- DORMANT has ended, and the crossing engine waits for this request of Trim's to settle (R392) -/
  resume : Option (Word × Nat) := none
  /-- the software cap in force, in W (R395) -/
  cap : Nat := 0
  /-- SMBus values by command code, as of the last interval's end (R537) -/
  smb : Tab Nat := []
  /-- SMB_ALERT_N is pulled low -/
  alert : Bool := false
  deriving DecidableEq, Repr

/-- A fabric link (R19, R20). -/
structure FabricLink where
  /-- consecutive failed receptions -/
  fails : Nat := 0
  /-- the sender's replay buffer: its last 32 flits, newest first -/
  buffer : List Bytes := []
  /-- the receiver discards until the replay arrives: how many of the newest flits of the buffer it has yet to be sent
  again, the failing flit first; 0 when it discards nothing -/
  owed : Nat := 0
  /-- the flit that the receiver accepted last -/
  accepted : Option Bytes := none
  deriving DecidableEq, Repr

/-- The fabric and the SRAM regions (R19 to R22): links, single-bit errors by region (Hold, Cargo, State, Queue, Record
from 0 on), and frames dropped for an uncorrectable error in Hold. -/
structure Core where
  links : Tab FabricLink := []
  single : Tab Nat := []
  holdDrops : Nat := 0
  deriving DecidableEq, Repr

/-- What the HALT_LOG record that has yet to be written will hold (R514). -/
structure HaltLog where
  cause : Nat
  left : Nat
  raw : Word
  crossing : Nat
  deriving DecidableEq, Repr


/-! ### The chart loader (chapter 17) -/

/-- Where the loader stands within LOAD (Table 17-10). -/
inductive BootStep where
  | idle | retiredIdle | header | read | verify | check | fault
  deriving DecidableEq, Repr

/-- What the loader has read of a slot and not yet put in force: no block acts on it before MUSTER (R500). -/
structure Loading where
  slot : Nat := 0
  seq : Nat := 0
  svn : Nat := 0
  bump : Bool := false
  /-- C fields as the REG_INIT records give them, and the same with the overrides applied (R495, R501) -/
  regs : Tab Nat := []
  final : Tab Nat := []
  /-- register addresses that REG_INIT records name -/
  named : List Nat := []
  /-- a REG_INIT record gave a field a value outside the range of its table (R12) -/
  outOfRange : Bool := false
  /-- TEST_TIMELINE records: address and VALUE; none without the section -/
  timeline : Option (List (Nat × Nat)) := none
  nodes : Tab NodeEntry := []
  berths : List BerthEntry := []
  pool : Bytes := []
  rules : Tab (Option RuleEnt) := []
  net : NetCfg := {}
  /-- the 97 key bytes, the signature, and the digest of the slot (Table 17-4) -/
  key : Bytes := []
  sig : Bytes := []
  digest : BitVec 384 := 0
  deriving DecidableEq, Repr

/-- An open staging session: its slot, LENGTH, and the bytes written so far (R507). -/
structure StageSess where
  slot : Nat
  length : Nat
  written : Nat
  deriving DecidableEq, Repr

/-- The chart loader beside its registers. -/
structure Boot where
  step : BootStep := .idle
  /-- what the SFDP read of this LOAD reported (R491) -/
  sfdp : Sfdp := { jedecId := 0, sizeLog2 := 0 }
  /-- raw count of the entry into LOAD -/
  from_ : Word := 0
  /-- dummy cycles of the flash read command in use; 0 as SFDP gives (R491) -/
  dummy : Nat := 0
  /-- SLOT_SIZE in bytes; 0 without a valid flash header -/
  slotSize : Nat := 0
  /-- slots that R498 has yet to try, in order; the first is being tried -/
  cands : List Nat := []
  load : Option Loading := none
  stage : Option StageSess := none
  deriving DecidableEq, Repr
/-! ### The whole -/

/-- Everything a reset clears. -/
structure Device where
  st : DevState := .wipe
  /-- a chart is loaded (CHART_STATUS.LOADED) -/
  charted : Bool := false
  /-- the raw counter (R32) -/
  raw : Word := 0
  /-- register fields; an RWA field holds the value last written -/
  regs : Tab Nat := []
  /-- RWA fields as they took effect at the last crossing boundary -/
  inforce : Tab Nat := []
  /-- counters of the COUNT block by offset -/
  counters : Tab Word := []
  reckon : Reckon := {}
  ev : Events := {}
  pcie : Pcie := {}
  tio : Tab TioPin := []
  strec : StRecQueue := {}
  tender : Tab TenderCh := []
  /-- host channel that the round robin serves next (R464) -/
  tenderTurn : Nat := 16
  /-- the channel whose turn to write is next (R464) -/
  writeTurn : Nat := 0
  hq : HostQ := {}
  chart : Chart := {}
  netCfg : NetCfg := {}
  cross : Cross := {}
  cargo : Cargo := {}
  pilot : Pilot := {}
  net : Net := {}
  compass : Compass := {}
  fix : Fix := {}
  muster : Muster := {}
  trim : Trim := {}
  core : Core := {}
  boot : Boot := {}
  haltLog : Option HaltLog := none
  /-- a life-cycle transition is committed and WIPE waits for the next boundary (R26, R517) -/
  wipeDue : Bool := false
  /-- the instruction register of the TAP (R540), which no device reset changes; one that took the pins is BYPASS from
  the end of RESET or HALT on (R541) -/
  tap : Nat := 0x01
  /-- number of free values taken so far (the model's own field) -/
  freeCtr : Nat := 0
  /-- what an observer has seen, newest first (the model's own field) -/
  out : List OutEvent := []
  deriving DecidableEq, Repr

/-- The two fuse bits of each life-cycle state (R515). -/
structure LcFuses where
  provisioned : BitVec 2 := 0
  fielded : BitVec 2 := 0
  retired : BitVec 2 := 0
  deriving DecidableEq, Repr

/-- Fuses and chart flash: no reset clears them. An erased byte of flash reads 0xFF. -/
structure NonVol where
  /-- the life-cycle fuses -/
  fuses : LcFuses := {}
  /-- the fused SVN, 0 to 64 (R502) -/
  fusedSvn : Nat := 0
  /-- KEY_HASH (R516) -/
  keyHash : BitVec 384 := 0
  uid : Word := 0
  revision : BitVec 8 := 0
  flash : Mem := []
  deriving DecidableEq, Repr

/-- The state of the block: the commands that wait, first in first out, the non-volatile part and the rest. -/
structure State where
  pending : List Instr := []
  nv : NonVol := {}
  dev : Device := {}
  deriving DecidableEq, Repr

/-- The block right after reset: it has just left RESET (R24), so the raw counter is 0, memories are being cleared,
every register reads its reset value, PERST_N is low and no command waits. -/
def State.reset : State := {}

end Sys2Proof.Machine
end

