-- ==== Sys2Proof/Machine/Ops.lean ====
section
/-!
DEFINITION. The named operations over the register file, the counters and the outputs: every meaning reads and writes
registers and counters through them. Also the generic register write and read by field type (R7 to R12).
The choices it makes stand under notes/assumptions: 7 (DESIGN CHOICE), 11 (DESIGN CHOICE), 13 (DEDUCED), 16 (DESIGN
CHOICE), 20 (DESIGN CHOICE), 73 (DEDUCED).
-/

namespace Sys2Proof.Machine

/-! ### Register fields -/

/-- The life-cycle state: the highest whose two fuse bits both read 1 (R515). -/
def NonVol.lifecycle (n : NonVol) : Lifecycle :=
  if n.fuses.retired = 3 then .retired else if n.fuses.fielded = 3 then .fielded
  else if n.fuses.provisioned = 3 then .provisioned else .blank

/-- What a field reads that nothing has written: its reset value, and from the chart's loading on the value that a chart
which sets none gives (R11, R495). -/
def Device.unset (d : Device) (f : Fld) : Nat := if d.charted then f.dflt else f.reset

/-- The value of field `f` of indices `i`, `j` (the value last written, for an RWA field). -/
def Device.rg (d : Device) (f : Fld) (i : Nat := 0) (j : Nat := 0) : Nat := tabGet (d.unset f) d.regs (f.key i j)

/-- A one-bit field as a Bool. -/
def Device.rb (d : Device) (f : Fld) (i : Nat := 0) (j : Nat := 0) : Bool := d.rg f i j != 0

/-- Field `f` set to `v`, truncated to the field's width. -/
def Device.ru (d : Device) (f : Fld) (v : Nat) (i : Nat := 0) (j : Nat := 0) : Device :=
  { d with regs := tabSet (d.unset f) d.regs (f.key i j) (v % 2 ^ f.width) }

/-- A one-bit field set from a Bool. -/
def Device.rub (d : Device) (f : Fld) (v : Bool) (i : Nat := 0) (j : Nat := 0) : Device :=
  d.ru f (if v then 1 else 0) i j

/-- Field `f` advanced by `n`, wrapping at its width. -/
def Device.radd (d : Device) (f : Fld) (n : Nat) (i : Nat := 0) (j : Nat := 0) : Device :=
  d.ru f (d.rg f i j + n) i j

/-- Field `f` advanced by `n`, saturating at its width. -/
def Device.rsat (d : Device) (f : Fld) (n : Nat) (i : Nat := 0) (j : Nat := 0) : Device :=
  d.ru f (min (d.rg f i j + n) (2 ^ f.width - 1)) i j

/-- The bits `m` of field `f` set. -/
def Device.ror (d : Device) (f : Fld) (m : Nat) (i : Nat := 0) (j : Nat := 0) : Device :=
  d.ru f (d.rg f i j ||| m) i j

/-- The value of an RWA field that is in force: the one of the last crossing boundary (R7). -/
def Device.rgf (d : Device) (f : Fld) (i : Nat := 0) (j : Nat := 0) : Nat := tabGet (d.unset f) d.inforce (f.key i j)

/-- A field's value read as a two's-complement number of the field's width. -/
def signedOf (w v : Nat) : Int := if v < 2 ^ (w - 1) then v else (v : Int) - 2 ^ w

/-- A number as a two's-complement field of width `w`. -/
def unsignedOf (w : Nat) (v : Int) : Nat := (v % (2 ^ w : Int)).toNat

/-! ### Counters of the COUNT block (R105) -/

/-- The counter at COUNT offset `off`. -/
def Device.cnt (d : Device) (off : Nat) : Word := tabGet 0 d.counters off

/-- The counter at `off` advanced by `n`, saturating at 2^64 - 1. -/
def Device.countN (d : Device) (off n : Nat) : Device :=
  { d with counters := tabSet 0 d.counters off (BitVec.ofNat 64 (min ((d.cnt off).toNat + n) (2 ^ 64 - 1))) }

/-- The counter at `off` advanced by 1. -/
def Device.count (d : Device) (off : Nat) : Device := d.countN off 1

/-- `count` when the condition holds. -/
def Device.countIf (d : Device) (c : Bool) (off : Nat) : Device := if c then d.count off else d

/-! ### Outputs and free values -/

/-- An output event recorded. -/
def Device.emit (d : Device) (e : OutEvent) : Device := { d with out := e :: d.out }

/-- A value the spec leaves open, and the device with the next one to come. -/
def Device.free (d : Device) : BitVec 64 × Device := (Config.freeValue d.freeCtr, { d with freeCtr := d.freeCtr + 1 })

/-! ### Time on the raw counter -/

/-- Ticks of the raw counter since the raw count `r`. -/
def Device.since (d : Device) (r : Word) : Nat := (d.raw - r).toNat

/-- Whether at least `ns` nanoseconds have passed since the raw count `r`, at nominal 1.25 ns per tick. -/
def Device.passedNs (d : Device) (r : Word) (ns : Nat) : Bool := decide (4 * ns ≤ 5 * d.since r)

/-- The stamp of the present tick. -/
def Device.nowStamp (d : Device) : Stamp := { count := d.raw }

/-! ### Bytes and words -/

/-- The low `n` bytes of `v`, most significant first (R2). -/
def beBytes : Nat → Nat → Bytes
  | 0, _ => []
  | n + 1, v => BitVec.ofNat 8 (v / 256 ^ n) :: beBytes n v

/-- The low `n` bytes of `v`, least significant first. -/
def leBytes : Nat → Nat → Bytes
  | 0, _ => []
  | n + 1, v => BitVec.ofNat 8 v :: leBytes n (v / 256)

/-- A byte string as a number, most significant byte first. -/
def beNat (bs : Bytes) : Nat := bs.foldl (fun a b => a * 256 + b.toNat) 0

/-- A byte string as a number, least significant byte first. -/
def leNat : Bytes → Nat
  | [] => 0
  | b :: bs => b.toNat + 256 * leNat bs

/-- The `n` bytes of `bs` from offset `o`, as far as `bs` reaches. -/
def slice (bs : Bytes) (o n : Nat) : Bytes := (bs.drop o).take n

/-- The big-endian field of `n` bytes at offset `o`. -/
def beField (bs : Bytes) (o n : Nat) : Nat := beNat (slice bs o n)

/-- The little-endian 64-bit word number `k` of `bs`. -/
def leWord (bs : Bytes) (k : Nat) : Nat := leNat (slice bs (8 * k) 8)

/-- `bs` with the bytes from offset `o` replaced by `new`. -/
def patch (bs : Bytes) (o : Nat) (new : Bytes) : Bytes := bs.take o ++ new ++ bs.drop (o + new.length)

/-- Bits [hi:lo] of a number. -/
def bits (v hi lo : Nat) : Nat := v / 2 ^ lo % 2 ^ (hi - lo + 1)

/-- Bit `k` of a number. -/
def bit (v k : Nat) : Bool := v / 2 ^ k % 2 == 1

/-- Bytes concatenated from 64-bit little-endian words. -/
def wordsBytes (ws : List Nat) : Bytes := ws.foldr (fun w acc => leBytes 8 w ++ acc) []

/-- Split a byte string into pieces of `n` bytes; `fuel` bounds the number of pieces. -/
def chunksAux (n : Nat) : Nat → Bytes → List Bytes
  | 0, _ => []
  | fuel + 1, bs => if bs.isEmpty then [] else bs.take n :: chunksAux n fuel (bs.drop n)

/-- Split a byte string into pieces of `n` bytes. -/
def chunks (n : Nat) (bs : Bytes) : List Bytes := chunksAux n bs.length bs

/-! ### Generic register access (R3 to R12) -/

/-- The bits of a 64-bit word that an access of width `w` at byte address `a` reaches, as a mask. -/
def accessMask (a : Nat) : AccWidth → Nat
  | .w64 => 2 ^ 64 - 1
  | .w32 => if a % 8 = 4 then (2 ^ 32 - 1) * 2 ^ 32 else 2 ^ 32 - 1

/-- The value of a write of width `w` at address `a` as a 64-bit word. -/
def accessValue (a : Nat) (w : AccWidth) (v : Word) : Nat :=
  match w with
  | .w64 => v.toNat
  | .w32 => if a % 8 = 4 then v.toNat % 2 ^ 32 * 2 ^ 32 else v.toNat % 2 ^ 32

/-- A write of the bits `mask` of `value` to one field, by the field's type (Table 00-3, R12). -/
def writeField (fd : FieldDef) (i j mask value : Nat) (d : Device) : Device :=
  let m := bits mask fd.fld.hi fd.fld.lo
  let v := bits value fd.fld.hi fd.fld.lo
  let old := d.rg fd.fld i j
  if m = 0 then d
  else match fd.type with
    | .rw | .rwa =>
      let new := (old &&& (2 ^ fd.fld.width - 1 - m)) ||| (v &&& m)
      if fd.isReserved new then d else d.ru fd.fld new i j
    | .w1c => d.ru fd.fld (old &&& (2 ^ fd.fld.width - 1 - (v &&& m))) i j
    | .ro | .rc | .wo | .rl => d

/-- A write to every field of the register at the 8-byte-aligned address `a`; a reserved address is ignored (R6). -/
def writeFields (a mask value : Nat) (d : Device) : Device :=
  match lookupReg (a / 8 * 8) with
  | none => d
  | some (rd, i, j) => rd.fields.foldl (fun d fd => writeField fd i j mask value d) d

/-- A 64-bit write of `value` to the register at address `a`. -/
def writeReg64 (a : Nat) (value : Word) (d : Device) : Device := writeFields a (2 ^ 64 - 1) value.toNat d

/-- Entry `k` of a list of status and enable bits; the first when the list is shorter. -/
def bitPair (l : List (Fld × Fld)) (k : Nat) : Fld × Fld :=
  (l[k]?).getD (l.headD (F.GLOBAL_CTRL_KEY, F.GLOBAL_CTRL_KEY))

/-- The BAR0 address of the register that holds field `f` of indices `i`, `j`. -/
def Fld.addr (f : Fld) (i : Nat := 0) (j : Nat := 0) : Nat := f.base + f.s1 * i + f.s2 * j

/-- Device states in which cycle points fire and the hand-over runs (Table 04-1, R133, R159). -/
def liveState (st : DevState) : Bool :=
  match st with
  | .run | .recovery | .test => true
  | .off | .reset | .wipe | .load | .muster | .firstCrossing | .dormant | .halt => false

end Sys2Proof.Machine
end

