-- ==== Sys2Proof/Machine/Time.lean ====
section
/-!
DEFINITION. The conversions of the Reckoner (R34 to R37): a raw stamp read in a timebase, exactly, in units of
2^-56 ns (BASE has 40 fractional bits and a stamp's fraction 16), and the time formats of Table 02-3.
The choices it makes stand under notes/assumptions: 14 (DESIGN CHOICE), 15 (DEDUCED), 38 (DEDUCED), 50 (DEDUCED).
-/

namespace Sys2Proof.Machine

/-- Timebase `m`. -/
def Device.dom (d : Device) : Dom → Domain
  | .a => d.reckon.a
  | .b => d.reckon.b
  | .x => d.reckon.x

/-- Timebase `m` replaced. -/
def Device.setDom (d : Device) (m : Dom) (x : Domain) : Device :=
  match m with
  | .a => { d with reckon.a := x }
  | .b => { d with reckon.b := x }
  | .x => { d with reckon.x := x }

/-- T(R) under one parameter set: BASE + INCR × (R − RAW_AT_BASE), in units of 2^-56 ns (R36). -/
def ParamSet.timeAt (p : ParamSet) (r : Stamp) : Int :=
  p.base * 2 ^ 16 + p.incr * (((r.count.toNat : Int) - p.rawAt.toNat) * 2 ^ 16 + r.frac.toNat)

/-- The parameter set in force at a raw count (R37). -/
def Domain.setFor (m : Domain) (count : Word) : ParamSet :=
  if m.cur.rawAt.toNat ≤ count.toNat then m.cur
  else if m.prev.rawAt.toNat ≤ count.toNat then m.prev
  else (m.older.find? fun p => decide (p.rawAt.toNat ≤ count.toNat)).getD m.prev

/-- A stamp of the device's own read in timebase `m` (R37, R38). -/
def Device.timeAt (d : Device) (m : Dom) (r : Stamp) : Int := ((d.dom m).setFor r.count).timeAt r

/-- A stamp that the host gives, read in timebase `m` under one of the two sets that the Reckoner keeps (R38). DESIGN
CHOICE: the one before the current serves every count below the current one's, also where it was not yet in force. -/
def Device.timeAtKept (d : Device) (m : Dom) (r : Stamp) : Int :=
  (if (d.dom m).cur.rawAt.toNat ≤ r.count.toNat then (d.dom m).cur else (d.dom m).prev).timeAt r

/-- The timebase that selector `sel` names (Table 02-2). DESIGN CHOICE: for 0b11 the domain that is primary when a value
is converted, also for a stamp taken before a switch and reported after it (R59 leaves that open). -/
def Device.tb (d : Device) (sel : Nat) : Dom :=
  match sel with
  | 0 => .x
  | 1 => .a
  | 2 => .b
  | _ => if d.rb F.RECKON_PRIMARY_PRIMARY then .b else .a

/-- The domain that is not `m` among A and B. -/
def otherDom : Dom → Dom
  | .a => .b
  | .b => .a
  | .x => .x

/-- The time of timebase `m` at the present tick. -/
def Device.now (d : Device) (m : Dom) : Int := d.timeAt m d.nowStamp

/-- The crossing clock at the present tick. -/
def Device.xNow (d : Device) : Int := d.now .x

/-- Nanoseconds in units of 2^-56 ns. -/
def nsT (n : Int) : Int := n * 2 ^ 56

/-- The instant, in units of 2^-16 tick of the raw counter, at which timebase `m` reaches `t` by the set now in force. -/
def reachUnits (m : Dom) (t : Int) (d : Device) : Int :=
  let p := (d.dom m).cur
  (t - p.base * 2 ^ 16) / p.incr + (p.rawAt.toNat : Int) * 2 ^ 16

/-- The time of timebase `m` at an instant in units of 2^-16 tick, by the set now in force. -/
def unitsTime (m : Dom) (u : Int) (d : Device) : Int :=
  let p := (d.dom m).cur
  p.base * 2 ^ 16 + p.incr * (u - (p.rawAt.toNat : Int) * 2 ^ 16)

/-- The time of timebase `n` at which timebase `m` reaches `t`, by the sets now in force, rounded once, towards the lower
value, to the internal resolution of R36. -/
def timeIn (m n : Dom) (t : Int) (d : Device) : Int :=
  if m = n then t
  else
    let p := (d.dom m).cur
    let q := (d.dom n).cur
    q.base * 2 ^ 16 + q.incr * ((p.rawAt.toNat : Int) - q.rawAt.toNat) * 2 ^ 16 + q.incr * (t - p.base * 2 ^ 16) / p.incr

/-- The same rounded towards the higher value: a time `u` in the resolution of R36 lies at or after that instant just when
`timeInUp m n t d ≤ u`, and before it just when `u < timeInUp m n t d` (R41). -/
def timeInUp (m n : Dom) (t : Int) (d : Device) : Int :=
  if m = n then t
  else
    let p := (d.dom m).cur
    let q := (d.dom n).cur
    q.base * 2 ^ 16 + q.incr * ((p.rawAt.toNat : Int) - q.rawAt.toNat) * 2 ^ 16 - -(q.incr * (t - p.base * 2 ^ 16)) / p.incr

/-- The first whole ns at or after a time in units of 2^-56 ns. -/
def nsUp (t : Int) : Int := -(-t / 2 ^ 56)

/-- A time in units of 2^-16 ns, truncated towards the lower value (R36). -/
def timeU16 (t : Int) : Int := t / 2 ^ 40

/-- Seconds of a time. -/
def timeSecs (t : Int) : Nat := (timeU16 t).toNat / 2 ^ 16 / 1000000000

/-- Nanoseconds of a time within its second. -/
def timeNanos (t : Int) : Nat := (timeU16 t).toNat / 2 ^ 16 % 1000000000

/-- Fraction of a time in units of 2^-16 ns. -/
def timeFrac (t : Int) : Nat := (timeU16 t).toNat % 2 ^ 16

/-- The _HI word of a time register (Table 02-9). -/
def timeHiWord (t : Int) : Nat := timeSecs t % 2 ^ 48

/-- The _LO word of a time register (Table 02-9). -/
def timeLoWord (t : Int) : Nat := timeNanos t * 2 ^ 16 + timeFrac t

/-- A time in units of 2^-16 ns from seconds, nanoseconds and fraction. -/
def u16Of (secs nanos frac : Nat) : Int := (((secs * 1000000000 + nanos) * 2 ^ 16 + frac : Nat) : Int)

/-- A time in units of 2^-56 ns from one in units of 2^-16 ns. -/
def ofU16 (t : Int) : Int := t * 2 ^ 40

/-- A stamp moved by a signed number of 2^-16 tick units. -/
def stampShift (r : Stamp) (u : Int) : Stamp :=
  let v : Int := (r.count.toNat : Int) * 2 ^ 16 + r.frac.toNat + u
  { count := BitVec.ofInt 64 (v / 2 ^ 16), frac := BitVec.ofInt 16 v }

/-- Tick fraction units (2^-16 tick, 1.25 ns per tick) of a signed time in units of 2^-16 ns, towards the lower value. -/
def tickUnits (u16ns : Int) : Int := u16ns * 4 / 5

end Sys2Proof.Machine
end

