-- ==== Sys2Proof/Machine/Operands.lean ====
section
/-!
DEFINITION. The operand forms of the commands that carry frames: the CRCs, the bytes of every Garvane frame kind as
the JX-9640 sends it (chapter 03), and the parse of a received one.
The choices it makes stand under notes/assumptions: 56 (DEDUCED).
-/

namespace Sys2Proof.Machine

/-! ### CRCs (R79, R74, R285) -/

/-- One bit of the CRC-16 of R79. -/
def crc16Bit (c : Nat) : Nat := if c < 0x8000 then c * 2 else (c * 2 % 0x10000) ^^^ 0x1021

/-- One byte into the CRC-16 register. -/
def crc16Byte (c : Nat) (b : Byte) : Nat :=
  crc16Bit (crc16Bit (crc16Bit (crc16Bit (crc16Bit (crc16Bit (crc16Bit (crc16Bit (c ^^^ (b.toNat * 256)))))))))

/-- CRC-16: polynomial 0x1021, initial value 0xFFFF, no reflection, no final XOR (R79). -/
def crc16 (bs : Bytes) : Nat := bs.foldl crc16Byte 0xFFFF

/-- One bit of the reflected CRC-32. -/
def crc32Bit (c : Nat) : Nat := if c % 2 = 0 then c / 2 else (c / 2) ^^^ 0xEDB88320

/-- One byte into the CRC-32 register. -/
def crc32Byte (c : Nat) (b : Byte) : Nat :=
  crc32Bit (crc32Bit (crc32Bit (crc32Bit (crc32Bit (crc32Bit (crc32Bit (crc32Bit (c ^^^ b.toNat))))))))

/-- CRC-32 of the IEEE 802.3 FCS: polynomial 0x04C11DB7 reflected, initial value and final XOR 0xFFFFFFFF (R285). -/
def crc32 (bs : Bytes) : Nat := bs.foldl crc32Byte 0xFFFFFFFF ^^^ 0xFFFFFFFF

/-- The FCS bytes of a frame, in wire order. -/
def fcsOf (bs : Bytes) : Bytes := leBytes 4 (crc32 bs)

/-- A frame with its FCS, padded to 64 bytes first (R72, R274). -/
def withFcs (bs : Bytes) : Bytes :=
  let padded := bs ++ List.replicate (60 - bs.length) 0
  padded ++ fcsOf padded

/-- A frame with the right FCS of its bytes, every bit inverted (R74, R273). -/
def withBadFcs (bs : Bytes) : Bytes :=
  let padded := bs ++ List.replicate (60 - bs.length) 0
  padded ++ (fcsOf padded).map (fun b => ~~~b)

/-- Whether a received frame's FCS is right. -/
def fcsOk (bs : Bytes) : Bool :=
  4 ≤ bs.length && bs.drop (bs.length - 4) == fcsOf (bs.take (bs.length - 4))

/-! ### Wire time (R110) -/

/-- W(L) in ns on a port of rate `r` Gb/s. -/
def wireNs (len r : Nat) : Nat := ((len + 20) * 8 + r - 1) / r

/-- Length of a Garvane frame on a branch arm, from PDU_LEN (R110). -/
def armFrameLen (pduLen : Nat) : Nat := max 64 (14 + pduLen + 4)

/-! ### Headers -/

/-- The fields of the common header (Table 03-2). -/
structure GvHeader where
  kind : Nat
  ret : Bool := false
  test : Bool := false
  fromNode : Bool := false
  chan : Nat
  dev : Nat
  branch : Nat := 0
  crossing : Nat
  pduLen : Nat
  deriving DecidableEq, Repr

/-- The 12 bytes of the common header with VERSION 1. -/
def commonHeader (h : GvHeader) : Bytes :=
  [BitVec.ofNat 8 (0x10 + h.kind),
   BitVec.ofNat 8 ((if h.ret then 0x80 else 0) + (if h.test then 0x40 else 0) + (if h.fromNode then 0x20 else 0)),
   BitVec.ofNat 8 (h.chan * 64 + h.dev % 64), BitVec.ofNat 8 (h.branch % 32)]
    ++ beBytes 6 h.crossing ++ beBytes 2 h.pduLen

/-- Header bytes followed by their HCRC (R80). -/
def withHcrc (bs : Bytes) : Bytes := bs ++ beBytes 2 (crc16 bs)

/-- An IEEE 802.3 frame of a Garvane PDU, with padding and FCS (R70). -/
def garvaneFrame (da sa et : Nat) (tags : List Nat) (pdu : Bytes) : Bytes :=
  withFcs (beBytes 6 da ++ beBytes 6 sa ++ tags.foldr (fun t acc => beBytes 4 t ++ acc) [] ++ beBytes 2 et ++ pdu)

/-- FERRY and SKIFF header bytes (Table 03-4) with HCRC. -/
def trainHeader (h : GvHeader) (last idx submult cnt first : Nat) : Bytes :=
  withHcrc (commonHeader h ++ [BitVec.ofNat 8 (last * 16 + idx), BitVec.ofNat 8 submult]
    ++ beBytes 2 cnt ++ beBytes 2 first)

/-- A berth as the JX-9640 sends it (Table 03-5), with TALLY 0 and IN 0. -/
def berthBytes (node bidx flags inLen : Nat) (out : Bytes) : Bytes :=
  withHcrc (beBytes 2 (node * 4 + bidx) ++ [BitVec.ofNat 8 flags, 0] ++ beBytes 2 out.length ++ beBytes 2 inLen
    ++ out ++ List.replicate inLen 0)

/-- A 12-byte Garvane time (Table 03-12): 6 bytes seconds, 4 nanoseconds, 2 fraction. -/
def timeBytes96 (t : Int) : Bytes := beBytes 6 (timeSecs t) ++ beBytes 4 (timeNanos t) ++ beBytes 2 (timeFrac t)

/-- A received 12-byte time in units of 2^-16 ns. -/
def time96Of (bs : Bytes) (o : Nat) : Int := u16Of (beField bs o 6) (beField bs (o + 6) 4) (beField bs (o + 10) 2)

/-- The JX-9640's own ACYCLIC PDU (Table 03-9). -/
def acyclicPdu (chan dev branch crossing addr mbx seq window : Nat) (data : Bytes) : Bytes :=
  withHcrc (commonHeader
      { kind := 5, chan := chan, dev := dev, branch := branch, crossing := crossing, pduLen := 24 + data.length }
    ++ beBytes 3 addr ++ [BitVec.ofNat 8 mbx, BitVec.ofNat 8 seq, BitVec.ofNat 8 window] ++ beBytes 2 data.length)
    ++ data ++ beBytes 2 (crc16 data)

/-- A MUSTER PDU with empty entries (Table 03-10); `op` is 1 DISCOVER or 2 ECHO. -/
def musterPdu (chan dev branch seq skip entryMax op : Nat) : Bytes :=
  withHcrc (commonHeader
      { kind := 6, chan := chan, dev := dev, branch := branch, crossing := seq, pduLen := 24 + 16 * entryMax }
    ++ beBytes 2 0 ++ beBytes 2 skip ++ beBytes 2 entryMax ++ beBytes 2 0 ++ [BitVec.ofNat 8 op, 0])
    ++ List.replicate (16 * entryMax) 0

/-- A FIX PDU (Table 03-12) with DEPARTURE in place; `planned` and `departure` in units of 2^-56 ns. -/
def fixPdu (dev crossing rank status period : Nat) (planned departure : Int) : Bytes :=
  withHcrc (commonHeader { kind := 3, chan := 2, dev := dev, crossing := crossing, pduLen := 44 }
    ++ [BitVec.ofNat 8 rank, BitVec.ofNat 8 status] ++ beBytes 4 period ++ timeBytes96 planned
    ++ timeBytes96 departure)

/-- A COLDSTART PDU (Table 03-13). -/
def coldstartPdu (dev crossing rank attempt period : Nat) (departure : Int) : Bytes :=
  withHcrc (commonHeader { kind := 4, chan := 2, dev := dev, crossing := crossing, pduLen := 32 }
    ++ [BitVec.ofNat 8 rank, BitVec.ofNat 8 attempt] ++ beBytes 4 period ++ timeBytes96 departure)

/-! ### Received frames -/

/-- Destination address, source address and EtherType-level parse of a frame: the number of IEEE 802.1Q tags that
precede the EtherType (at most two), the offset after it, and the EtherType. -/
structure EthParse where
  da : Nat
  tags : Nat
  etype : Nat
  /-- offset of the first byte after the EtherType -/
  off : Nat
  deriving DecidableEq, Repr

/-- A tag protocol identifier (R276). -/
def isTag (t : Nat) : Bool := t == 0x8100 || t == 0x88A8

/-- Parse up to two tags. -/
def ethParse (bs : Bytes) : EthParse :=
  let t0 := beField bs 12 2
  let t1 := beField bs 16 2
  let t2 := beField bs 20 2
  if isTag t0 then
    if isTag t1 then { da := beField bs 0 6, tags := 2, etype := t2, off := 22 }
    else { da := beField bs 0 6, tags := 1, etype := t1, off := 18 }
  else { da := beField bs 0 6, tags := 0, etype := t0, off := 14 }

/-- Header length in bytes of a Garvane kind, HCRC included; 0 for a reserved kind. -/
def gvHeaderLen (kind : Nat) : Nat :=
  match kind with
  | 1 => 20
  | 2 => 20
  | 3 => 44
  | 4 => 32
  | 5 => 22
  | 6 => 24
  | _ => 0

/-- The common header of a received PDU. -/
def gvParse (pdu : Bytes) : GvHeader :=
  let b1 := beField pdu 1 1
  { kind := beField pdu 0 1 % 16, ret := bit b1 7, test := bit b1 6, fromNode := bit b1 5,
    chan := beField pdu 2 1 / 64, dev := beField pdu 2 1 % 64, branch := beField pdu 3 1 % 32,
    crossing := beField pdu 4 6, pduLen := beField pdu 10 2 }

/-- VERSION of a received PDU. -/
def gvVersion (pdu : Bytes) : Nat := beField pdu 0 1 / 16

/-- Check 3 of Table 03-14: the header was received in full and its HCRC is right. -/
def gvHcrcOk (pdu : Bytes) : Bool :=
  let n := gvHeaderLen (gvParse pdu).kind
  n ≠ 0 && n ≤ pdu.length && crc16 (pdu.take (n - 2)) == beField pdu (n - 2) 2

/-- Reserved header bits that checks 1 to 4 do not cover (check 8). -/
def gvReservedSet (pdu : Bytes) : Bool :=
  let common := beField pdu 1 1 % 32 != 0 || beField pdu 3 1 / 32 != 0
  let own := match (gvParse pdu).kind with
    | 1 | 2 => beField pdu 13 1 / 8 != 0
    | 3 | 4 => beField pdu 12 1 / 64 != 0
    | 5 => beField pdu 12 3 / 2 ^ 20 != 0 || beField pdu 17 1 / 4 != 0
    | 6 => beField pdu 21 1 != 0
    | _ => false
  common || own

/-! ### Line bits (R228) -/

/-- A line duration of `n` bits at `r` Gb/s, in units of 2^-16 tick, towards the lower value. -/
def bitTicks (n r : Nat) : Int := ((n * 2 ^ 16 * 4 / (5 * r) : Nat) : Int)

/-- The stamp of the end of byte `k` of a frame (byte 0 is the first of the destination address). -/
def byteEnd (start : Stamp) (k r : Nat) : Stamp := stampShift start (bitTicks ((k + 1) * 8) r)

end Sys2Proof.Machine
end

