-- ==== Sys2Proof/Machine/Flags.lean ====
section
/-!
DEFINITION. Every flag computation: berth FLAGS and the class of a returned berth copy (R83 to R86), the receive
flags and outcome of a frame (R271, R272), and the receive checksums L3 and L4 (R276, R277).
The choices it makes stand under notes/assumptions: 45 (DEDUCED), 56 (DEDUCED).
-/

namespace Sys2Proof.Machine

/-! ### Berths -/

/-- FLAGS as the JX-9640 sends them (Table 03-6). -/
def berthFlags (spare safe stale : Bool) : Nat :=
  (if spare then 0x80 else 0) + (if safe then 0x40 else 0) + (if stale then 0x20 else 0)

/-- The class of a returned copy (Table 03-7, R85); a failed copy says which counter of R96 it goes under. -/
inductive CopyClass where
  | complete | inputsOnly | outputsOnly | untouched | illegal
  | failedCrc | failedField
  deriving DecidableEq, Repr

/-- The class that TALLY gives (Table 03-7). -/
def tallyClass (t : Nat) : CopyClass :=
  match t with
  | 0 => .untouched
  | 1 => .outputsOnly
  | 2 => .inputsOnly
  | 3 => .complete
  | _ => .illegal

/-- OUT_LEN of a berth's bytes (Table 03-5). -/
def berthOutLen (b : Bytes) : Nat := beField b 4 2 % 2 ^ 11
/-- IN_LEN of a berth's bytes (Table 03-5). -/
def berthInLen (b : Bytes) : Nat := beField b 6 2 % 2 ^ 11

/-- Whether NODE, BIDX, OUT_LEN, IN_LEN and FLAGS bits 7 to 4 of a copy equal those sent (R85). The reserved bits beside
the lengths are none of these: a copy in which one is set takes its class from its TALLY, as every other copy. -/
def ownedFieldsEqual (sent got : Bytes) : Bool :=
  slice sent 0 2 == slice got 0 2 && berthOutLen sent == berthOutLen got && berthInLen sent == berthInLen got
    && beField sent 2 1 / 16 == beField got 2 1 / 16

/-- The class of a copy of a berth other than an unclaimed spare (R85, R96). `got` is shorter than `sent` when a byte
of the berth was not received. -/
def copyClass (sent got : Bytes) : CopyClass :=
  if got.length < sent.length then .failedCrc
  else if crc16 (got.take (got.length - 2)) ≠ beField got (got.length - 2) 2 then .failedCrc
  else if !ownedFieldsEqual sent got then .failedField
  else tallyClass (beField got 3 1)

/-- Whether a copy of an unclaimed spare berth came back as sent (R86). -/
def spareUntouched (sent got : Bytes) : Bool := sent == got

/-- The inputs of a returned copy. -/
def copyInputs (got : Bytes) : Bytes := slice got (8 + berthOutLen got) (berthInLen got)

/-- MBX_PENDING of a returned copy. -/
def copyMbx (got : Bytes) : Bool := bit (beField got 2 1) 3
/-- NODE_FAULT of a returned copy. -/
def copyFault (got : Bytes) : Bool := bit (beField got 2 1) 2
/-- The reserved FLAGS bits the node owns (R96). -/
def copyReserved (got : Bytes) : Bool := beField got 2 1 % 4 != 0

/-! ### Receive flags (R271, Table 09-6) -/

/-- The six damage flags of a received frame. -/
structure RxFlags where
  oversize : Bool := false
  runt : Bool := false
  fcsErr : Bool := false
  codeErr : Bool := false
  alignErr : Bool := false
  trunc : Bool := false
  deriving DecidableEq, Repr

/-- The flags of a frame of `f`, when the port's MAX_FRAME is `maxFrame`; `cut` when Pilot or the port cut it off. -/
def rxFlags (f : RxFrame) (maxFrame : Nat) (cut : Bool) : RxFlags :=
  { oversize := maxFrame < f.bytes.length, runt := 14 ≤ f.bytes.length && f.bytes.length < 64,
    fcsErr := !fcsOk f.bytes, codeErr := f.codeErr, alignErr := f.alignErr, trunc := f.invalidTerm || cut }

/-- A bad frame (R271). -/
def RxFlags.bad (x : RxFlags) : Bool := x.fcsErr || x.codeErr || x.alignErr || x.trunc || x.runt

/-- Any flag of Table 09-6. -/
def RxFlags.any (x : RxFlags) : Bool := x.bad || x.oversize

/-- One bit. -/
def flagBit (b : Bool) (k : Nat) : Nat := if b then 2 ^ k else 0

/-- The 16-bit receive status (Table 09-6). -/
def rxStatus (x : RxFlags) (l3 l4 tags : Nat) : Nat :=
  flagBit x.oversize 15 + flagBit x.runt 14 + flagBit x.fcsErr 13 + flagBit x.codeErr 12 + flagBit x.alignErr 11
    + flagBit x.trunc 10 + l3 * 256 + l4 * 64 + tags * 16

/-! ### Checksums (R276 to R278) -/

/-- The one's-complement sum of a byte string as 16-bit words, odd length padded with 0. -/
def sum16 : Bytes → Nat
  | [] => 0
  | [a] => a.toNat * 256
  | a :: b :: rest => a.toNat * 256 + b.toNat + sum16 rest

/-- Fold the carries of a sum into 16 bits. -/
def fold16 (n : Nat) : Nat :=
  let m := n % 65536 + n / 65536
  let m := m % 65536 + m / 65536
  m % 65536 + m / 65536

/-- The IP packet of a frame as R276 parses it. -/
structure IpParse where
  v6 : Bool
  /-- offset of the IP header and of the transport header -/
  ip : Nat
  l4 : Nat
  proto : Nat
  /-- end of the IP packet and transport length -/
  stop : Nat
  tlen : Int
  frag : Bool
  hdrBad : Bool
  /-- version other than 4 or IHL below 5: nothing after the header can be found -/
  noL4 : Bool
  /-- the IPv4 total length is below IHL × 4 -/
  short : Bool
  deriving DecidableEq, Repr

/-- The IP header that follows the EtherType; none when the frame is not IP. -/
def ipParse (bs : Bytes) : Option IpParse :=
  let e := ethParse bs
  let o := e.off
  if e.etype = 0x0800 then
    let ihl := beField bs o 1 % 16 * 4
    let total := beField bs (o + 2) 2
    some { v6 := false, ip := o, l4 := o + ihl, proto := beField bs (o + 9) 1, stop := o + total,
           tlen := (total : Int) - ihl, frag := beField bs (o + 6) 2 % 2 ^ 14 != 0,
           hdrBad := beField bs o 1 / 16 != 4 || ihl < 20 || bs.length < o + ihl
             || fold16 (sum16 (slice bs o ihl)) != 0xFFFF,
           noL4 := beField bs o 1 / 16 != 4 || ihl < 20,
           short := total < ihl }
  else if e.etype = 0x86DD then
    let plen := beField bs (o + 4) 2
    some { v6 := true, ip := o, l4 := o + 40, proto := beField bs (o + 6) 1, stop := o + 40 + plen, tlen := plen,
           frag := false, hdrBad := false, noL4 := false, short := false }
  else none

/-- The L3 field of the receive status (Table 09-6). -/
def l3Status (bs : Bytes) : Nat :=
  match ipParse bs with
  | none => 0
  | some p => if p.v6 then 3 else if p.hdrBad then 2 else 1

/-- Whether the lengths of a TCP or UDP packet contradict one another (R277); `bs` has no FCS. -/
def lenConflict (bs : Bytes) (p : IpParse) : Bool :=
  p.short || decide (bs.length < p.stop) || (p.proto == 17 && decide ((beField bs (p.l4 + 4) 2 : Int) ≠ p.tlen))
    || (p.proto == 17 && decide (p.tlen < 8)) || (p.proto == 6 && decide (p.tlen < 20))

/-- The sum of the pseudo-header and the transport bytes. -/
def l4Sum (bs : Bytes) (p : IpParse) : Nat :=
  let addrs := if p.v6 then slice bs (p.ip + 8) 32 else slice bs (p.ip + 12) 8
  sum16 addrs + p.proto + p.tlen.toNat + sum16 (slice bs p.l4 p.tlen.toNat)

/-- Whether a packet has a TCP or UDP header directly after its IP header. -/
def l4Checkable (p : IpParse) : Bool := !p.frag && (p.proto == 6 || p.proto == 17)

/-- Offset of the transport checksum. -/
def l4CsumAt (p : IpParse) : Nat := p.l4 + (if p.proto = 6 then 16 else 6)

/-- The L4 field of the receive status (Table 09-6); `bs` has no FCS. DEDUCED: the frames that R277 lists as not checked
come before those with contradictory lengths; a header of another protocol, or one that is not found, is not checked. -/
def l4Status (bs : Bytes) : Nat :=
  match ipParse bs with
  | none => 0
  | some p =>
    let known := p.proto == 6 || p.proto == 17
    let noSum := p.proto == 17 && beField bs (l4CsumAt p) 2 == 0
    if p.frag || (p.v6 && !known) || (!p.v6 && !p.noL4 && noSum) then 0
    else if lenConflict bs p then 3
    else if p.noL4 || !known then 0
    else if !noSum && fold16 (l4Sum bs p) == 0xFFFF then 1
    else 2

/-- The TAGS field of the receive status: 3 when more than two tags are present. -/
def tagsStatus (bs : Bytes) : Nat :=
  let e := ethParse bs
  if e.tags = 2 ∧ isTag e.etype = true then 3 else e.tags

end Sys2Proof.Machine
end

