-- ==== Sys2Proof/Machine/Events.lean ====
section
/-!
DEFINITION. The event matrix (chapter 16): raising a source, its routes, deferral to a cycle point, coalescing and
the sending of MSI-X messages; with the two actions a route starts in another block, the start of a host Tender
channel (R456) and an EVENT_OUT pulse (R249). `onDev` and its kin lift a change of `Device` to a meaning.
The choices it makes stand under notes/assumptions: 12 (DEDUCED), 23 (PRESUMED), 35 (DEDUCED), 36 (DEDUCED), 37
(DEDUCED), 40 (DEDUCED), 54 (DESIGN CHOICE), 55 (DEDUCED).
-/

namespace Sys2Proof.Machine

/-! ### MSI-X messages (R481, R482, R485) -/

/-- The PCI Express function's state. -/
def Device.fnState (d : Device) : Fn → FnState
  | .pf0 => d.pcie.pf0
  | .pf1 => d.pcie.pf1

/-- A function's state replaced. -/
def Device.setFn (d : Device) (fn : Fn) (x : FnState) : Device :=
  match fn with
  | .pf0 => { d with pcie.pf0 := x }
  | .pf1 => { d with pcie.pf1 := x }

/-- Whether a function may issue requests: Bus Master Enable is 1 (R409). PRESUMED: and it is in D0, as PCI Express has
it. -/
def FnState.master (f : FnState) : Bool := f.busMaster && !f.d3hot

/-- The four conditions of R482. -/
def msixOpen (f : FnState) (v : Nat) : Bool :=
  f.msixEnable && !f.funcMask && tabGet false f.unmasked v && f.master

/-- One message leaves: counted under MSIX_SENT or PF1_SENT (Table 16-3). -/
def msixEmit (fn : Fn) (v : Nat) (d : Device) : Device :=
  (d.emit (.msix fn v)).count (match fn with | .pf0 => 0xD1000 + 8 * v | .pf1 => 0xD5008)

/-- One message decided: sent, or kept in the pending-bit array, or merged into a bit already set (R482). -/
def msixSend (fn : Fn) (v : Nat) (d : Device) : Device :=
  let f := d.fnState fn
  if tabGet false f.pba v then d.count 0xD5000
  else if msixOpen f v then msixEmit fn v d
  else d.setFn fn { f with pba := tabSet false f.pba v true }

/-- The pending message of a vector is sent when the conditions hold again (R482). -/
def msixUnmask (fn : Fn) (v : Nat) (d : Device) : Device :=
  let f := d.fnState fn
  if tabGet false f.pba v && msixOpen f v then
    msixEmit fn v (d.setFn fn { f with pba := tabSet false f.pba v false })
  else d

/-- Every pending message of a function is sent when its conditions hold again (R482). -/
def pendingSend (fn : Fn) (d : Device) : Device := (d.fnState fn).pba.foldl (fun d e => msixUnmask fn e.1 d) d

/-- Vectors of a function. -/
def fnVectors : Fn → Nat
  | .pf0 => 2048
  | .pf1 => 32

/-- A write of dword `k` of entry `vec` of a function's MSI-X table; dword 3 holds the Mask Bit (R482). -/
def msixTableWrite (fn : Fn) (vec k : Nat) (v : BitVec 32) (d : Device) : Device :=
  let f := d.fnState fn
  if fnVectors fn ≤ vec then d
  else if k < 3 then d.setFn fn { f with table := tabSet 0 f.table (4 * vec + k) v }
  else if k = 3 then pendingSend fn (d.setFn fn { f with unmasked := tabSet false f.unmasked vec (!v.toNat.testBit 0) })
  else d

/-- Dword `k` of entry `vec` of a function's MSI-X table. -/
def msixTableRead (f : FnState) (vec k : Nat) : BitVec 32 :=
  if k < 3 then tabGet 0 f.table (4 * vec + k) else if tabGet false f.unmasked vec then 0 else 1

/-- The dword at offset `o` of a function's pending-bit array. -/
def pbaRead (f : FnState) (o : Nat) : BitVec 32 :=
  BitVec.ofNat 32 ((List.range 32).foldl (fun n k => if tabGet false f.pba (8 * o + k) then n + 2 ^ k else n) 0)

/-- An occurrence presented to PF0 vector `v` (R481): the count advances and the first starts the timer. One that comes
in the tick of the vector's message is one of those that the message stands for. -/
def presentVec (v : Nat) (d : Device) : Device :=
  if d.ev.fired.contains v then d
  else
    let n := d.rg F.EVENT_VEC_PENDING v
    let d := d.rsat F.EVENT_VEC_PENDING 1 v
    let ev := d.ev
    { d with ev := { ev with
        touched := if ev.touched.contains v then ev.touched else ev.touched ++ [v]
        timer := if n = 0 then tabSet none ev.timer v (some d.raw) else ev.timer } }

/-- The message of PF0 vector `v` goes: N := 0, timer stopped (R481). -/
def vecFire (v : Nat) (d : Device) : Device :=
  let d := d.ru F.EVENT_VEC_PENDING 0 v
  msixSend .pf0 v { d with ev.timer := tabSet none d.ev.timer v none, ev.fired := v :: d.ev.fired }

/-- The tick's decision for one vector: N has reached THRESH. -/
def vecSettle (v : Nat) (d : Device) : Device :=
  let n := d.rg F.EVENT_VEC_PENDING v
  if n ≠ 0 ∧ d.rg F.EVENT_VEC_THRESH v ≤ n then vecFire v d else d

/-- The decision of R481 over the vectors presented an occurrence. It is taken after each command, and once in a tick
for a vector: the message that goes then stands for every occurrence of the tick. -/
def settle (d : Device) : Device :=
  d.ev.touched.foldl (fun d v => vecSettle v d) { d with ev.touched := [] }

/-- The holdoff timer of a vector expires (R481). -/
def msixHoldoffExpire (v : Nat) (d : Device) : Device :=
  match tabGet none d.ev.timer v with
  | none => d
  | some t =>
    let h := d.rg F.EVENT_VEC_HOLDOFF_NS v
    if h ≠ 0 ∧ d.passedNs t h = true then vecFire v d else d

/-! ### What a route starts in other blocks -/

/-- Whether the TIO pins are driven: from MUSTER on, but neither in HALT nor in DORMANT (R250). -/
def tioDriven (st : DevState) : Bool :=
  match st with
  | .muster | .firstCrossing | .run | .test | .recovery => true
  | .off | .reset | .wipe | .load | .dormant | .halt => false

/-- The state of TIO pin `i`. -/
def Device.pin (d : Device) (i : Nat) : TioPin := tabGet {} d.tio i

/-- TIO pin `i` replaced. -/
def Device.setPin (d : Device) (i : Nat) (x : TioPin) : Device := { d with tio := tabSet {} d.tio i x }

/-- Whether TIO pins are high-impedance in a device state (R250). -/
def tioFloats (st : DevState) : Bool :=
  match st with
  | .off | .reset | .wipe | .load | .halt => true
  | .muster | .firstCrossing | .run | .test | .recovery | .dormant => false

/-- What pin `i` drives: nothing in OFF, as an input and where R250 says so, else the active level while a pulse is in
progress; POLARITY 0 makes that level high (R245). -/
def tioLevel (i : Nat) (d : Device) : PinLevel :=
  let mode := d.rg F.RECKON_TIO_CFG_MODE i
  if tioFloats d.st || !(mode == 1 || mode == 2 || mode == 4) then .highZ
  else if (d.pin i).pulse.isSome != d.rb F.RECKON_TIO_CFG_POLARITY i then .high
  else .low

/-- A change to pin `i`, with the level it then takes. -/
def tioChange (i : Nat) (f : Device → Device) (d : Device) : Device :=
  let e := f d
  if tioLevel i e = tioLevel i d then e else e.emit (.tioEdge i (tioLevel i e) e.raw)

/-- A change that may touch every pin, with the levels they then take. -/
def tioChangeAll (f : Device → Device) (d : Device) : Device :=
  let e := f d
  (List.range 16).foldl (fun x i =>
    if tioLevel i e = tioLevel i d then x else x.emit (.tioEdge i (tioLevel i e) e.raw)) e

/-- The pulse of pin `i` ends: the inactive level is driven. -/
def tioPulseOff (i : Nat) (d : Device) : Device :=
  tioChange i (fun d => d.setPin i { d.pin i with pulse := none, once := false }) d

/-- A pulse begins at this tick, that of a BEACON_ONCE arm when `once` holds; one still active ends first (R247). -/
def tioPulse (i : Nat) (once : Bool) (d : Device) : Device :=
  tioChange i (fun d => d.setPin i { d.pin i with pulse := some d.raw, once := once }) (tioPulseOff i d)

/-- A routed event reaches pin `i` (R249, R478). DESIGN CHOICE: MISSED saturates. -/
def tioEventOut (i : Nat) (d : Device) : Device :=
  if d.rg F.RECKON_TIO_CFG_MODE i = 4 ∧ tioDriven d.st = true then
    if (d.pin i).pulse.isSome then d.rsat F.RECKON_TIO_STATUS_MISSED 1 i else tioPulse i false d
  else d

/-- Every pin a TIO_MASK names. -/
def tioEventMask (mask : Nat) (d : Device) : Device :=
  (List.range 16).foldl (fun d i => if bit mask i then tioEventOut i d else d) d

/-- Tender channel `c`. -/
def Device.chan (d : Device) (c : Nat) : TenderCh := tabGet {} d.tender c

/-- Tender channel `c` replaced. -/
def Device.setChan (d : Device) (c : Nat) (x : TenderCh) : Device := { d with tender := tabSet {} d.tender c x }

/-- COUNT offset of Tender counter `k` of channel `c` (Table 15-7). -/
def tenderCnt (c k : Nat) : Nat := 0xC0000 + 0x40 * c + k

/-- `n` bytes at host address `a` in requests of at most `most` bytes, none of which crosses a 4 KiB boundary: address and
length of each (R461). -/
def splitRequests (most : Nat) : Nat → Nat → Nat → List (Nat × Nat)
  | 0, _, _ => []
  | fuel + 1, a, n =>
    if n = 0 then []
    else
      let k := min n (min most (4096 - a % 4096))
      (a, k) :: splitRequests most fuel (a + k) (n - k)

/-- A read of `n` bytes at host address `a`, as PCI Express splits it; every request asks for a byte at least. -/
def Device.emitRead (d : Device) (a n : Nat) : Device :=
  (splitRequests d.pcie.pf0.maxRead n a n).foldl (fun d r => d.emit (.hostRead r.1 r.2)) d

/-- The bytes `b` written at host address `a`, as PCI Express splits it. -/
def Device.emitWrite (d : Device) (a : Nat) (b : Bytes) : Device :=
  (splitRequests d.pcie.pf0.maxPayload b.length a b.length).foldl
    (fun d r => d.emit (.hostWrite r.1 (slice b (r.1 - a) r.2))) d

/-- Reads that a run has outstanding: those of data, one of metadata, and the confirming read. DESIGN CHOICE: the lists
of a descriptor are read one after another. -/
def runReads (r : TenderRun) : Nat :=
  r.reads.length + (if r.desc.isNone && !r.metaDue && r.again.isNone then 1 else 0) + (if r.confirming then 1 else 0)

/-- Reads outstanding (READS_OUT). -/
def readsOut (d : Device) : Nat :=
  d.tender.foldl (fun n e => match e.2.run with | some r => n + runReads r | none => n) 0

/-- Whether the read engine may issue a read for the host's memory now (R457, R464). -/
def readFree (d : Device) : Bool := d.pcie.pf0.master && decide (readsOut d < 768)

/-- The descriptor at address `a` is in progress on channel `c` from now (Table 15-12). -/
def descEnter (c a : Nat) (d : Device) : Device :=
  (d.ru F.TENDER_CH_PROGRESS_DESC_LO (a / 64) c).ru F.TENDER_CH_PROGRESS_BYTES_DONE 0 c

/-- The read of the descriptor of run `r` is issued, or waits until it may be (R457, R464). -/
def tenderFetch (c : Nat) (r : TenderRun) (d : Device) : Device :=
  let free := readFree d
  let d := descEnter c r.descAddr (d.setChan c { st := .running, run := some { r with metaDue := !free } })
  if free then d.emit (.hostRead r.descAddr 64) else d

/-- A run of host channel `c` starts at descriptor address `a`, and its first descriptor is read (Table 15-2). -/
def tenderStart (c a : Nat) (entry : Option EntryRef) (d : Device) : Device :=
  tenderFetch c { descAddr := a, entry := entry } d

/-! ### Raising a source (R474 to R480) -/

/-- Sources Table 16-1 marks as never raised. -/
def neverRaised (i : Nat) : Bool :=
  (3 ≤ i && i ≤ 7) || (12 ≤ i && i ≤ 15) || (24 ≤ i && i ≤ 31) || (325 ≤ i && i ≤ 335) || (340 ≤ i && i ≤ 375)
    || (380 ≤ i && i ≤ 383) || (390 ≤ i && i ≤ 391) || 452 ≤ i

/-- Status bit and OCCURRENCES of source `i` (R474). -/
def evLatch (i : Nat) (d : Device) : Device :=
  (d.ror F.EVENT_STATUS_BITS (2 ^ (i % 64)) (i / 64)).count (0xD0000 + 8 * i)

/-- Presentation to the MSI-X and TIO targets of route `i`, as far as `h` allows (R476 to R479). -/
def evPresentIo (i : Nat) (h : Held) (d : Device) : Device :=
  let d := if h.pf0 && d.rb F.EVENT_ROUTE_MSIX_EN i then
      (if i = 384 then h.vecs else [d.rg F.EVENT_ROUTE_VECTOR i]).foldl (fun d v => presentVec v d) d
    else d
  let d := if h.pf1 && d.rb F.EVENT_ROUTE_PF1_EN i then msixSend .pf1 (d.rg F.EVENT_ROUTE_PF1_VECTOR i) d else d
  if h.other then tioEventMask (d.rg F.EVENT_ROUTE_TIO_MASK i) d else d

/-- The Tender start of source `i` is put off to the next tick. -/
def evLater (i : Nat) (d : Device) : Device := { d with ev.later := d.ev.later ++ [i] }

/-- Whether a target of route `i` is enabled. -/
def evRouted (i : Nat) (d : Device) : Bool :=
  d.rb F.EVENT_ROUTE_MSIX_EN i || d.rb F.EVENT_ROUTE_PF1_EN i || d.rb F.EVENT_ROUTE_TENDER_EN i
    || d.rg F.EVENT_ROUTE_TIO_MASK i != 0

/-- The occurrence is held (R480); several of one source are one delivery. A route with no target enabled holds nothing
(R476). -/
def evHold (i : Nat) (vecs : List Nat) (d : Device) : Device :=
  if !evRouted i d then d
  else
    let old : List Nat := match tabGet none d.ev.held i with | none => [] | some h => h.vecs
    let new := old ++ vecs.filter (fun v => !old.contains v)
    { d with ev.held := tabSet none d.ev.held i (some { vecs := new }) }

/-- TENDER_START_REJECT (R456, R471): counted, latched and raised; a Tender start that route 447 names is due at the
next tick, since the reject is raised within the delivery of another source. -/
def tenderReject (c : Nat) (d : Device) : Device :=
  let d := ((d.count (tenderCnt c 0x28)).ru F.TENDER_EVT_STATUS_LAST_CHANNEL c).ru F.TENDER_EVT_STATUS_START_REJECT 1
  if d.rb F.TENDER_EVT_EN_START_REJECT then
    let d := evLatch 447 d
    if d.rb F.EVENT_ROUTE_DEFER_EN 447 then evHold 447 [] d
    else
      let d := evPresentIo 447 {} d
      if d.rb F.EVENT_ROUTE_TENDER_EN 447 then evLater 447 d else d
  else d

/-- An event start of channel `c` (R456): accepted when START_VALID is 1 and the channel is IDLE. -/
def tenderEventStart (c : Nat) (d : Device) : Device :=
  if d.rb F.TENDER_CH_START_DESC_START_VALID c && (d.chan c).st == .idle then
    tenderStart c (d.rg F.TENDER_CH_START_DESC_ADDR c * 64) none d
  else tenderReject c d

/-- Presentation to every target of route `i` (R476). -/
def evPresent (i : Nat) (h : Held) (d : Device) : Device :=
  let d := evPresentIo i h d
  if h.other && d.rb F.EVENT_ROUTE_TENDER_EN i then tenderEventStart (d.rg F.EVENT_ROUTE_TENDER_CH i) d else d

/-- An occurrence of source `i` that carries vectors `vecs` (R479 for source 384, none otherwise). -/
def evRaiseWith (i : Nat) (vecs : List Nat) (d : Device) : Device :=
  if neverRaised i then d
  else
    let d := evLatch i d
    if d.rb F.EVENT_ROUTE_DEFER_EN i then evHold i vecs d else evPresent i { vecs := vecs } d

/-- An occurrence of source `i`. -/
def evRaise (i : Nat) (d : Device) : Device := evRaiseWith i [] d

/-- `evRaise` when the condition holds. -/
def evRaiseIf (c : Bool) (i : Nat) (d : Device) : Device := if c then evRaise i d else d

/-- The held delivery of source `i` is presented to the route as it stands. -/
def evRelease (i : Nat) (d : Device) : Device :=
  match tabGet none d.ev.held i with
  | none => d
  | some h => evPresent i h { d with ev.held := tabSet none d.ev.held i none }

/-- Cycle point `p` fires (R480): the deliveries deferred to it and its own occurrence, in ascending source order. -/
def evCyclePoint (p : Nat) (d : Device) : Device :=
  let own := 64 + p
  let due := (d.ev.held.map (·.1)).filter fun i => d.rg F.EVENT_ROUTE_DEFER_CP i == p && d.rb F.EVENT_ROUTE_DEFER_EN i
  let d := (due.filter (· ≤ own)).foldl (fun d i => evRelease i d) d
  let d := evRaise own d
  (due.filter (own < ·)).foldl (fun d i => evRelease i d) d

/-- Tender starts put off from an earlier tick take place. -/
def evLaterDue (d : Device) : Device :=
  d.ev.later.foldl (fun d i =>
    if d.rb F.EVENT_ROUTE_TENDER_EN i then tenderEventStart (d.rg F.EVENT_ROUTE_TENDER_CH i) d else d)
    { d with ev.later := [] }

/-- EVENT_ROUTE_WRITE (R480): a change of DEFER_EN or DEFER_CP releases what the source holds. Until the chart is loaded a
route reads 0 and delivers nothing, whatever is written (R486). -/
def eventRouteWrite (i : Nat) (v : Word) (d : Device) : Device :=
  if !d.charted then d
  else
    let en := d.rg F.EVENT_ROUTE_DEFER_EN i
    let cp := d.rg F.EVENT_ROUTE_DEFER_CP i
    let d := writeReg64 (F.EVENT_ROUTE_MSIX_EN.addr i) v d
    if d.rg F.EVENT_ROUTE_DEFER_EN i ≠ en ∨ d.rg F.EVENT_ROUTE_DEFER_CP i ≠ cp then evRelease i d else d

/-- EVENT_VEC_WRITE: the settings change, and a vector whose N meets the new THRESH sends at once. -/
def eventVecWrite (v : Nat) (w : Word) (d : Device) : Device :=
  vecSettle v (writeReg64 (F.EVENT_VEC_THRESH.addr v) w d)

/-- Held deliveries to one function's vectors are discarded (R486); a source left with no target holds nothing. -/
def evDropHeld (fn : Fn) (d : Device) : Device :=
  d.ev.held.foldl (fun d e =>
    match tabGet none d.ev.held e.1 with
    | none => d
    | some h =>
      let h : Held := match fn with | .pf0 => { h with pf0 := false, vecs := [] } | .pf1 => { h with pf1 := false }
      let live := (h.pf0 && d.rb F.EVENT_ROUTE_MSIX_EN e.1) || (h.pf1 && d.rb F.EVENT_ROUTE_PF1_EN e.1)
        || (h.other && (d.rb F.EVENT_ROUTE_TENDER_EN e.1 || d.rg F.EVENT_ROUTE_TIO_MASK e.1 != 0))
      { d with ev.held := tabSet none d.ev.held e.1 (if live then some h else none) }) d

/-- Whether the register file's key `k` is the PENDING count of a PF0 vector. -/
def isPendingKey (k : Nat) : Bool :=
  decide (F.EVENT_VEC_PENDING.key 0 0 ≤ k ∧ k < F.EVENT_VEC_PENDING.key 2048 0) && k % 64 == F.EVENT_VEC_PENDING.lo

/-- PF0's pending counts and timers are set to 0 (R486). -/
def evResetPf0 (d : Device) : Device :=
  evDropHeld .pf0 { d with regs := d.regs.filter fun e => !isPendingKey e.1
                           ev.timer := [], ev.touched := [], ev.fired := [] }

/-! ### Lifting to meanings -/

/-- A command's effect on the device, with the tick's MSI-X decision; nothing acts in OFF and RESET (R24). -/
def onDev (f : Device → Device) (s : State) : Host.Outcome State Fault Refusal :=
  if s.dev.st = .off ∨ s.dev.st = .reset then .next s
  else .next { s with dev := settle (f s.dev) }

/-- A command the host sends over PCI Express: without the link it does not reach the device (R23). -/
def onHost (f : Device → Device) (s : State) : Host.Outcome State Fault Refusal :=
  if s.dev.pcie.linkUp then onDev f s else .next s

/-- As `onDev`, for a command that reads the fuses or the flash. -/
def onDevNv (f : NonVol → Device → Device) (s : State) : Host.Outcome State Fault Refusal := onDev (f s.nv) s

/-- As `onHost`, for a command that reads the fuses or the flash. -/
def onHostNv (f : NonVol → Device → Device) (s : State) : Host.Outcome State Fault Refusal := onHost (f s.nv) s

/-- A command that may also write the fuses or the flash. -/
def onAll (f : NonVol → Device → NonVol × Device) (s : State) : Host.Outcome State Fault Refusal :=
  if s.dev.st = .off ∨ s.dev.st = .reset then .next s
  else .next { s with nv := (f s.nv s.dev).1, dev := settle (f s.nv s.dev).2 }

/-- As `onAll`, for a command the host sends over PCI Express. -/
def onHostAll (f : NonVol → Device → NonVol × Device) (s : State) : Host.Outcome State Fault Refusal :=
  if s.dev.pcie.linkUp then onAll f s else .next s

/-! ### Meanings -/

/-- MSIX_UNMASK (R482). -/
def execMsixUnmask (fn : Fn) (v : Nat) (s : State) : Host.Outcome State Fault Refusal := onDev (msixUnmask fn v) s
/-- MSIX_HOLDOFF_EXPIRE (R481). -/
def execMsixHoldoffExpire (v : Nat) (s : State) : Host.Outcome State Fault Refusal := onDev (msixHoldoffExpire v) s
/-- EVENT_ROUTE_WRITE (R480). -/
def execEventRouteWrite (i : Nat) (v : Word) (s : State) : Host.Outcome State Fault Refusal :=
  onHost (eventRouteWrite i v) s
/-- EVENT_VEC_WRITE (R481). -/
def execEventVecWrite (v : Nat) (w : Word) (s : State) : Host.Outcome State Fault Refusal :=
  onHost (eventVecWrite v w) s

end Sys2Proof.Machine
end

