-- ==== Sys2Proof/Machine/HostQ.lean ====
section
/-!
DEFINITION. Host queues (chapter 14), the parts other blocks use: completions, the backlog, unit fetch, the entry at
the head of a queue and its checks, and delivery to a receive queue. Queue number 4,096 is the admin pair.
The choices it makes stand under notes/assumptions: 25 (DEDUCED), 51 (DEDUCED), 52 (DEDUCED), 53 (DEDUCED).
-/

namespace Sys2Proof.Machine

/-- Number under which the admin pair is held. -/
def adminQ : Nat := 4096

/-- Submission queue `q`. -/
def Device.sq (d : Device) (q : Nat) : Sq := tabGet {} d.hq.sqs q
/-- Submission queue `q` replaced. -/
def Device.setSq (d : Device) (q : Nat) (x : Sq) : Device := { d with hq.sqs := tabSet {} d.hq.sqs q x }
/-- Completion queue `q`. -/
def Device.cq (d : Device) (q : Nat) : Cq := tabGet {} d.hq.cqs q
/-- Completion queue `q` replaced. -/
def Device.setCq (d : Device) (q : Nat) (x : Cq) : Device := { d with hq.cqs := tabSet {} d.hq.cqs q x }

/-- Whether PF0 may issue requests (R409). -/
def Device.bme (d : Device) : Bool := d.pcie.pf0.master

/-- A queue event: its bit of QUEUE_EVT_STATUS, and the source when QUEUE_EVT_EN has the bit (R452). -/
def queueEvent (st en : Fld) (src q : Nat) (d : Device) : Device :=
  let d := (d.ru st 1).ru F.QUEUE_EVT_STATUS_LAST_QUEUE (q % 4096)
  evRaiseIf (d.rb en) src d

/-! ### Entries in the descriptor cache (R413, R422, R423) -/

/-- An entry of the cache: the units it consumes, its bytes, and whether checks 1 and 2 of Table 14-5 fail. -/
structure Entry where
  units : Nat
  bytes : Bytes
  bad : Bool
  deriving DecidableEq, Repr

/-- Units that the entry beginning with unit `u` occupies, when `left` units remain to P; and whether it is malformed. -/
def entryLen (u : Bytes) (left : Nat) : Nat × Bool :=
  let n := bits (leWord u 0) 55 52
  if n = 0 ∨ n > 8 then (1, true) else if n > left then (left, true) else (n, false)

/-- The entries of a cache, oldest first, with `left` units from its start to P; the last may lack units, and the
second result is how many it lacks. -/
def cacheEntries : Nat → List Bytes → Nat → List Entry × Nat
  | 0, _, _ => ([], 0)
  | _ + 1, [], _ => ([], 0)
  | fuel + 1, u :: us, left =>
    let (n, bad) := entryLen u left
    if (u :: us).length < n then ([{ units := n, bytes := [], bad := bad }], n - (u :: us).length)
    else
      let r := cacheEntries fuel ((u :: us).drop n) (left - n)
      ({ units := n, bytes := ((u :: us).take n).flatten, bad := bad } :: r.1, r.2)

/-- Units between C and P. -/
def Sq.left (s : Sq) : Nat := (s.prod - s.cons).toNat

/-- The entries of queue `s` in the cache and the units the last one lacks. -/
def Sq.entries (s : Sq) : List Entry × Nat := cacheEntries 17 s.cache s.left

/-- Entry number `k` of the cache when all its units are there. -/
def Sq.entryAt (s : Sq) (k : Nat) : Option Entry :=
  let r := s.entries
  if k + 1 = r.1.length ∧ r.2 ≠ 0 then none else r.1[k]?

/-- Entries fetched and not completed (OUTSTANDING). -/
def Sq.outstanding (s : Sq) : Nat := s.entries.1.length + s.live.length

/-! ### Completion queues (R435 to R443) -/

/-- Ring slots of a queue. -/
def Cq.size (c : Cq) : Nat := 2 ^ c.sizeLog2
/-- Free ring slots F. -/
def Cq.freeSlots (c : Cq) : Nat := c.size - (c.prod - c.cons).toNat

/-- Entries fetched from submission queues bound to completion queue `q` that have not completed (O of R441). -/
def cqOwed (q : Nat) (d : Device) : Nat :=
  d.hq.sqs.foldl (fun n e => if e.2.cq = q ∧ e.2.present then n + e.2.outstanding else n) 0

/-- Units of the fetch reads in flight of submission queues bound to completion queue `q`: the entries they may bring. -/
def cqComing (q : Nat) (d : Device) : Nat :=
  d.hq.sqs.foldl (fun n e => if e.2.cq = q ∧ e.2.present then n + e.2.inflight else n) 0

/-- Pool entries queue `q` would hold with `n` more entries fetched for it. -/
def cqPoolWith (q n : Nat) (d : Device) : Nat :=
  let c := d.cq q
  cqOwed q d + n + c.backlog.length - c.freeSlots - c.reserve

/-- Pool entries queue `q` holds (G of R441). -/
def cqPoolHeld (q : Nat) (d : Device) : Nat := cqPoolWith q 0 d

/-- Sum of the reservations. -/
def reservations (d : Device) : Nat := d.hq.cqs.foldl (fun n e => n + e.2.reserve) 0

/-- Pool entries that every queue but `q` holds or will hold once its reads in flight have brought their entries. -/
def poolHeldBut (q : Nat) (d : Device) : Nat :=
  d.hq.cqs.foldl (fun n e => if e.1 = q then n else n + cqPoolWith e.1 (cqComing e.1 d) d) 0

/-- How many more entries may be fetched for completion queue `q` (R443). -/
def cqRoom (q : Nat) (d : Device) : Nat :=
  let c := d.cq q
  (c.freeSlots + c.reserve + (32768 - reservations d - poolHeldBut q d)) - (cqOwed q d + cqComing q d + c.backlog.length)

/-- The first 8 bytes of a completion with PHASE set for completion `i` of a ring of `size` (R436). -/
def setPhase (i size : Nat) (b : Bytes) : Bytes :=
  if i / size % 2 = 0 then patch b 7 [(b.getD 7 0) ||| 0x80] else b

/-- A completion written to the ring of queue `q`, which announces it when armed (R437, R440). -/
def cqWrite (q : Nat) (b : Bytes) (d : Device) : Device :=
  let c := d.cq q
  let i := c.prod.toNat
  let d := d.emit (.hostWrite (c.base + 64 * (i % c.size)) (setPhase i c.size b))
  let d := d.setCq q { c with prod := c.prod + 1, armed := false }
  if c.armed then evRaiseWith 384 [c.vector] d else d

/-- A completion posted to queue `q`: to the ring, or to the backlog (R442). -/
def cqPost (q : Nat) (b : Bytes) (d : Device) : Device :=
  let c := d.cq q
  if !c.present then d
  else if 0 < c.freeSlots ∧ c.backlog = [] ∧ d.bme = true then cqWrite q b d
  else
    let d := d.setCq q { c with backlog := c.backlog ++ [b], stalled := true }
    if c.stalled then d
    else queueEvent F.QUEUE_EVT_STATUS_CQ_STALL F.QUEUE_EVT_EN_CQ_STALL 385 q (d.count 0xB0018)

/-- Backlog entries of queue `q` move to the ring while it has room; `n` bounds the loop by the backlog's length. -/
def cqDrainAux (q : Nat) : Nat → Device → Device
  | 0, d => d
  | n + 1, d =>
    let c := d.cq q
    match c.backlog with
    | [] => d
    | b :: bs =>
      if 0 < c.freeSlots ∧ d.bme = true then
        cqDrainAux q n (cqWrite q b (d.setCq q { c with backlog := bs, stalled := !bs.isEmpty }))
      else d

/-- Backlog entries of queue `q` move to the ring (R442). -/
def cqDrain (q : Nat) (d : Device) : Device := cqDrainAux q (d.cq q).backlog.length d

/-! ### Unit fetch (R418, R419, R443) -/

/-- The units the next fetch read of queue `q` asks for. -/
def fetchUnits (q : Nat) (d : Device) : Nat :=
  let s := d.sq q
  let held := s.cache.length
  let slot := (s.cons.toNat + held) % 2 ^ s.sizeLog2
  min (min (16 - held) (s.left - held)) (min (2 ^ s.sizeLog2 - slot) (s.entries.2 + cqRoom s.cq d))

/-- A frame of queue `q` waits for room in its class, so the queue's fetch pauses and no entry starts (Table 12-2). -/
def sqWaits (q : Nat) (d : Device) : Bool := d.net.offers.any (fun o => o.frame.flow == q && o.frame.job.isSome)

/-- Host address of the next unit to fetch. -/
def Sq.fetchAddr (s : Sq) : Nat := s.base + 32 * ((s.cons.toNat + s.cache.length) % 2 ^ s.sizeLog2)

/-- Non-posted requests that a fetch read of `n` units takes. -/
def readRequests (s : Sq) (n : Nat) (d : Device) : Nat :=
  (splitRequests d.pcie.pf0.maxRead (32 * n) s.fetchAddr (32 * n)).length

/-- Non-posted requests of the host queues that are outstanding: fetch reads, and one for each SEND entry whose data are
being read (Table 14-1). DESIGN CHOICE: an entry's reads follow one another on one tag. -/
def queueReads (d : Device) : Nat :=
  d.hq.sqs.foldl (fun n e => n + readRequests e.2 e.2.inflight d + (if e.2.sending.isSome then 1 else 0)) 0

/-- Whether a tag is free for one more request of the host queues (Table 14-1). -/
def queueTag (d : Device) : Bool := decide (queueReads d < 256)

/-- Queue `q` issues its next fetch read when it may. -/
def sqFetch (q : Nat) (d : Device) : Device :=
  let s := d.sq q
  if s.present && s.wanted && !s.fault && !s.invalidating && s.inflight == 0 && d.bme && s.deleting.isNone
      && !sqWaits q d && (d.st != .halt || q == adminQ) then
    let n := fetchUnits q d
    if s.left ≤ s.cache.length then d.setSq q { s with wanted := false }
    else if n = 0 ∨ 256 < queueReads d + readRequests s n d then d
    else
      (({ d with hq.turn := q + 1 }).setSq q { s with inflight := n }).emitRead s.fetchAddr (32 * n)
  else d

/-- Every queue with units to fetch is served once, in round-robin order: from the queue after the one served last
(R418). -/
def fetchAll (d : Device) : Device :=
  (d.hq.sqs.filter (fun e => d.hq.turn ≤ e.1) ++ d.hq.sqs.filter (fun e => e.1 < d.hq.turn)).foldl
    (fun d e => sqFetch e.1 d) d

/-! ### Completing entries -/

/-- Words 1 to 7 of a completion (Table 14-8). -/
structure CompBody where
  w1 : Nat := 0
  raw : Nat := 0
  frac : Nat := 0
  timeHi : Nat := 0
  timeLo : Nat := 0
  r0 : Nat := 0
  r1 : Nat := 0
  deriving DecidableEq, Repr

/-- The 64 bytes of a completion with PHASE 0. -/
def compBytes (sq opcode status cid count : Nat) (b : CompBody) : Bytes :=
  wordsBytes [sq * 2 ^ 48 + opcode * 2 ^ 40 + status * 2 ^ 32 + cid * 2 ^ 16 + count % 2 ^ 16,
    b.w1, b.raw, b.frac, b.timeHi, b.timeLo, b.r0, b.r1]

/-- The SQ number a completion carries: 0 for the admin pair. -/
def sqNumber (q : Nat) : Nat := if q = adminQ then 0 else q

/-- One completion of an entry of queue `q` (R439): silent in a batching queue, or posted with COUNT; `buffers` is the
COUNT of a receive completion. -/
def entryPost (q opcode cid : Nat) (batchEnd : Bool) (status : Nat) (buffers : Option Nat) (b : CompBody)
    (d : Device) : Device :=
  let s := d.sq q
  let d := if status ≠ 0 ∧ q ≠ adminQ then d.count (0x340000 + 0x20 * q + 8) else d
  if s.batching && status == 0 && !batchEnd && buffers.isNone then d.setSq q { s with silent := s.silent + 1 }
  else
    let n := buffers.getD (s.silent + 1)
    cqPost s.cq (compBytes (sqNumber q) opcode status cid n b) (d.setSq q { s with silent := 0 })

/-- A deleted queue whose last entry has completed goes, and DELETE_SQ completes with its final C (R446). -/
def sqDeleteDone (q : Nat) (d : Device) : Device :=
  let s := d.sq q
  match s.deleting with
  | none => d
  | some cid =>
    if s.live = [] then
      let d := d.setSq q {}
      let a := d.sq adminQ
      entryPost adminQ 0x04 cid false 0 none { r0 := s.cons.toNat }
        (d.setSq adminQ { a with live := a.live.filter (fun e => e.cid != cid || e.opcode != 0x04) })
    else d

/-- A started entry completes; without its queue nothing is posted (R449). -/
def entryComplete (e : EntryRef) (status : Nat) (b : CompBody) (d : Device) : Device :=
  let s := d.sq e.sq
  if s.present ∧ s.live.any (·.id == e.id) = true then
    let d := d.setSq e.sq { s with live := s.live.filter (·.id != e.id) }
    fetchAll (sqDeleteDone e.sq (entryPost e.sq e.opcode e.cid e.batchEnd status none b d))
  else d

/-- `entryComplete` for a frame that may come from no entry. -/
def entryCompleteOpt (e : Option EntryRef) (status : Nat) (b : CompBody) (d : Device) : Device :=
  match e with
  | none => d
  | some e => entryComplete e status b d

/-- C passes the head entry of queue `q` (R417), counted under ENTRIES. -/
def sqConsume (q units : Nat) (d : Device) : Device :=
  let s := d.sq q
  let d := d.setSq q { s with cons := s.cons + BitVec.ofNat 32 units, cache := s.cache.drop units }
  if q = adminQ then d else d.count (0x340000 + 0x20 * q)

/-- The head entry of queue `q` starts: it is live until it completes. -/
def entryStart (q : Nat) (e : Entry) (tb : Nat) (d : Device) : EntryRef × Device :=
  let w0 := leWord e.bytes 0
  let r : EntryRef :=
    { sq := q, cid := bits w0 47 32, opcode := bits w0 63 56, batchEnd := bit w0 51, tb := tb, id := d.hq.nextId }
  let d := sqConsume q e.units { d with hq.nextId := d.hq.nextId + 1 }
  let s := d.sq q
  (r, d.setSq q { s with live := s.live ++ [r] })

/-- The head entry of queue `q` is refused with a status (Table 14-5). -/
def entryRefuse (q : Nat) (e : Entry) (status : Nat) (d : Device) : Device :=
  let w0 := leWord e.bytes 0
  let d := sqConsume q e.units d
  fetchAll (entryPost q (bits w0 63 56) (bits w0 47 32) (bit w0 51) status none {} d)

/-- I/O opcodes that a queue of kind `k` accepts (Table 14-4), and the admin commands of Table 14-10. -/
def opcodeAllowed (k op : Nat) : Bool :=
  match k with
  | 0 => op == 0 || op == 1
  | 1 => op == 0 || op == 2
  | 2 => op == 0 || op == 3 || op == 4
  | _ => (1 ≤ op && op ≤ 8) || (0x20 ≤ op && op ≤ 0x28)

/-- The entry that may start next: at the head, behind its BARRIER (R425), and in the admin pair only when no earlier
command is still at work (R445). -/
def headEntry (q : Nat) (d : Device) : Option Entry :=
  let s := d.sq q
  if !s.present || s.sending.isSome || s.deleting.isSome || s.invalidating || sqWaits q d then none
  else
    match s.entryAt 0 with
    | none => none
    | some e => if (bit (leWord e.bytes 0) 50 || q == adminQ) && !s.live.isEmpty then none else some e

/-- What checks 1 to 3 of Table 14-5 say of an entry: the refusing status. -/
def entryBadStatus (kind : Nat) (e : Entry) : Option Nat :=
  if e.bad then some 0x02
  else if !opcodeAllowed kind (bits (leWord e.bytes 0) 63 56) then some 0x01
  else none

/-- The head entry of queue `q` is taken up for opcode `op`: checks 1 to 3, then `reserved` (check 4). The entry that may
run, or the device after what became of the head otherwise; an entry of another opcode that passes checks 1 to 3 waits for
its own command. -/
def entryPick (q op : Nat) (reserved : Bytes → Bool) (d : Device) : Device ⊕ Entry :=
  match headEntry q d with
  | none => .inl d
  | some e =>
    match entryBadStatus (d.sq q).kind e with
    | some st => .inl (entryRefuse q e st d)
    | none =>
      if bits (leWord e.bytes 0) 63 56 ≠ op then .inl d
      else if reserved e.bytes then .inl (entryRefuse q e 0x03 d)
      else .inr e

/-- The head entry of queue `q` runs when it passes its checks for opcode `op`. -/
def entryStep (q op : Nat) (reserved : Bytes → Bool) (run : Entry → Device → Device) (d : Device) : Device :=
  match entryPick q op reserved d with
  | .inl d => d
  | .inr e => run e d

/-- Whether any bit of `mask` is set in word `k` of an entry. -/
def wordHas (b : Bytes) (k mask : Nat) : Bool := leWord b k &&& mask != 0

/-- Reserved bits of word 0 that every entry has (Table 14-3). -/
def word0Reserved (b : Bytes) : Bool := wordHas b 0 (3 * 2 ^ 48)

/-- LEN of an entry. -/
def entryUnits (b : Bytes) : Nat := bits (leWord b 0) 55 52

/-- The head entry of queue `q` starts and completes at once. -/
def entryNow (q : Nat) (e : Entry) (tb status : Nat) (b : CompBody) (d : Device) : Device :=
  let r := entryStart q e tb d
  entryComplete r.1 status b r.2

/-- Reserved bits and encodings of an RX_POST entry (R430). -/
def rxPostReserved (b : Bytes) : Bool :=
  word0Reserved b || entryUnits b != 1 || wordHas b 0 (2 ^ 32 - 1) || wordHas b 2 (2 ^ 64 - 2 ^ 16)
    || wordHas b 3 (2 ^ 64 - 1) || decide (leWord b 2 % 2 ^ 16 < 64 ∨ 16384 < leWord b 2 % 2 ^ 16)

/-! ### Receive queues (R431, R432) -/

/-- What a fetched entry of a receive queue is: a buffer, with its CID, address and length; a NOP; or one that is
refused. -/
inductive RxEntry where
  | buffer (cid addr len : Nat)
  | nop
  | refused (status : Nat)
  deriving DecidableEq, Repr

/-- The checks of Table 14-5 on an entry of a receive queue. -/
def rxEntry (e : Entry) : RxEntry :=
  match entryBadStatus 1 e with
  | some st => .refused st
  | none =>
    if bits (leWord e.bytes 0) 63 56 = 2 then
      if rxPostReserved e.bytes then .refused 0x03
      else .buffer (bits (leWord e.bytes 0) 47 32) (leWord e.bytes 1) (bits (leWord e.bytes 2) 15 0)
    else if word0Reserved e.bytes then .refused 0x03
    else .nop

/-- The buffers among fetched entries, in posting order: CID, address and length of each. A BARRIER behind a buffer that
is not used, which `fresh` denies, holds back its entry and every later one (R425). -/
def rxBuffersOf (fresh : Bool) : List Entry → List (Nat × Nat × Nat)
  | [] => []
  | e :: es =>
    if !fresh && bit (leWord e.bytes 0) 50 then []
    else
      match rxEntry e with
      | .buffer cid addr len => (cid, addr, len) :: rxBuffersOf false es
      | .nop | .refused _ => rxBuffersOf fresh es

/-- The buffers of queue `q` fetched and not used. -/
def rxBuffers (q : Nat) (d : Device) : List (Nat × Nat × Nat) :=
  let s := d.sq q
  let r := s.entries
  rxBuffersOf true (if r.2 = 0 then r.1 else r.1.dropLast)

/-- How many of the buffers `n` bytes need; none when they do not suffice. -/
def rxNeed : Nat → List (Nat × Nat × Nat) → Option Nat
  | _, [] => none
  | n, (_, _, len) :: bs => if n ≤ len then some 1 else (rxNeed (n - len) bs).map (· + 1)

/-- The frame's bytes `bs` written over the next `n` buffers of queue `q`, each taken as it is used; NOPs and refused
entries between them complete on the way. `fuel` bounds the entries. -/
def rxTake (q : Nat) : Nat → Nat → Bytes → Device → Device
  | 0, _, _, d => d
  | _ + 1, 0, _, d => d
  | fuel + 1, n + 1, bs, d =>
    match (d.sq q).entryAt 0 with
    | none => d
    | some e =>
      match rxEntry e with
      | .buffer _ addr len =>
        rxTake q fuel n (bs.drop len) (sqConsume q e.units (if bs = [] then d else d.emitWrite addr (bs.take len)))
      | .nop => rxTake q fuel (n + 1) bs (entryNow q e 0 0 {} d)
      | .refused st => rxTake q fuel (n + 1) bs (entryRefuse q e st d)

/-- A frame for receive queue `q`: written and completed, or dropped whole and counted. `w1` holds the bits of the
completion's word 1 other than TB and LENGTH. -/
def rxDeliver (q : Nat) (frame : Bytes) (w1 : Nat) (r : Stamp) (d : Device) : Device :=
  let s := d.sq q
  let bufs := rxBuffers q d
  if !s.present || s.kind != 1 then d.count 0xB0020
  else
    match (if d.bme && s.deleting.isNone && !s.invalidating then rxNeed frame.length bufs else none) with
    | none =>
      queueEvent F.QUEUE_EVT_STATUS_RXQ_NO_BUFFER F.QUEUE_EVT_EN_RXQ_NO_BUFFER 388 q (d.count (0x340018 + 0x20 * q))
    | some n =>
      let d := (rxTake q 64 n frame d).count (0x340010 + 0x20 * q)
      let t := d.timeAt (d.tb s.tb) r
      fetchAll (entryPost q 0x02 (bufs.headD (0, 0, 0)).1 true 0 (some n)
        { w1 := w1 + s.tb * 2 ^ 30 + frame.length % 2 ^ 15, raw := r.count.toNat, frac := r.frac.toNat,
          timeHi := timeHiWord t, timeLo := timeLoWord t } d)

end Sys2Proof.Machine
end

