-- ==== Sys2Proof/Machine/Sentinel.lean ====
section
/-!
DEFINITION. The Log sentinels (R384 to R386): the slack of one completed work item, and Trim's events (R404).
The choices it makes stand under notes/assumptions: 82 (DEDUCED).
-/

namespace Sys2Proof.Machine

/-- The bits of TRIM_EVT_STATUS and TRIM_EVT_EN, bit 0 first (Table 13-10). -/
def trimBits : List (Fld × Fld) := [
  (F.TRIM_EVT_STATUS_OVERRIDE, F.TRIM_EVT_EN_OVERRIDE),
  (F.TRIM_EVT_STATUS_LADDER, F.TRIM_EVT_EN_LADDER),
  (F.TRIM_EVT_STATUS_SLACK_MISS, F.TRIM_EVT_EN_SLACK_MISS),
  (F.TRIM_EVT_STATUS_THERM_WARN, F.TRIM_EVT_EN_THERM_WARN),
  (F.TRIM_EVT_STATUS_AVS_FAULT, F.TRIM_EVT_EN_AVS_FAULT),
  (F.TRIM_EVT_STATUS_HEADING_CHANGED, F.TRIM_EVT_EN_HEADING_CHANGED),
  (F.TRIM_EVT_STATUS_HEADING_REFUSED, F.TRIM_EVT_EN_HEADING_REFUSED),
  (F.TRIM_EVT_STATUS_FABRIC_REPLAY, F.TRIM_EVT_EN_FABRIC_REPLAY)]

/-- Trim sets bit `j` of TRIM_EVT_STATUS and raises event 16 + j when TRIM_EVT_EN has the bit (R404). -/
def trimEvent (j : Nat) (d : Device) : Device :=
  evRaiseIf (d.rb (bitPair trimBits j).2) (16 + j) (d.ru (bitPair trimBits j).1 1)

/-- Whole nanoseconds of a signed number of ticks at 1.25 ns, towards the lower value. -/
def ticksNs (t : Int) : Int := t * 5 / 4

/-- Nanoseconds, at the nominal tick, from the raw count `done` to the crossing-clock time `t`. -/
def slackX (t : Int) (done : Word) (d : Device) : Int :=
  ticksNs ((t - d.timeAt .x { count := done }) / (((d.dom .x).cur.incr * 2 ^ 16 : Nat) : Int))

/-- Nanoseconds from the raw count `done` to the raw count `deadline`, plus `ns`. -/
def slackRaw (deadline : Word) (ns : Int) (done : Word) : Int :=
  ticksNs ((deadline.toNat : Int) - done.toNat) + ns

/-- A work item of sentinel `k` completed with `slack` ns (R384, R386). -/
def logSlack (k : Nat) (slack : Int) (d : Device) : Device :=
  if !d.rb F.TRIM_LOG_ENABLE k then d
  else
    let least := match tabGet none d.trim.least k with
      | none => slack
      | some m => min m slack
    let d := { d with trim.least := tabSet none d.trim.least k (some least) }
    if slack < 0 then trimEvent 2 (d.rsat F.TRIM_LOG_MISSES 1 k) else d

end Sys2Proof.Machine
end

