-- ==== Sys2Proof/Machine/Tio.lean ====
section
/-!
DEFINITION. Stamp records and the TIO pins (chapter 08): the record queue, beacons, captures and pulse ends.
The choices it makes stand under notes/assumptions: 40 (DEDUCED), 41 (DEDUCED).
-/

namespace Sys2Proof.Machine

/-! ### Stamp records (R240 to R244) -/

/-- PROD − CONS, modulo 2^32. -/
def strecUsed (d : Device) : Nat := (d.rg F.RECKON_STREC_PROD_PROD + 2 ^ 32 - d.rg F.RECKON_STREC_CONS_CONS) % 2 ^ 32

/-- The eight words of a record (Table 08-3). -/
def strecWords (kind source tag : Nat) (r : Stamp) (d : Device) : StRecord :=
  let lost := if d.strec.dropped = 0 ∧ d.strec.mark = false then 0 else 1
  let w0 := kind * 2 ^ 60 + lost * 2 ^ 59 + source * 2 ^ 48 + min d.strec.dropped 65535 * 2 ^ 32
    + r.frac.toNat * 2 ^ 16 + tag
  [w0, r.count.toNat, timeHiWord (d.timeAt .a r), timeLoWord (d.timeAt .a r), timeHiWord (d.timeAt .b r),
    timeLoWord (d.timeAt .b r), timeHiWord (d.timeAt .x r), timeLoWord (d.timeAt .x r)].map (BitVec.ofNat 64)

/-- A record dropped because the queue is full, or discarded under Table 01-5 (R242). -/
def strecDrop (d : Device) : Device :=
  evRaise 46 (({ d with strec.dropped := d.strec.dropped + 1 }).count 0x62008)

/-- One stamp record written, or dropped when the queue is full. -/
def strecWrite (kind source tag : Nat) (r : Stamp) (d : Device) : Device :=
  if strecUsed d = 4096 then strecDrop d
  else
    let i := d.rg F.RECKON_STREC_PROD_PROD % 4096
    let d := { d with strec := { ring := tabSet [] d.strec.ring i (strecWords kind source tag r d), dropped := 0 } }
    evRaise 45 ((d.radd F.RECKON_STREC_PROD_PROD 1).count 0x62000)

/-- A write of CONS (R243): ignored when it would make PROD − CONS exceed 4,096. -/
def strecConsWrite (v : BitVec 32) (d : Device) : Device :=
  if (d.rg F.RECKON_STREC_PROD_PROD + 2 ^ 32 - v.toNat) % 2 ^ 32 ≤ 4096 then d.ru F.RECKON_STREC_CONS_CONS v.toNat
  else d

/-! ### Pins (R245 to R250) -/

/-- Pin `i` is disarmed. -/
def tioDisarm (i : Nat) (d : Device) : Device :=
  (d.setPin i { d.pin i with next := none }).ru F.RECKON_TIO_STATUS_ARMED 0 i

/-- A write of RECKON_TIO_CFG: a change of MODE ends the pulse by driving the inactive level, and disarms the pin
(R245). -/
def tioModeWrite (i : Nat) (v : Word) (d : Device) : Device :=
  let e := writeReg64 (F.RECKON_TIO_CFG_MODE.addr i) v d
  if e.rg F.RECKON_TIO_CFG_MODE i = d.rg F.RECKON_TIO_CFG_MODE i then
    tioChange i (fun d => writeReg64 (F.RECKON_TIO_CFG_MODE.addr i) v d) d
  else tioDisarm i (tioChange i (fun d => writeReg64 (F.RECKON_TIO_CFG_MODE.addr i) v d) (tioPulseOff i d))

/-- The first target START + k × PERIOD that is not before `now`; BEACON_ONCE has k = 0 only. -/
def tioFirstTarget (once : Bool) (start period now : Int) : Option Int :=
  if now ≤ ofU16 start then some start
  else if once || period ≤ 0 then none
  else some (start + period * ((now - ofU16 start + (ofU16 period - 1)) / ofU16 period))

/-- The checks of R246, times in units of 2^-16 ns. -/
def tioArmOk (once : Bool) (period width : Int) : Bool :=
  (once || decide (100 * 2 ^ 16 ≤ period)) && decide (4 ≤ width)
    && (once || decide (width * 2 ^ 16 ≤ period - 4 * 2 ^ 16))

/-- A write of ARM to a beacon pin (R246). -/
def tioArm (i : Nat) (d : Device) : Device :=
  let mode := d.rg F.RECKON_TIO_CFG_MODE i
  if mode = 1 ∨ mode = 2 then
    let once := mode == 1
    let start := u16Of (d.rg F.RECKON_TIO_START_S_SECONDS i) (d.rg F.RECKON_TIO_START_NS_NANOSECONDS i)
      (d.rg F.RECKON_TIO_START_NS_FRACTION i)
    let period : Int := d.rg F.RECKON_TIO_PERIOD_NANOSECONDS i * 2 ^ 16 + d.rg F.RECKON_TIO_PERIOD_FRACTION i
    if tioArmOk once period (d.rg F.RECKON_TIO_CFG_WIDTH_NS i) then
      match tioFirstTarget once start period (d.now (d.tb (d.rg F.RECKON_TIO_CFG_TB i))) with
      | none => tioDisarm i d
      | some t =>
        (d.setPin i { d.pin i with start := start, period := period, next := some t }).ru F.RECKON_TIO_STATUS_ARMED 1 i
    else evRaise (48 + i) ((tioDisarm i d).ru F.RECKON_TIO_STATUS_ARM_ERR 1 i)
  else d

/-- A write of DISARM (R246): a pulse in progress runs on to its trailing edge. -/
def tioDisarmWrite (i : Nat) (d : Device) : Device := tioDisarm i d

/-- Whether a step, a SET or a switch of the primary domain carried the timebase of selector `sel` past `t` at its tick:
the time without it was below `t` there (R43, R247). -/
def carriedPast (sel : Nat) (t : Int) (d : Device) : Bool :=
  let m := d.tb sel
  let x := d.dom m
  let k : Stamp := { count := x.cur.rawAt }
  let jump := fun (lo hi : Int) => decide (lo < t ∧ t ≤ hi)
  jump (x.prev.timeAt k) (x.cur.timeAt k) || (sel == 3 && match d.reckon.switchedAt with
    | none => false
    | some k => jump (d.timeAt (otherDom m) { count := k }) (d.timeAt m { count := k }))

/-- The timebase of a beacon has reached its next target (R246, R247). A leading edge at a target that a jump of the
timebase carried it past, or more than one tick after its target, is late; the other targets passed are added to MISSED.
-/
def beaconEdge (i : Nat) (d : Device) : Device :=
  let p := d.pin i
  let m := d.tb (d.rg F.RECKON_TIO_CFG_TB i)
  let mode := d.rg F.RECKON_TIO_CFG_MODE i
  match p.next with
  | none => d
  | some t =>
    if d.rb F.RECKON_TIO_STATUS_ARMED i && (mode == 1 || mode == 2) && tioDriven d.st && decide (ofU16 t ≤ d.now m) then
      let once := mode == 1
      let passed := if once then 1 else ((d.now m - ofU16 t) / ofU16 p.period).toNat + 1
      let late := carriedPast (d.rg F.RECKON_TIO_CFG_TB i) (ofU16 t) d ||
        decide (((d.dom m).cur.incr : Int) * 2 ^ 16 ≤ d.now m - ofU16 t)
      let d := tioPulse i once (d.setPin i { p with next := if once then none else some (t + p.period * passed) })
      if late then evRaise (48 + i) ((d.ru F.RECKON_TIO_STATUS_LATE 1 i).rsat F.RECKON_TIO_STATUS_MISSED (passed - 1) i)
      else d
    else d

/-- A BEACON_ONCE pulse is over: its pin disarms, unless it has been armed anew meanwhile (R246). -/
def tioOnceOver (i : Nat) (d : Device) : Device := if (d.pin i).next = none then tioDisarm i d else d

/-- WIDTH_NS after the leading edge (R246, R249); a BEACON_ONCE pulse then raises its event (R256). -/
def tioPulseEnd (i : Nat) (d : Device) : Device :=
  match (d.pin i).pulse with
  | none => d
  | some t =>
    if d.passedNs t (d.rg F.RECKON_TIO_CFG_WIDTH_NS i) then
      let e := tioPulseOff i d
      if (d.pin i).once then evRaise (48 + i) (tioOnceOver i e) else e
    else d

/-- A qualified edge on a CAPTURE pin (R248), at the first tick of its new level. -/
def tioCaptureEdge (i : Nat) (level : Bool) (d : Device) : Device :=
  if d.rg F.RECKON_TIO_CFG_MODE i = 3 ∧ tioDriven d.st = true
      ∧ bit (d.rg F.RECKON_TIO_CFG_EDGES i) (if level then 0 else 1) = true then
    let seen := d.rb F.RECKON_TIO_STATUS_CAP_NEW i
    let d := (d.ru F.RECKON_TIO_CAPTURE_RAW d.raw.toNat i).radd F.RECKON_TIO_STATUS_CAP_SEQ 1 i
    let d := (d.rub F.RECKON_TIO_STATUS_LEVEL level i).ru F.RECKON_TIO_STATUS_CAP_NEW 1 i
    let d := if seen then d.ru F.RECKON_TIO_STATUS_OVERRUN 1 i else d
    let d := evRaise (48 + i) d
    if d.rb F.RECKON_TIO_CFG_RECORD i then
      strecWrite (if level then 2 else 3) i (d.rg F.RECKON_TIO_STATUS_CAP_SEQ i) d.nowStamp d
    else d
  else d

/-- Entry into DORMANT, HALT or RESET: pulses end; in DORMANT armed beacons stay armed (R250), and a BEACON_ONCE whose one
pulse was cut has no target left. -/
def tioStop (d : Device) : Device :=
  (List.range 16).foldl (fun d i => if (d.pin i).once then tioOnceOver i (tioPulseOff i d) else tioPulseOff i d) d

/-- DORMANT has ended: armed beacons resume at the first target still ahead (R250). DEDUCED: R43 binds here too, so a
target whose pulse went out before DORMANT is not among them where the timebase was stepped back. -/
def tioResume (d : Device) : Device :=
  (List.range 16).foldl (fun d i =>
    let p := d.pin i
    if p.next.isSome then
      let now := d.now (d.tb (d.rg F.RECKON_TIO_CFG_TB i))
      match tioFirstTarget (d.rg F.RECKON_TIO_CFG_MODE i == 1) p.start p.period now with
      | none => tioDisarm i d
      | some t => d.setPin i { p with next := some (max t (p.next.getD t)) }
    else d) d

/-! ### Meanings -/

/-- STREC_CONS_WRITE (R243). -/
def execStrecConsWrite (v : BitVec 32) (s : State) : Host.Outcome State Fault Refusal := onHost (strecConsWrite v) s
/-- TIO_MODE_WRITE (R245). -/
def execTioModeWrite (i : Nat) (v : Word) (s : State) : Host.Outcome State Fault Refusal := onHost (tioModeWrite i v) s
/-- TIO_ARM (R246). -/
def execTioArm (i : Nat) (s : State) : Host.Outcome State Fault Refusal := onHost (tioArm i) s
/-- TIO_DISARM (R246). -/
def execTioDisarm (i : Nat) (s : State) : Host.Outcome State Fault Refusal := onHost (tioDisarmWrite i) s
/-- BEACON_EDGE (R246). -/
def execBeaconEdge (i : Nat) (s : State) : Host.Outcome State Fault Refusal := onDev (beaconEdge i) s
/-- TIO_PULSE_END (R246). -/
def execTioPulseEnd (i : Nat) (s : State) : Host.Outcome State Fault Refusal := onDev (tioPulseEnd i) s
/-- TIO_CAPTURE_EDGE (R248). -/
def execTioCaptureEdge (i : Nat) (level : Bool) (s : State) : Host.Outcome State Fault Refusal :=
  onDev (tioCaptureEdge i level) s

end Sys2Proof.Machine
end

