-- ==== Sys2Proof/Machine/Ports.lean ====
section
/-!
DEFINITION. Ports (chapter 09), the parts other blocks use: rates and stamps, port events, Hold occupancy with XOFF,
the completion of host frames, and the device's own Garvane frames on the line.
The choices it makes stand under notes/assumptions: 7 (DESIGN CHOICE), 14 (DESIGN CHOICE), 44 (DEDUCED), 45
(DEDUCED), 46 (DEDUCED), 72 (DEDUCED).
-/

namespace Sys2Proof.Machine

/-! ### Accessors -/

/-- Port `p`. -/
def Device.port (d : Device) (p : Nat) : Port := tabGet {} d.net.ports p
/-- Port `p` replaced. -/
def Device.setPort (d : Device) (p : Nat) (x : Port) : Device := { d with net.ports := tabSet {} d.net.ports p x }

/-- Data rate in Gb/s of a port mode (Table 09-2); 0 for none. -/
def modeRate (m : Nat) : Nat :=
  match m with
  | 1 => 1
  | 2 => 10
  | 3 | 4 => 25
  | 5 | 6 => 50
  | 7 | 8 => 100
  | 9 => 200
  | 10 => 400
  | _ => 0

/-- Rate of port `p`. -/
def Device.rate (d : Device) (p : Nat) : Nat := modeRate (d.rg F.PORT_MODE_MODE p)
/-- W of `len` bytes on port `p` (R110). -/
def Device.wire (d : Device) (p len : Nat) : Nat := wireNs len (d.rate p)
/-- Whether port `p` is a branch arm. -/
def Device.isArm (d : Device) (p : Nat) : Bool := d.rg F.PILOT_ARM_CFG_ROLE p == 1
/-- Whether port `p` is an uplink. -/
def Device.isUplink (d : Device) (p : Nat) : Bool := d.rg F.PILOT_ARM_CFG_ROLE p == 2
/-- Whether port `p` is in RUN. -/
def Device.portRun (d : Device) (p : Nat) : Bool := (d.port p).st == .run
/-- The rungs of the shedding ladder in effect (R396). -/
def Device.rung (d : Device) : Nat := d.rg F.TRIM_STATUS_RUNG
/-- Length of a frame as it leaves (R356): `n` bytes without FCS. -/
def txLen (n : Nat) : Nat := max 64 (n + 4)

/-- COUNT offset of port counter `k` (Table 09-8). -/
def portCnt (p k : Nat) : Nat := 0x70000 + 0x200 * p + k
/-- COUNT offset of stamping counter `k` (Table 08-4). -/
def stampCnt (p k : Nat) : Nat := 0x60000 + 0x100 * p + k

/-! ### Events (R289) -/

/-- Event kind of bit `k` of PORTn_STATUS. -/
def portEventKind (k : Nat) : Nat :=
  match k with
  | 2 => 1
  | 3 => 2
  | 4 | 5 => 3
  | _ => 0

/-- The bits of PORTn_STATUS and PORTn_EVT_EN, bit 0 first (Table 09-13). -/
def portBits : List (Fld × Fld) := [
  (F.PORT_STATUS_STATE_CHANGE, F.PORT_EVT_EN_STATE_CHANGE),
  (F.PORT_STATUS_LINK_DOWN, F.PORT_EVT_EN_LINK_DOWN),
  (F.PORT_STATUS_WAKE, F.PORT_EVT_EN_WAKE),
  (F.PORT_STATUS_HI_BER, F.PORT_EVT_EN_HI_BER),
  (F.PORT_STATUS_XOFF_SENT, F.PORT_EVT_EN_XOFF_SENT),
  (F.PORT_STATUS_RX_PAUSED, F.PORT_EVT_EN_RX_PAUSED),
  (F.PORT_STATUS_AN_FAIL, F.PORT_EVT_EN_AN_FAIL),
  (F.PORT_STATUS_SLEEP_REFUSED, F.PORT_EVT_EN_SLEEP_REFUSED)]

/-- Bit `k` of PORTn_STATUS is set, with its event. -/
def portStatus (p k : Nat) (d : Device) : Device :=
  evRaiseIf (d.rb (bitPair portBits k).2 p) (192 + 4 * p + portEventKind k) (d.ru (bitPair portBits k).1 1 p)

/-! ### Stamps (R228 to R230) -/

/-- TX_CAL and RX_CAL of a mode in units of 2^-16 ns, rounded to the nearest (Table 08-1). -/
def stampCal (m : Nat) : Nat × Nat :=
  match m with
  | 1 => (419430, 734003)
  | 2 => (635699, 1081344)
  | 3 | 4 => (517734, 1228800)
  | 5 | 6 => (409600, 983040)
  | 7 | 8 => (367002, 878182)
  | 9 => (367002, 904397)
  | 10 => (367002, 930611)
  | _ => (0, 0)

/-- The unit interval of a mode's lane in ns, as a fraction (Table 08-1). DEDUCED: R230 counts line bits, so in a PAM4
mode it is the time of one bit, half a symbol. -/
def unitInterval (m : Nat) : Nat × Nat :=
  match m with
  | 1 => (4, 5)
  | 2 => (16, 165)
  | 3 | 4 => (32, 825)
  | 5 | 6 => (8, 425)
  | 7 | 8 | 9 | 10 => (4, 425)
  | _ => (0, 1)

/-- RX_CAL and BOARD_RX of port `p`, in units of 2^-16 ns. -/
def rxCorr (p : Nat) (d : Device) : Int :=
  (stampCal (d.rg F.PORT_MODE_MODE p)).2 + signedOf 32 (d.rg F.PORT_STAMP_BOARD_BOARD_RX p)

/-- A receive stamp: the island's stamp plus the line-bit position, less RX_CAL and BOARD_RX (R229, R230), truncated
towards the lower value. -/
def rxStamp (p : Nat) (island : Stamp) (bitPos : Nat) (d : Device) : Stamp :=
  let (n, den) := unitInterval (d.rg F.PORT_MODE_MODE p)
  let num : Int := (bitPos * n * 4 * 65536 : Nat) - rxCorr p d * 4 * den
  stampShift island (num / (5 * den))

/-- A predicted transmit stamp: the island's stamp of the block plus the line-bit position of the stamp point in it, plus
TX_CAL and BOARD_TX (R229, R230, R233), truncated towards the lower value. -/
def txStamp (p : Nat) (island : Stamp) (bitPos : Nat) (d : Device) : Stamp :=
  let m := d.rg F.PORT_MODE_MODE p
  let (n, den) := unitInterval m
  let corr : Int := (stampCal m).1 + signedOf 32 (d.rg F.PORT_STAMP_BOARD_BOARD_TX p)
  let num : Int := (bitPos * n * 4 * 65536 : Nat) + corr * 4 * den
  stampShift island (num / (5 * den))

/-- The predicted stamp of a launch requested for the instant `u`, in units of 2^-16 tick, whose stamp point falls
`skew` units after 2 ns before it (R233): 2 ns are 104,857 units. -/
def launchAt (skew : Nat) (u : Int) : Stamp :=
  stampShift { count := 0 } (u + ((skew % 209715 : Nat) : Int) - 104857)

/-- The same with the place of the stamp point in those 4 ns at a free value. -/
def launchStamp (u : Int) (d : Device) : Stamp × Device := (launchAt d.free.1.toNat u, d.free.2)

/-- The instant, in units of 2^-16 tick, of a launch at time `t` of timebase `m` that takes place at the present tick: the
instant at which `m` reaches `t`, or this tick when `m` was carried past it (R43). -/
def launchUnits (m : Dom) (t : Int) (d : Device) : Int :=
  let u := reachUnits m t d
  let now : Int := (d.raw.toNat : Int) * 2 ^ 16
  if now - 2 ^ 16 < u ∧ u ≤ now then u else now

/-- Bytes of a frame that have left port `p` since its first bit left at `r`, `frac` 2^-16 ticks into this tick. -/
def bytesOut (p : Nat) (r : Stamp) (d : Device) (frac : Nat := 0) : Nat :=
  ((d.raw.toNat * 65536 + frac : Nat) - (r.count.toNat * 65536 + r.frac.toNat)) * 5 * d.rate p / (32 * 65536)

/-- Raw ticks of the wire time of `n` bytes at the rate of port `p`, rounded up. -/
def byteTicks (p n : Nat) (d : Device) : Nat := (n * 32 + 5 * d.rate p - 1) / (5 * d.rate p)

/-! ### Hold occupancy and XOFF (R280, R281) -/

/-- Bytes of frames received on port `p` that Hold still holds. -/
def occupancy (p : Nat) (d : Device) : Nat :=
  d.net.holds.foldl (fun n e => if e.2.port = p then n + e.2.len else n) 0

/-- Bytes of frames of priority `q` received on port `p` that Hold still holds. -/
def occupancyOf (p q : Nat) (d : Device) : Nat :=
  d.net.holds.foldl (fun n e => if e.2.port = p ∧ e.2.prio = q then n + e.2.len else n) 0

/-- The frames that port `p` keeps: queued, listed, waiting, held or in transmission. -/
def Port.frames (x : Port) : List TxFrame :=
  x.launch ++ x.waits.map (·.2) ++ (x.classes.map (·.2.frames)).flatten
    ++ (match x.held with | some t => [t.frame] | none => []) ++ (match x.now with | some t => [t.frame] | none => [])

/-- Bytes of host frames that Hold holds (R429), each frame once however many copies of it wait. -/
def hostHeld (d : Device) : Nat :=
  let all := (d.net.ports.map (·.2.frames)).flatten ++ d.net.offers.map (·.frame)
  (all.foldl (fun (a : List Nat × Nat) f =>
    match f.job with
    | none => a
    | some j => if a.1.contains j then a else (j :: a.1, a.2 + f.bytes.length)) ([], 0)).2

/-- Bytes of Hold taken in all: received frames, host frames, and what the chart sets aside for Garvane frames. -/
def holdUsed (d : Device) : Nat := d.net.holds.foldl (fun n e => n + e.2.len) 0 + hostHeld d + d.netCfg.holdAside

/-- A MAC control frame without FCS; its source is the device's MAC address. -/
def macControl (opcode : Nat) (body : Bytes) (d : Device) : Bytes :=
  beBytes 6 0x0180C2000001 ++ beBytes 6 (d.rg F.GLOBAL_MAC_ADDRESS) ++ beBytes 2 0x8808 ++ beBytes 2 opcode ++ body

/-- A PAUSE frame of quanta `q`. -/
def pauseFrame (q : Nat) (d : Device) : Bytes := macControl 0x0001 (beBytes 2 q) d

/-- A PFC frame for the priorities of mask `en`; those of `on` carry PAUSE_QUANTA, the others 0. -/
def pfcFrame (en on q : Nat) (d : Device) : Bytes :=
  macControl 0x0101 (beBytes 2 en ++ (List.range 8).foldr (fun k acc =>
    beBytes 2 (if bit on k then q else 0) ++ acc) []) d

/-- A PAUSE or PFC frame becomes due on port `p`. -/
def ctrlSend (p : Nat) (b : Bytes) (d : Device) : Device :=
  let x := d.port p
  d.setPort p { x with ctrlDue := x.ctrlDue ++ [b] }

/-- The XOFF priorities of port `p` by its occupancy, as a mask: bit 0 alone in PAUSE mode (R281). -/
def xoffMask (p : Nat) (d : Device) : Nat :=
  let old := d.rg F.PORT_FLOW_STATUS_XOFF p
  let hi := d.rg F.PORT_FLOW_WM_HIGH_WM p * 256
  let lo := d.rg F.PORT_FLOW_WM_LOW_WM p * 256
  let one := fun (k o : Nat) => if bit old k then (if o ≤ lo then 0 else 2 ^ k) else if hi ≤ o then 2 ^ k else 0
  match d.rg F.PORT_FLOW_MODE p with
  | 1 => one 0 (occupancy p d)
  | 2 => (List.range 8).foldl (fun m k => m + one k (occupancyOf p k d)) 0
  | _ => 0

/-- A PFC frame for the priorities `changed` of port `p`, those of `on` in XOFF. It carries every priority that changes
at one instant, so it takes the place of one that the same tick made due and that has yet to start (R281). -/
def pfcChange (p changed on q : Nat) (d : Device) : Device :=
  let x := d.port p
  let old := match x.pfcLast with
    | some e => if e.1 = d.raw ∧ x.ctrlDue.getLast? = some e.2.2 then some e.2.1 else none
    | none => none
  let mask := changed ||| old.getD 0
  let b := pfcFrame mask on q d
  let due := if old.isSome then x.ctrlDue.dropLast else x.ctrlDue
  d.setPort p { x with ctrlDue := due ++ [b], pfcLast := some (d.raw, mask, b) }

/-- The port enters or leaves XOFF as its occupancy says, with the PAUSE or PFC frame and the event. -/
def xoffCheck (p : Nat) (d : Device) : Device :=
  let old := d.rg F.PORT_FLOW_STATUS_XOFF p
  let new := xoffMask p d
  if new = old then d
  else
    let quanta := d.rg F.PORT_FLOW_PAUSE_QUANTA p
    let changed := old ^^^ new
    let d := d.ru F.PORT_FLOW_STATUS_XOFF new p
    let d := if d.rg F.PORT_FLOW_MODE p = 1 then ctrlSend p (pauseFrame (if new = 1 then quanta else 0) d) d
      else pfcChange p changed new quanta d
    let x := d.port p
    let d := d.setPort p { x with xoffAt := (List.range 8).foldl (fun t k =>
      if bit changed k && bit new k then tabPut d.raw t k else t) x.xoffAt }
    if new &&& changed ≠ 0 then portStatus p 4 d else d

/-- A received frame enters Hold with `refs` copies to come. -/
def holdNew (p prio len refs : Nat) (d : Device) : Nat × Device :=
  let id := d.net.nextId
  let d := { d with net.nextId := id + 1,
                    net.holds := tabPut { port := p, prio := prio, len := len, refs := refs } d.net.holds id }
  (id, xoffCheck p d)

/-- One more copy of a held frame has yet to leave. -/
def holdAdd (id : Nat) (d : Device) : Device :=
  match d.net.holds.find? (·.1 == id) with
  | none => d
  | some e => { d with net.holds := tabPut { e.2 with refs := e.2.refs + 1 } d.net.holds id }

/-- A copy of a held frame has been sent, copied to the host or dropped; with the last the frame leaves Hold. -/
def holdRelease (id : Nat) (d : Device) : Device :=
  match d.net.holds.find? (·.1 == id) with
  | none => d
  | some e =>
    if e.2.refs ≤ 1 then xoffCheck e.2.port { d with net.holds := tabErase d.net.holds id }
    else { d with net.holds := tabPut { e.2 with refs := e.2.refs - 1 } d.net.holds id }

/-- `holdRelease` for a frame that may have no record. -/
def holdReleaseOpt (id : Option Nat) (d : Device) : Device :=
  match id with
  | none => d
  | some i => holdRelease i d

/-! ### Host frames under way (R429) -/

/-- A job for an entry whose frame leaves in `n` copies; `seq` is the SEQ of an own ACYCLIC frame. -/
def jobNew (e : EntryRef) (n : Nat) (seq : Option Nat) (d : Device) : Nat × Device :=
  let id := d.net.nextId
  (id, { d with net.nextId := id + 1,
                net.jobs := tabSet none d.net.jobs id (some { entry := e, left := n, seq := seq }) })

/-- The completion body of a frame that left. -/
def sentBody (e : EntryRef) (port : Nat) (r : Stamp) (skips : Nat) (d : Device) : CompBody :=
  let t := d.timeAt (d.tb e.tb) r
  { w1 := port * 2 ^ 32 + 8 + skips, raw := r.count.toNat, frac := r.frac.toNat, timeHi := timeHiWord t,
    timeLo := timeLoWord t }

/-- A copy of a job's frame has left port `p`: with the last copy the entry completes OK with the stamp of the copy
on the lowest-numbered port. -/
def jobLeft (id : Option Nat) (p : Nat) (r : Stamp) (skips : Nat) (d : Device) : Device :=
  match id with
  | none => d
  | some i =>
    match tabGet none d.net.jobs i with
    | none => d
    | some j =>
      let best := match j.best with
        | none => (p, r, skips)
        | some b => if p < b.1 then (p, r, skips) else b
      if j.left ≤ 1 then
        let body := match j.seq with
          | some q => { r0 := q }
          | none => sentBody j.entry best.1 best.2.1 best.2.2 d
        entryComplete j.entry 0 body { d with net.jobs := tabSet none d.net.jobs i none }
      else { d with net.jobs := tabSet none d.net.jobs i (some { j with left := j.left - 1, best := some best }) }

/-- A frame of a job is refused: its entry completes with the refusing status. -/
def jobRefuse (id : Option Nat) (status : Nat) (d : Device) : Device :=
  match id with
  | none => d
  | some i =>
    match tabGet none d.net.jobs i with
    | none => d
    | some j => entryComplete j.entry status {} { d with net.jobs := tabSet none d.net.jobs i none }

/-- A queued frame goes without being sent: its Hold space is freed and its entry completes with `status`. -/
def frameRefuse (f : TxFrame) (status : Nat) (d : Device) : Device :=
  jobRefuse f.job status (holdReleaseOpt f.hold d)

/-- A frame discarded at a port that is not in RUN is counted (R268), except at an absorbed port, whose counters read 0
(R288). -/
def downCount (p : Nat) (d : Device) : Device := d.countIf (!d.rb F.PORT_MODE_ABSORBED p) (portCnt p 0xC0)

/-- A frame handed to a port that is not in RUN (R268). -/
def linkDownDiscard (p : Nat) (f : TxFrame) (d : Device) : Device := frameRefuse f 0x0E (downCount p d)

/-! ### The device's own Garvane frames -/

/-- The own frame on the line of port `p`, if any, has left whole. -/
def ownDone (p : Nat) (d : Device) : Device :=
  let x := d.port p
  match x.own with
  | none => d
  | some o =>
    jobLeft o.job p o.stamp 0
      ((((d.setPort p { x with own := none }).count (portCnt p 0x98)).countN (portCnt p 0xA0) o.bytes.length).emit
        (.frame p o.bytes o.stamp))

/-- An own frame starts on port `p` with the stamp `r`, unless the port is not in RUN (R268). The line is free then,
since every launch time leaves room for the frame before it. DEDUCED: one longer than MAX_FRAME, which the port never
sends (R274), is not sent. -/
def ownSend (p : Nat) (bytes : Bytes) (r : Stamp) (job : Option Nat) (d : Device) : Device :=
  if d.rg F.PORT_FRAME_MAX_FRAME p < bytes.length then jobRefuse job 0x05 d
  else if d.portRun p then
    let d := ownDone p d
    let ticks := (d.wire p bytes.length * 4 + 4) / 5
    let o : OwnTx := { bytes := bytes, stamp := r, stop := d.raw + BitVec.ofNat 64 ticks, job := job }
    d.setPort p { d.port p with own := some o }
  else jobRefuse job 0x0E (downCount p d)

/-- Own frames whose last bit has left by this tick. -/
def ownDue (d : Device) : Device :=
  d.net.ports.foldl (fun d e =>
    match (d.port e.1).own with
    | some o => if o.stop.toNat ≤ d.raw.toNat then ownDone e.1 d else d
    | none => d) d

/-- The frame on the line of port `p` ends with an invalid termination after `n` of its bytes (R265), or is lost with the
link when `lost` holds (Table 09-4); it is counted either way. -/
def frameCut (p n : Nat) (bytes : Bytes) (lost : Bool) (d : Device) : Device :=
  let d := d.count (portCnt p 0xB8)
  if lost then d else d.emit (.cutOff p (bytes.take n) (d.rg F.PORT_MODE_MODE p == 1))

/-- What the line of port `p` carries is cut off or lost: counted once per frame; a host frame completes with PORT_DOWN.
-/
def lineCut (p : Nat) (lost : Bool) (d : Device) : Device :=
  let d := match (d.port p).own with
    | some o =>
      if o.stop.toNat ≤ d.raw.toNat then ownDone p d
      else
        jobRefuse o.job 0x0E (frameCut p (bytesOut p o.stamp d) o.bytes lost (d.setPort p { d.port p with own := none }))
    | none => d
  let d := d.setPort p { d.port p with mergeEnd := 0 }
  match (d.port p).now with
  | some t =>
    frameRefuse t.frame 0x0E (frameCut p (bytesOut p t.from_ d) (t.bytes.drop t.sent) lost
      (d.setPort p { d.port p with now := none }))
  | none => d

end Sys2Proof.Machine
end

