-- ==== Sys2Proof/Machine/Redun.lean ====
section
/-!
DEFINITION. The redundancy unit (chapter 10): the R-TAG, recovery and generation of streams, and the verification of
pre-emption. Fragments and pre-emption itself are in Helm.lean.
The choices it makes stand under notes/assumptions: 47 (PRESUMED), 48 (DEDUCED).
-/

namespace Sys2Proof.Machine

/-! ### The R-TAG (R304) -/

/-- Where an R-TAG lies or would lie: after up to two parsed tags. -/
def rtagAt (bs : Bytes) : Nat := (ethParse bs).off - 2

/-- The sequence number of a frame's R-TAG. -/
def rtagSeq (bs : Bytes) : Option Nat :=
  if (ethParse bs).etype = 0xF1C1 ∧ rtagAt bs + 6 ≤ bs.length then some (beField bs (rtagAt bs + 4) 2) else none

/-- The frame without its R-TAG. -/
def rtagRemove (bs : Bytes) : Bytes :=
  if (rtagSeq bs).isSome then bs.take (rtagAt bs) ++ bs.drop (rtagAt bs + 6) else bs

/-- The offset after the last IEEE 802.1Q tag of a frame, from offset `o` on; `fuel` bounds their number. -/
def tagsEnd (bs : Bytes) : Nat → Nat → Nat
  | 0, o => o
  | fuel + 1, o => if isTag (beField bs o 2) && decide (o + 4 ≤ bs.length) then tagsEnd bs fuel (o + 4) else o

/-- The frame with an R-TAG of sequence number `q`, in place of any it carries, directly after the last tag. -/
def rtagInsert (bs : Bytes) (q : Nat) : Bytes :=
  let b := rtagRemove bs
  let o := tagsEnd b (b.length / 4) 12
  b.take o ++ beBytes 2 0xF1C1 ++ beBytes 2 0 ++ beBytes 2 q ++ b.drop o

/-! ### Streams -/

/-- Stream `s`. -/
def Device.stream (d : Device) (s : Nat) : Stream := tabGet {} d.net.streams s
/-- Stream `s` replaced. -/
def Device.setStream (d : Device) (s : Nat) (x : Stream) : Device :=
  { d with net.streams := tabSet {} d.net.streams s x }

/-- COUNT offset of stream counter `k` (Table 10-5). -/
def streamCnt (s k : Nat) : Nat := 0x100000 + 0x40 * s + k
/-- COUNT offset of per-port redundancy counter `k` (Table 10-5). -/
def peCnt (p k : Nat) : Nat := 0x80000 + 0x100 * p + k

/-- A REDUN event with its stream (R314). -/
def streamEvent (st en : Fld) (src s : Nat) (d : Device) : Device :=
  evRaiseIf (d.rb en) src ((d.ru F.REDUN_STATUS_LAST_STREAM s).ru st 1)

/-- Number of zero bits of `h` among bits `lo` to `lo + n - 1`. -/
def zeroBits (h lo n : Nat) : Nat := (List.range n).foldl (fun c k => if bit h (lo + k) then c else c + 1) 0

/-- A frame passes recovery: counted, and the reset timer restarts. -/
def frerPass (s : Nat) (x : Stream) (d : Device) : Bool × Device :=
  (true, (d.setStream s { x with timer := some d.raw }).count (streamCnt s 0))

/-- The vector recovery algorithm on sequence number `q` (R307): whether the frame passes. -/
def frerVector (s q : Nat) (d : Device) : Bool × Device :=
  let x := d.stream s
  let h := d.rg F.REDUN_STREAM_RCVY_HISTORY_LEN s
  if x.takeAny then frerPass s { x with rcvySeq := q, history := 2 ^ h - 1, takeAny := false } d
  else
    let delta := signedOf 16 ((q + 65536 - x.rcvySeq) % 65536)
    if (h : Int) ≤ delta ∨ delta ≤ -(h : Int) then
      (false, streamEvent F.REDUN_STATUS_FRER_ROGUE F.REDUN_EVT_EN_FRER_ROGUE 377 s (d.count (streamCnt s 0x18)))
    else if delta ≤ 0 then
      let k := (-delta).toNat
      if bit x.history k then (false, d.count (streamCnt s 8))
      else frerPass s { x with history := x.history + 2 ^ k } (d.count (streamCnt s 0x10))
    else
      let k := delta.toNat
      let d := d.countIf (decide (1 < k)) (streamCnt s 0x10)
      let d := d.countN (streamCnt s 0x20) (zeroBits x.history (h - k) k)
      frerPass s { x with history := x.history * 2 ^ k % 2 ^ h ||| 1, rcvySeq := q } d

/-- The tick of a stream's reset timer has passed: TAKE_ANY, counted (R308). A frame of the stream at the very tick of the
expiry goes first, so the expiry acts from the next tick on. -/
def frerExpire (s : Nat) (d : Device) : Device :=
  match (d.stream s).timer with
  | none => d
  | some t =>
    if d.rg F.REDUN_STREAM_RCVY_RESET_US s * 800 < d.since t then
      streamEvent F.REDUN_STATUS_FRER_RESET F.REDUN_EVT_EN_FRER_RESET 378 s
        ((d.setStream s { d.stream s with takeAny := true, timer := none }).count (streamCnt s 0x30))
    else d

/-- Recovery of one frame of a RECOVER stream (R307), after an expiry at an earlier tick. -/
def frerRecover (s : Nat) (bs : Bytes) (d : Device) : Bool × Device :=
  let d := frerExpire s d
  match rtagSeq bs with
  | none => (d.rb F.REDUN_STREAM_CFG_TAKE_NO_SEQ s, d.count (streamCnt s 0x28))
  | some q => frerVector s q d

/-- TAKE_ANY is set without being counted (R311). -/
def frerTakeAny (s : Nat) (d : Device) : Device := d.setStream s { d.stream s with takeAny := true }

/-- A write of REDUN_STREAM_CFG, or of REDUN_STREAM_RCVY when `rcvy` holds (R311). -/
def streamCfgWrite (s : Nat) (rcvy : Bool) (v : Word) (d : Device) : Device :=
  let rec0 := d.rg F.REDUN_STREAM_CFG_RECOVER s
  let len0 := d.rg F.REDUN_STREAM_RCVY_HISTORY_LEN s
  let d := writeReg64 ((if rcvy then F.REDUN_STREAM_RCVY_RESET_US else F.REDUN_STREAM_CFG_TX_PORTS).addr s) v d
  if d.rg F.REDUN_STREAM_CFG_RECOVER s ≠ rec0 ∨ d.rg F.REDUN_STREAM_RCVY_HISTORY_LEN s ≠ len0 then frerTakeAny s d
  else d

/-- The ports of a TX_PORTS mask, ascending. -/
def txPorts (mask : Nat) : List Nat := (List.range 32).filter (fun p => bit mask p)

/-- Whether a frame of `n` bytes without FCS is too long with its R-TAG for some port of TX_PORTS (R306). -/
def genTooLong (s n : Nat) (d : Device) : Bool :=
  (txPorts (d.rg F.REDUN_STREAM_CFG_TX_PORTS s)).any (fun p => decide (d.rg F.PORT_FRAME_MAX_FRAME p < txLen n))

/-- A frame of a GENERATE stream is too long (R306). -/
def genRefuse (s : Nat) (d : Device) : Device :=
  streamEvent F.REDUN_STATUS_GEN_TOO_LONG F.REDUN_EVT_EN_GEN_TOO_LONG 379 s (d.count 0x82000)

/-! ### Verification (R299, R300) -/

/-- Whether frames of port `p`'s preemptable classes use the preemptable MAC (R293). -/
def peActive (p : Nat) (d : Device) : Bool := (d.port p).verify == .succeeded || (d.port p).verify == .notVerified

/-- The verify status becomes `v`, one of those that raise PE_VERIFY_CHANGE. -/
def peChange (p : Nat) (v : VerifySt) (d : Device) : Device :=
  let d := d.setPort p { d.port p with verify := v }
  evRaiseIf (d.rb F.REDUN_EVT_EN_PE_VERIFY_CHANGE) 376
    ((d.ru F.REDUN_PE_STATUS_CHANGED 1 p).ru F.REDUN_STATUS_PE_VERIFY_CHANGE 1)

/-- Whether the line of port `p` is free: no frame on it, and the gap after the last one over (R274). -/
def lineFree (p : Nat) (d : Device) : Bool :=
  (d.port p).now.isNone && decide ((d.port p).gapEnd.toNat ≤ d.raw.toNat)
    && (match (d.port p).own with | some o => decide (o.stop.toNat ≤ d.raw.toNat) | none => true)

/-- Port `p` starts no frame for `n` byte times: the inter-packet gap of 12 (R274), after an mCRC of 4 at the end of a
fragment. -/
def gapStart (p n : Nat) (d : Device) : Device :=
  d.setPort p { d.port p with gapEnd := d.raw + BitVec.ofNat 64 (byteTicks p n d) }

/-- A verify frame, or a respond frame when `resp` holds, takes the free line of port `p`, counted. -/
def mergeOut (p : Nat) (resp : Bool) (d : Device) : Device :=
  let d := (d.setPort p { d.port p with gapEnd := d.raw + BitVec.ofNat 64 (byteTicks p 84 d),
                                        mergeEnd := d.raw + BitVec.ofNat 64 (byteTicks p 72 d) }).count
    (peCnt p (if resp then 0x30 else 0x28))
  d.emit (if resp then .respond p else .verify p)

/-- A verify or respond frame becomes due: it leaves at once on a free line, else at the next start, as an express frame
(R292, R300). -/
def mergeSend (p : Nat) (resp : Bool) (d : Device) : Device :=
  if lineFree p d && (d.port p).mergeDue.isEmpty then mergeOut p resp d
  else d.setPort p { d.port p with mergeDue := (d.port p).mergeDue ++ [resp] }

/-- A verify frame is sent and the timer starts. -/
def peVerifySend (p : Nat) (d : Device) : Device :=
  mergeSend p false (d.setPort p { d.port p with verify := .verifying, verifyFrom := d.raw })

/-- The status becomes DISABLED or INITIAL, and leaves INITIAL at once in RUN (rows 1 to 5 of Table 10-2). -/
def peInitial (p : Nat) (d : Device) : Device :=
  let d := d.setPort p { d.port p with verifyReq := [] }
  if !d.rb F.REDUN_PE_CFG_ENABLE p then d.setPort p { d.port p with verify := .disabled }
  else
    let d := d.setPort p { d.port p with verify := .initial }
    if !d.portRun p then d
    else if d.rb F.REDUN_PE_CFG_VERIFY_DISABLE p then peChange p .notVerified d
    else peVerifySend p (d.ru F.REDUN_PE_STATUS_ATTEMPTS 1 p)

/-- A row of Table 10-2 takes effect. -/
def peApply (p : Nat) (r : VerifyReq) (d : Device) : Device :=
  match r with
  | .restart => if (d.port p).verify = .disabled then d else peInitial p d
  | .respond => if (d.port p).verify = .verifying then peChange p .succeeded d else d
  | .timeout =>
    if (d.port p).verify ≠ .verifying then d
    else if d.rg F.REDUN_PE_STATUS_ATTEMPTS p < d.rg F.REDUN_PE_CFG_VERIFY_LIMIT p then
      peVerifySend p (d.radd F.REDUN_PE_STATUS_ATTEMPTS 1 p)
    else peChange p .failed d

/-- The rows that waited for the frame in transmission take effect, the first in table order governing. -/
def peSettle (p : Nat) (d : Device) : Device :=
  let x := d.port p
  let own := match x.own with | some o => decide (d.raw.toNat < o.stop.toNat) | none => false
  if x.now.isSome || x.held.isSome || own || decide (d.raw.toNat < x.mergeEnd.toNat) then d
  else
    let reqs := x.verifyReq
    let d := d.setPort p { x with verifyReq := [] }
    if reqs.contains .restart then peApply p .restart d
    else if reqs.contains .respond then peApply p .respond d
    else if reqs.contains .timeout then peApply p .timeout d
    else d

/-- Own frames whose last bit has left by this tick, and the rows of Table 10-2 that waited for a frame to leave. -/
def linesDue (d : Device) : Device :=
  let d := ownDue d
  d.net.ports.foldl (fun d e => if (d.port e.1).verifyReq.isEmpty then d else peSettle e.1 d) d

/-- A row of Table 10-2 applies: at once, or when the frame in transmission has completed (R299). -/
def peRequest (p : Nat) (r : VerifyReq) (d : Device) : Device :=
  peSettle p (d.setPort p { d.port p with verifyReq := (d.port p).verifyReq ++ [r] })

/-- The verify timer of a VERIFYING port reaches VERIFY_TIME_MS. -/
def verifyTimeout (p : Nat) (d : Device) : Device :=
  if (d.port p).verify = .verifying
      ∧ d.passedNs (d.port p).verifyFrom (d.rg F.REDUN_PE_CFG_VERIFY_TIME_MS p * 1000000) = true then
    peRequest p .timeout d
  else d

/-- A write of REDUN_PE_CFG (R294, Table 10-2). -/
def peCfgWrite (p : Nat) (v : Word) (d : Device) : Device :=
  peRequest p .restart (writeReg64 (F.REDUN_PE_CFG_ENABLE.addr p) v d)

/-! ### Meanings -/

/-- VERIFY_TIMEOUT (R299). -/
def execVerifyTimeout (p : Nat) (s : State) : Host.Outcome State Fault Refusal := onDev (verifyTimeout p) s
/-- VERIFY_RESTART (R299). -/
def execVerifyRestart (p : Nat) (s : State) : Host.Outcome State Fault Refusal := onHost (peRequest p .restart) s
/-- PE_CFG_WRITE (R294). -/
def execPeCfgWrite (p : Nat) (v : Word) (s : State) : Host.Outcome State Fault Refusal := onHost (peCfgWrite p v) s
/-- FRER_RESET_TIMEOUT (R308). -/
def execFrerResetTimeout (i : Nat) (s : State) : Host.Outcome State Fault Refusal := onDev (frerExpire i) s
/-- STREAM_CFG_WRITE (R311). -/
def execStreamCfgWrite (i : Nat) (rcvy : Bool) (v : Word) (s : State) : Host.Outcome State Fault Refusal :=
  onHost (streamCfgWrite i rcvy v) s
/-- GEN_RESET (R305). -/
def execGenReset (i : Nat) (s : State) : Host.Outcome State Fault Refusal :=
  onHost (fun d => d.setStream i { d.stream i with gen := 0 }) s
/-- RCVY_RESET (R311). -/
def execRcvyReset (i : Nat) (s : State) : Host.Outcome State Fault Refusal := onHost (frerTakeAny i) s

end Sys2Proof.Machine
end

