-- ==== Sys2Proof/Machine/Helm.lean ====
section
/-!
DEFINITION. Helm (chapter 12) and what leaves a port from it: gates, guard bands, shapers, fair queuing and the service
order; one-step insertion and transmit checksums; fragments; timed launch; gate list changes; queue samples.
The choices it makes stand under notes/assumptions: 2 (DESIGN CHOICE), 7 (DESIGN CHOICE), 42 (DESIGN CHOICE), 43
(DEDUCED), 47 (PRESUMED), 48 (DEDUCED), 49 (DEDUCED), 50 (DEDUCED), 72 (DEDUCED), 83 (DEDUCED).
-/

namespace Sys2Proof.Machine

/-! ### Gates (R366, R370, R373) -/

/-- The entry in force at offset `pos` of a cycle: its number, STATES and the offset at which it ends. -/
def gateWalk (cycle pos : Nat) : Nat → Nat → List (Nat × Nat) → Nat × Nat × Nat
  | i, _, [] => (i, 0xFF, cycle)
  | i, _, [e] => (i, e.1, cycle)
  | i, off, e :: es =>
    if pos < off + e.2 then (i, e.1, min (off + e.2) cycle) else gateWalk cycle pos (i + 1) (off + e.2) es

/-- The entry of a list in force at time `t` ns: its number, STATES and the time at which it ends. -/
def gateAt (g : GateList) (t : Int) : Nat × Nat × Int :=
  let k := (t - g.base) / g.cycle
  let start := g.base + k * g.cycle
  let r := gateWalk g.cycle (t - start).toNat 0 0 g.entries
  (r.1, r.2.1, start + r.2.2)

/-- CT of a pending change, as the operational list's timebase reads when ADMIN_TB reaches it, in units of 2^-56 ns
(R41). -/
def changeOper (x : Port) (pd : GatePend) (d : Device) : Int := timeInUp (d.tb pd.list.tb) (d.tb x.oper.tb) (nsT pd.ct) d

/-- The cycle start from which the final entry of the operational list holds until its change at `ct` (R370). -/
def holdFrom (g : GateList) (ct : Int) : Option Int :=
  let s := g.base + (nsUp ct - 1 - g.base) / g.cycle * g.cycle
  if g.en ∧ ct - nsT s < nsT g.ext then some s else none

/-- The entry of the operational list `g` in force at time `t` ns before its change at `ct`: its number, STATES and the
time at which it ends, with the prolonged last cycle (R370). -/
def operAt (g : GateList) (ct t : Int) : Nat × Nat × Int :=
  let t := min t (nsUp ct - 1)
  let r := match holdFrom g ct with
    | some h => gateAt g (if h ≤ t then h - 1 else t)
    | none => gateAt g t
  let held := match holdFrom g ct with | some h => decide (h ≤ t) | none => false
  (r.1, r.2.1, if held then nsUp ct else min r.2.2 (nsUp ct))

/-- The gates of port `x` at time `t` ns of its operational timebase: entry, STATES and the time the entry ends, which is
absent while GATE_EN is 0. A change that is pending stops the list at CT (R370). -/
def portSeg (x : Port) (t : Int) (d : Device) : Nat × Nat × Option Int :=
  if !x.oper.en then (0, 0xFF, none)
  else
    let r := match x.pend with
      | none => gateAt x.oper t
      | some pd => operAt x.oper (changeOper x pd d) t
    (r.1, r.2.1, some r.2.2)

/-- STATES in force on a port; 0xFF while GATE_EN is 0. -/
def gateStates (x : Port) : Nat :=
  if x.oper.en then ((x.oper.entries[x.entry]?).getD (0xFF, 0)).1 else 0xFF

/-- From time `t`, the first time at which the gate of class `c` is closed in a list that runs on; none when it never
closes. `fuel` bounds the entries looked at. -/
def closeIn (g : GateList) (c : Nat) : Nat → Int → Option Int
  | 0, _ => none
  | fuel + 1, t =>
    if !g.en then none
    else
      let r := gateAt g t
      if !bit r.2.1 c then some t else closeIn g c fuel r.2.2

/-- From time `t`, the first time before `ct` at which the gate of class `c` is closed in a list that stops at `ct`. -/
def closeBefore (g : GateList) (c : Nat) (ct : Int) : Nat → Int → Option Int
  | 0, _ => none
  | fuel + 1, t =>
    if nsUp ct ≤ t then none
    else
      let r := operAt g ct t
      if !bit r.2.1 c then some t else closeBefore g c ct fuel r.2.2

/-- The next close of class `c` (R373), the gate being open now, in units of 2^-56 ns of the operational timebase; no
class has one while the operational GATE_EN is 0 (R366). -/
def nextClose (x : Port) (c : Nat) (d : Device) : Option Int :=
  if !x.oper.en then none
  else
    let n := 2 * x.oper.entries.length + 4
    match x.pend with
    | none => (closeIn x.oper c n x.entryEnd).map nsT
    | some pd =>
      let ct := changeOper x pd d
      match closeBefore x.oper c ct n (min x.entryEnd (nsUp ct)) with
      | some t => some (nsT t)
      | none =>
        (closeIn pd.list c (2 * pd.list.entries.length + 4) pd.ct).map fun t =>
          timeInUp (d.tb pd.list.tb) (d.tb x.oper.tb) (nsT t) d

/-- The present time of timebase selector `tb`, in whole ns towards the lower value. -/
def nowNs (tb : Nat) (d : Device) : Int := d.now (d.tb tb) / 2 ^ 56

/-- The minimum fragment span of a port in ns (R296). -/
def fragSpan (p : Nat) (d : Device) : Nat :=
  let r := d.rate p
  ((64 * d.rg F.REDUN_PE_CFG_ADD_FRAG_SIZE p + 143) * 8 + r - 1) / r

/-- Whether class `c` of port `p` uses the preemptable MAC now (R292, R293). -/
def classPe (p c : Nat) (d : Device) : Bool := peActive p d && bit (d.rg F.REDUN_PE_CFG_PREEMPTABLE p) c

/-- Whether a queued frame of class `c` leaves by the preemptable MAC: stamped and timed frames never do (R292). -/
def framePe (p c : Nat) (f : TxFrame) (d : Device) : Bool :=
  classPe p c d && (match f.ctx with | some x => !x.launch && x.stampOp == 0 | none => true)

/-- The guard band in ns of class `c` for a frame of either kind (R374 to R376). -/
def guardBand (p c : Nat) (pe : Bool) (d : Device) : Nat :=
  if pe then fragSpan p d else d.wire p (d.rg F.HELM_CLASS_CFG_MAX_FRAME p c)

/-- Whether the gate of class `c` is open now. -/
def gateOpen (p c : Nat) (d : Device) : Bool := bit (gateStates (d.port p)) c

/-- Whether the present time lies in the guard band of class `c`. -/
def inGuard (p c : Nat) (pe : Bool) (d : Device) : Bool :=
  match nextClose (d.port p) c d with
  | none => false
  | some cl => decide (cl - nsT (guardBand p c pe d) ≤ d.now (d.tb (d.port p).oper.tb))

/-- The entries of one cycle as they run: STATES and duration. -/
def cycleRuns (g : GateList) : Nat → List (Nat × Nat) → List (Nat × Nat)
  | _, [] => []
  | off, [e] => if off < g.cycle then [(e.1, g.cycle - off)] else []
  | off, e :: es => if off < g.cycle then (e.1, min e.2 (g.cycle - off)) :: cycleRuns g (off + e.2) es else []

/-- The longest run of consecutive open entries of class `c`: the run in progress and the longest so far. -/
def longestRun (c : Nat) : Nat → Nat → List (Nat × Nat) → Nat
  | _, best, [] => best
  | run, best, e :: es =>
    if bit e.1 c then longestRun c (run + e.2) (max best (run + e.2)) es else longestRun c 0 best es

/-- Whether a frame of class `c` is unsendable under list `g` (R358). -/
def unsendable (p c : Nat) (pe : Bool) (g : GateList) (d : Device) : Bool :=
  if !g.en then false
  else
    let runs := cycleRuns g 0 g.entries
    if runs.all (fun e => bit e.1 c) then false
    else decide (longestRun c 0 0 (runs ++ runs) ≤ guardBand p c pe d)

/-- Whether class `c` has no window at all under list `g`. -/
def noWindow (c : Nat) (g : GateList) : Bool := g.en && (cycleRuns g 0 g.entries).all (fun e => !bit e.1 c)

/-- The gates take the states of the entry in force at the present time. -/
def gateLoad (p : Nat) (d : Device) : Device :=
  let x := d.port p
  if x.oper.en then
    let r := portSeg x (nowNs x.oper.tb d) d
    d.setPort p { x with entry := r.1, entryEnd := r.2.2.getD 0 }
  else d.setPort p { x with entry := 0, entryEnd := 0 }

/-! ### Shapers and packet meters (R346, R363) -/

/-- One packet in token units. -/
def packetTok : Nat := 2 ^ 32 * 390625

/-- Tokens after an accrual over `u` units of 2^-16 tick at `rate` packets per second, held to `burst` packets. -/
def tokAccrue (burst rate : Nat) (tokens : Int) (u : Nat) : Int :=
  min ((burst * packetTok : Nat) : Int) (tokens + (rate * u * 2 ^ 5 : Nat))

/-- A token count in units of 2^-16 packet, truncated. -/
def tokRead (t : Int) : Int := t.tdiv (2 ^ 16 * 390625)

/-- Class `c` of port `p`. -/
def Device.cls (d : Device) (p c : Nat) : ClassQ := tabGet {} (d.port p).classes c
/-- Class `c` of port `p` replaced. -/
def Device.setCls (d : Device) (p c : Nat) (x : ClassQ) : Device :=
  d.setPort p { d.port p with classes := tabSet {} (d.port p).classes c x }

/-- The shaper's tokens at the present tick. -/
def shaperTokens (p c : Nat) (d : Device) : Int :=
  let q := d.cls p c
  tokAccrue (d.rg F.HELM_SHAPER_CFG_BURST p c) (d.rg F.HELM_SHAPER_CFG_RATE p c) q.tokens (d.since q.last * 65536)

/-- Whether the shaper of a class lets a frame start. -/
def shaperOpen (p c : Nat) (d : Device) : Bool :=
  !d.rb F.HELM_SHAPER_CFG_ENABLE p c || decide (0 < shaperTokens p c d)

/-- A frame's first fragment takes its token. -/
def shaperTake (p c : Nat) (d : Device) : Device :=
  if d.rb F.HELM_SHAPER_CFG_ENABLE p c then
    d.setCls p c { d.cls p c with tokens := shaperTokens p c d - packetTok, last := d.raw }
  else d

/-- SHAPER_CFG_WRITE (R364). -/
def shaperCfgWrite (p c : Nat) (v : Word) (d : Device) : Device :=
  let d := writeReg64 (F.HELM_SHAPER_CFG_ENABLE.addr p c) v d
  d.setCls p c { d.cls p c with tokens := 0, last := d.raw }

/-- Meter `m`. -/
def Device.meter (d : Device) (m : Nat) : Meter := tabGet {} d.compass.meters m
/-- Meter `m` replaced. -/
def Device.setMeter (d : Device) (m : Nat) (x : Meter) : Device :=
  { d with compass.meters := tabSet {} d.compass.meters m x }

/-- A stamp in units of 2^-16 tick. -/
def stampUnits (r : Stamp) : Nat := r.count.toNat * 65536 + r.frac.toNat

/-- A frame presented to meter `m` with stamp `r` (R346): whether it passes. A disabled meter passes every frame and
takes no token. DEDUCED: a stamp earlier than that of the last update accrues nothing and leaves the later one in place,
so that no span of time accrues twice. -/
def meterPass (m : Nat) (r : Stamp) (d : Device) : Bool × Device :=
  if !d.rb F.COMPASS_METER_CFG_ENABLE m then (true, d.count (0x91000 + 0x10 * m))
  else
    let x := d.meter m
    let t := (tokAccrue (d.rg F.COMPASS_METER_CFG_BURST m) (d.rg F.COMPASS_METER_CFG_RATE m) x.tokens
      (stampUnits r - stampUnits x.last)).toNat
    let last := if stampUnits x.last ≤ stampUnits r then r else x.last
    if packetTok ≤ t then (true, (d.setMeter m { tokens := t - packetTok, last := last }).count (0x91000 + 0x10 * m))
    else (false, (d.setMeter m { tokens := t, last := last }).count (0x91008 + 0x10 * m))

/-! ### Fair queuing (R360) -/

/-- Whether tag `a` comes before tag `b`, by their difference modulo 2^48 read as signed. -/
def tagBefore (a b : Nat) : Bool := decide (signedOf 48 ((a + 2 ^ 48 - b) % 2 ^ 48) < 0)

/-- The backlogged flow with the smallest start tag; ties go to the lowest flow number. -/
def sfqFlow (q : ClassQ) : Option Nat :=
  q.frames.foldl (fun best f =>
    match best with
    | none => some f.flow
    | some g =>
      let a := tabGet 0 q.start f.flow
      let b := tabGet 0 q.start g
      if tagBefore a b || (a == b && decide (f.flow < g)) then some f.flow else best) none

/-- The head frame of a class. -/
def sfqHead (q : ClassQ) : Option TxFrame :=
  match sfqFlow q with
  | none => none
  | some f => q.frames.find? (fun x => x.flow == f)

/-- A frame appended to its flow. -/
def sfqPush (q : ClassQ) (f : TxFrame) : ClassQ :=
  { q with frames := q.frames ++ [f],
           start := if q.frames.any (fun x => x.flow == f.flow) then q.start else tabSet 0 q.start f.flow q.v }

/-- The list without the first frame of flow `f`. -/
def dropFlow (f : Nat) : List TxFrame → List TxFrame
  | [] => []
  | x :: xs => if x.flow = f then xs else x :: dropFlow f xs

/-- The head frame of flow `f` leaves the queue to start. -/
def sfqPop (q : ClassQ) (f weight : Nat) : ClassQ :=
  let s := tabGet 0 q.start f
  { q with v := s, start := tabSet 0 q.start f ((s + 2 ^ 24 / max 1 weight) % 2 ^ 48), frames := dropFlow f q.frames }

/-- Bytes queued in a class. -/
def classBytes (q : ClassQ) : Nat := q.frames.foldl (fun n f => n + txLen f.bytes.length) 0

/-- COUNT offset of Helm counter `k` of a class (Table 12-6). -/
def helmCnt (p c k : Nat) : Nat := 0xA0000 + 0x400 * p + 0x80 * c + k

/-- A Helm event with its port (R381). -/
def helmEvent (st en : Fld) (src p : Nat) (d : Device) : Device :=
  evRaiseIf (d.rb en) src ((d.ru F.HELM_STATUS_LAST_PORT p).ru st 1)

/-! ### Transmit checksums and one-step insertion (R235 to R237, R278) -/

/-- The IPv4 header checksum written; none when the frame cannot take it. -/
def csumL3 (bs : Bytes) : Option Bytes :=
  match ipParse bs with
  | some p =>
    if p.v6 || p.noL4 || decide (bs.length < p.l4) then none
    else
      let z := patch bs (p.ip + 10) [0, 0]
      some (patch bs (p.ip + 10) (beBytes 2 (0xFFFF - fold16 (sum16 (slice z p.ip (p.l4 - p.ip))))))
  | none => none

/-- The TCP or UDP checksum written; none when the frame cannot take it. -/
def csumL4 (bs : Bytes) : Option Bytes :=
  match ipParse bs with
  | some p =>
    if p.noL4 || !l4Checkable p || lenConflict bs p then none
    else
      let c := 0xFFFF - fold16 (l4Sum (patch bs (l4CsumAt p) [0, 0]) p)
      some (patch bs (l4CsumAt p) (beBytes 2 (if c = 0 ∧ p.proto = 17 then 0xFFFF else c)))
  | none => none

/-- Whether any of `n` bytes at offset `o` lies within a TCP or UDP payload that carries a checksum to recompute. -/
def inL4Payload (bs : Bytes) (o n : Nat) : Bool :=
  match ipParse bs with
  | some p =>
    let hdr := if p.proto = 6 then beField bs (p.l4 + 12) 1 / 16 * 4 else 8
    l4Checkable p && !p.noL4 && decide (p.l4 + hdr < o + n ∧ o < p.stop)
      && !(p.proto == 17 && !p.v6 && beField bs (l4CsumAt p) 2 == 0)
  | none => false

/-- Whether one of the byte ranges `rs`, each an offset and a length, reaches into the `n` bytes at offset `o`. -/
def reaches (rs : List (Nat × Nat)) (o n : Nat) : Bool := rs.any fun r => decide (r.1 < o + n ∧ o < r.1 + r.2)

/-- HCRC and DCRC of a Garvane frame replaced after bytes of its header or of its ACYCLIC DATA were inserted (R237). -/
def gvRepair (bs : Bytes) (rs : List (Nat × Nat)) (et : Nat) : Bytes :=
  let e := ethParse bs
  let pdu := bs.drop e.off
  let n := gvHeaderLen (gvParse pdu).kind
  let len := beField pdu 18 2
  if e.etype ≠ et ∨ n = 0 ∨ pdu.length < n then bs
  else
    let b := if reaches rs e.off n then patch bs (e.off + n - 2) (beBytes 2 (crc16 (pdu.take (n - 2)))) else bs
    if (gvParse pdu).kind = 5 ∧ reaches rs (e.off + 22) len = true ∧ 24 + len ≤ pdu.length then
      patch b (e.off + 22 + len) (beBytes 2 (crc16 (slice pdu 22 len)))
    else b

/-- A signed 64-bit field at offset `o` plus `v`; none when the sum overflows. -/
def addField64 (bs : Bytes) (o : Nat) (v : Int) : Option Bytes :=
  let s := signedOf 64 (beField bs o 8) + v
  if -(2 ^ 63 : Int) ≤ s ∧ s < 2 ^ 63 then some (patch bs o (beBytes 8 (unsignedOf 64 s))) else none

/-- As much of `new` as lies within the frame, written at offset `o`. -/
def patchIn (bs : Bytes) (o : Nat) (new : Bytes) : Bytes := (patch bs o new).take bs.length

/-- The requested time or correction written into the frame (R235, R236). A correction field that overflows under
INSERT_TIME80, or that reaches past the frame's end, takes a free value: the spec states no sum for it. -/
def insertTime (x : SendCtx) (r : Stamp) (bs : Bytes) (d : Device) : Bytes × Device :=
  let t := d.timeAt (d.tb x.tb) r
  match x.stampOp with
  | 1 =>
    let b := patchIn bs x.stampOffset (beBytes 6 (timeSecs t) ++ beBytes 4 (timeNanos t))
    if x.corrOffset = 0 then (b, d)
    else
      match if x.corrOffset + 8 ≤ b.length then addField64 b x.corrOffset (timeFrac t : Nat) else none with
      | some b' => (b', d)
      | none =>
        let f := d.free
        (patchIn b x.corrOffset (beBytes 8 f.1.toNat), f.2)
  | 2 => (patchIn bs x.stampOffset (timeBytes96 t), d)
  | 3 =>
    let diff := timeU16 t - timeU16 (d.timeAtKept (d.tb x.tb) x.refRaw)
    let big : Bool := decide (2 ^ 63 ≤ diff ∨ diff ≤ -(2 ^ 63))
    (patchIn bs x.stampOffset (slice ((if big then none else addField64 bs x.stampOffset diff).getD
      (patch bs x.stampOffset (beBytes 8 0x7FFFFFFFFFFFFFFF))) x.stampOffset 8), d)
  | _ => (bs, d)

/-- The byte ranges that a stamp request writes: the time field at STAMP_OFFSET, and the correction field at
CORR_OFFSET. -/
def stampRanges (x : SendCtx) : List (Nat × Nat) :=
  match x.stampOp with
  | 1 => (x.stampOffset, 10) :: (if x.corrOffset = 0 then [] else [(x.corrOffset, 8)])
  | 2 => [(x.stampOffset, 12)]
  | 3 => [(x.stampOffset, 8)]
  | _ => []

/-- The frame as it leaves, with FCS: insertion, checksums once over the result, repair, padding; and the skipped
checksums as bits 1 and 0. -/
def txFinal (f : TxFrame) (r : Stamp) (d : Device) : Bytes × Nat × Device :=
  let fin := fun (b : Bytes) => if f.bad then withBadFcs b else withFcs b
  match f.ctx with
  | none => (fin f.bytes, 0, d)
  | some x =>
    let ins := insertTime x r f.bytes d
    let d := ins.2
    let b := ins.1
    let rs := stampRanges x
    let l3 := if x.csumL3 then csumL3 b else some b
    let b := l3.getD b
    let l4 := if x.csumL4 then csumL4 b
      else if rs.any fun g => inL4Payload b g.1 g.2 then some ((csumL4 b).getD b) else some b
    let b := gvRepair (l4.getD b) rs d.netCfg.etherType
    (fin b, flagBit l4.isNone 1 + flagBit l3.isNone 0, d)

/-! ### Timed launch (R251 to R254) -/

/-- The time of timebase X at which `t` ns of selector `tb` is reached, by the sets now in force. -/
def launchX (tb : Nat) (t : Int) (d : Device) : Int := timeIn (d.tb tb) .x (nsT t) d

/-- Whether port `p` carries the device's own FIX or COLDSTART frames now (R201). -/
def fixSends (p : Nat) (d : Device) : Bool :=
  bit (d.rg F.FIX_TX_PORTS) p && d.st != .dormant &&
    (match d.fix.st with | .coldstarting | .integrating | .synchronised | .lostFix => true | _ => false)

/-- Crossing number that the crossing clock reads. -/
def clockCrossing (d : Device) : Int := d.xNow / nsT (d.rg F.CROSS_PERIOD_PERIOD_NS)

/-- Length of an own uplink frame with a PDU of `n` bytes, with its chart tags and the FCS (R70). -/
def ownLen (p n : Nat) (d : Device) : Nat := max 64 (18 + 4 * (tabGet [] d.netCfg.uplinkTags p).length + n)

/-- The own frames still scheduled on port `p` about the crossing-clock time `x`: launch time and length. A FIX frame is
scheduled in the crossing in progress and in each later one from the first with FIX frames on, until it is sent (R201);
the COLDSTART of crossing 0 until it is sent (R214). -/
def fixPlans (p : Nat) (x : Int) (d : Device) : List (Int × Nat) :=
  let period := nsT (d.rg F.CROSS_PERIOD_PERIOD_NS)
  let offset := nsT (d.rg F.FIX_CFG_TX_OFFSET)
  if fixSends p d ∧ period ≠ 0 then
    let n := x / period
    let first : Nat := max d.fix.from_ (max (d.cross.current.getD 0)
      (match tabGet none d.fix.sent p with | some k => k + 1 | none => 0))
    (([n - 1, n, n + 1].filter fun k => decide ((first : Int) ≤ k)).map fun k => (k * period + offset, ownLen p 44 d))
      ++ (if d.fix.csDue.contains p then [(offset, ownLen p 32 d)] else [])
  else []

/-- Whether the span from `t` for `w` in timebase `m` overlaps the span from `u` for `v` in timebase `n`, both half-open
and compared exactly (R40, R41). -/
def spansMeet (m : Dom) (t w : Int) (n : Dom) (u v : Int) (d : Device) : Bool :=
  decide (t < timeInUp n m (u + v) d ∧ timeIn n m u d < t + w)

/-- Whether a timed frame's span on port `p` overlaps an own frame or an earlier timed frame (R252, case 4). -/
def timedClash (p : Nat) (x : SendCtx) (len : Nat) (d : Device) : Bool :=
  let m := d.tb x.tb
  let t := nsT x.launchTime
  let w := nsT (d.wire p len)
  (fixPlans p (launchX x.tb x.launchTime d) d).any (fun q => spansMeet m t w .x q.1 (nsT (d.wire p q.2)) d)
    || (d.port p).launch.any (fun g =>
      match g.ctx with
      | some y => spansMeet m t w (d.tb y.tb) (nsT y.launchTime) (nsT (d.wire p (txLen g.bytes.length))) d
      | none => false)

/-- A timed frame completes with LAUNCH_TIME_PAST. -/
def timedPast (p : Nat) (f : TxFrame) (d : Device) : Device :=
  evRaise 47 (frameRefuse f 0x07 (d.count (stampCnt p 0x18)))

/-- A timed frame completes with LAUNCH_NOT_PERMITTED. -/
def timedForbid (p : Nat) (f : TxFrame) (d : Device) : Device := frameRefuse f 0x06 (d.count (stampCnt p 0x10))

/-- A timed frame placed in a launch list in order of its launch time. -/
def listInsert (d : Device) (f : TxFrame) (t : Int) : List TxFrame → List TxFrame
  | [] => [f]
  | g :: gs =>
    match g.ctx with
    | some y => if t < launchX y.tb y.launchTime d then f :: g :: gs else g :: listInsert d f t gs
    | none => g :: listInsert d f t gs

/-- A copy of a numbered frame has been enqueued: GENERATED counts the frame with its first copy (R306). -/
def genCount (f : TxFrame) (d : Device) : Device :=
  match f.gen with
  | none => d
  | some k =>
    match tabGet none d.net.gens k with
    | none => d
    | some s => ({ d with net.gens := tabSet none d.net.gens k none }).count (streamCnt s 0x38)

/-- A timed frame for which the launch list of port `p` has room: listed, or completed with LAUNCH_TIME_PAST. -/
def timedList (p : Nat) (f : TxFrame) (x : SendCtx) (d : Device) : Device :=
  if nsT x.launchTime ≤ d.now (d.tb x.tb) ∨ timedClash p x (txLen f.bytes.length) d = true then timedPast p f d
  else
    logSlack 5 (slackX (launchX x.tb x.launchTime d - nsT (d.rg F.CROSS_MARGINS_READY_MARGIN)) d.raw d)
      (genCount f (d.setPort p { d.port p with launch := listInsert d f (launchX x.tb x.launchTime d) (d.port p).launch }))

/-- A timed frame arrives at its port: refused, listed, or put at the head of its class while the list is full, after the
timed frames that wait already (R253). -/
def timedArrive (p c : Nat) (f : TxFrame) (x : SendCtx) (d : Device) : Device :=
  if !d.portRun p then linkDownDiscard p f d
  else if (d.port p).launch.length < 64 ∧ (d.port p).waits = [] then timedList p f x d
  else if nsT x.launchTime ≤ d.now (d.tb x.tb) then timedPast p f d
  else genCount f (d.setPort p { d.port p with waits := (d.port p).waits ++ [(c, { f with queuedAt := d.raw })] })

/-! ### Enqueue (Table 12-2) -/

/-- Check 2: whether the operational list of port `p` can carry a frame of class `c` (R358). -/
def helmSendable (p c : Nat) (f : TxFrame) (d : Device) : Bool :=
  !unsendable p c (framePe p c f d) (d.port p).oper d

/-- A frame goes as unsendable, counted at `off`: its entry completes with UNSENDABLE, or HELM_UNSENDABLE is raised. -/
def helmUnsendable (p off : Nat) (f : TxFrame) (d : Device) : Device :=
  let d := frameRefuse f 0x0A (d.count off)
  if f.job.isSome then d else helmEvent F.HELM_STATUS_UNSENDABLE F.HELM_EVT_EN_UNSENDABLE 338 p d

/-- A frame whose checks 1 to 3 passed enters its class, or waits or is dropped for lack of room (check 4). The
result says whether it was queued. -/
def helmRoom (p c : Nat) (f : TxFrame) (d : Device) : Bool × Device :=
  if !d.portRun p then (false, linkDownDiscard p f d)
  else if classBytes (d.cls p c) + txLen f.bytes.length ≤ d.rg F.HELM_CLASS_CFG_QLIMIT p c * 256 then
    (true, genCount f (d.setCls p c (sfqPush (d.cls p c) { f with queuedAt := d.raw })))
  else if f.job.isSome then (false, { d with net.offers := d.net.offers ++ [{ port := p, cls := c, frame := f }] })
  else (false, helmEvent F.HELM_STATUS_TAIL_DROP F.HELM_EVT_EN_TAIL_DROP 339 p
    (frameRefuse f 0 (d.count (helmCnt p c 0x30))))

/-- A frame offered to class `c` of port `p` (R357): whether it was queued or listed. A timed frame enters no class;
checks 1 and 3 apply to it. -/
def helmOffer (p c : Nat) (f : TxFrame) (d : Device) : Bool × Device :=
  let timed : Option SendCtx := match f.ctx with | some x => if x.launch then some x else none | none => none
  if d.rg F.HELM_CLASS_CFG_MAX_FRAME p c < txLen f.bytes.length then
    (false, frameRefuse f 0x05 (d.count (helmCnt p c 0x18)))
  else if timed.isNone && !helmSendable p c f d then (false, helmUnsendable p (helmCnt p c 0x20) f d)
  else
    let m := if f.job.isSome ∧ d.rb F.HELM_FLOW_CFG_METER_VALID f.flow = true then
        meterPass (d.rg F.HELM_FLOW_CFG_METER f.flow) d.nowStamp d
      else (true, d)
    if !m.1 then (false, frameRefuse f 0x0B (m.2.count (helmCnt p c 0x28)))
    else
      match timed with
      | some x => (true, timedArrive p c f x m.2)
      | none => helmRoom p c f m.2

/-- A frame that waited for room is offered again: the list may have changed meanwhile, so check 2 comes again. -/
def helmAgain (o : Offer) (d : Device) : Device :=
  if helmSendable o.port o.cls o.frame d then (helmRoom o.port o.cls o.frame d).2
  else helmUnsendable o.port (helmCnt o.port o.cls 0x20) o.frame d

/-- Frames that wait for room in their class are offered again, in order; each stays waiting when there is none. -/
def helmRetry (d : Device) : Device :=
  if d.net.offers.isEmpty then d
  else fetchAll (d.net.offers.foldl (fun d o => helmAgain o d) { d with net.offers := [] })

/-- Whether a port may take frames through Helm: an uplink (R352) that is not absorbed into another (R332). -/
def egressOk (p : Nat) (d : Device) : Bool := d.isUplink p && !d.rb F.PORT_MODE_ABSORBED p

/-- A frame of a GENERATE stream: numbered, tagged and offered to every port of TX_PORTS (R305, R306) that has Helm
classes (R352). `mk` makes the copies from their number; `refuse` handles a frame that is too long, `idle` one that no
port takes. The result says whether a copy was queued. -/
def helmReplicate (s c : Nat) (bytes : Bytes) (mk : Nat → Device → TxFrame × Device) (refuse idle : Device → Device)
    (d : Device) : Bool × Device :=
  let x := d.stream s
  let tagged := rtagInsert bytes x.gen
  let ports := (txPorts (d.rg F.REDUN_STREAM_CFG_TX_PORTS s)).filter (fun p => egressOk p d)
  if genTooLong s tagged.length d then (false, refuse (genRefuse s d))
  else if ports = [] then (false, idle d)
  else
    let d := d.setStream s { x with gen := (x.gen + 1) % 65536 }
    let k := d.net.nextId
    let d := { d with net.nextId := k + 1, net.gens := tabSet none d.net.gens k (some s) }
    let m := mk ports.length d
    ports.foldl (fun (a : Bool × Device) p =>
      let o := helmOffer p c { m.1 with bytes := tagged, gen := some k } a.2
      (a.1 || o.1, o.2)) (false, m.2)

/-! ### Eligibility and the service order (R353, R354) -/

/-- Whether the partner has paused class `c` (R282). -/
def classPaused (p c : Nat) (d : Device) : Bool :=
  match tabGet none (d.port p).pauseEnd c with
  | none => false
  | some e => decide (d.raw.toNat < e.toNat)

/-- Whether the shedding ladder defers class `c` (R365). -/
def classDeferred (p c : Nat) (d : Device) : Bool := decide (2 ≤ d.rung) && d.rb F.HELM_CLASS_CFG_BEST_EFFORT p c

/-- Whether a wire span of `len` bytes from now reaches the launch of a scheduled own frame or a listed timed frame
(condition 6): an own frame that is due now, or a timed frame whose time has come, is reached by any. -/
def reachesLaunch (p len : Nat) (d : Device) : Bool :=
  let x := d.xNow
  let stop := x + nsT (d.wire p len)
  (fixPlans p x d).any (fun t => decide (x - nsT 2 < t.1 ∧ t.1 < stop))
    || (d.port p).launch.any (fun g =>
      match g.ctx with
      | some y => decide (launchX y.tb y.launchTime d < stop)
      | none => false)

/-- Conditions 2, 4, 5 and 6 for `len` bytes of class `c`. -/
def classMay (p c : Nat) (pe : Bool) (len : Nat) (d : Device) : Bool :=
  gateOpen p c d && !inGuard p c pe d && !classPaused p c d && !classDeferred p c d && !reachesLaunch p len d

/-- The head frame of class `c` when the class is eligible; a timed frame that waits for its list holds the class. -/
def eligible (p c : Nat) (d : Device) : Option TxFrame :=
  match sfqHead (d.cls p c) with
  | none => none
  | some f =>
    if (d.port p).waits.any (fun w => w.1 == c) then none
    else if classMay p c (framePe p c f d) (txLen f.bytes.length) d && shaperOpen p c d then some f
    else none

/-- The highest-numbered class whose eligible head frame is express, or preemptable when `pe` holds. -/
def pickClass (p : Nat) (pe : Bool) (d : Device) : Option (Nat × TxFrame) :=
  (List.range 8).foldl (fun best c =>
    match eligible p c d with
    | some f => if framePe p c f d = pe then some (c, f) else best
    | none => best) none

/-- Whether the rest of the pre-empted frame of port `p` may resume. -/
def heldMay (p : Nat) (d : Device) : Option TxNow :=
  match (d.port p).held with
  | none => none
  | some t =>
    match t.cls with
    | none => none
    | some c => if classMay p c true (t.bytes.length - t.sent) d then some t else none

/-- Heads of classes that stand in their guard band are counted under GUARD_WAITS, once each. -/
def guardWaits (p : Nat) (d : Device) : Device :=
  (List.range 8).foldl (fun d c =>
    let q := d.cls p c
    match sfqHead q with
    | some f =>
      if !f.waited && gateOpen p c d && inGuard p c (framePe p c f d) d then
        (d.setCls p c { q with frames := { f with waited := true } :: dropFlow f.flow q.frames }).count
          (helmCnt p c 0x10)
      else d
    | none => d) d

/-- Timed frames that wait for the launch list of port `p` enter it while it has room; `fuel` bounds the loop. -/
def refillAux (p : Nat) : Nat → Device → Device
  | 0, d => d
  | fuel + 1, d =>
    match (d.port p).waits with
    | [] => d
    | w :: rest =>
      if (d.port p).launch.length < 64 then
        let d := d.setPort p { d.port p with waits := rest }
        refillAux p fuel (match w.2.ctx with | some x => timedList p w.2 x d | none => d)
      else d

/-- Timed frames that waited for the launch list of port `p` enter it, in fetch order (R253). -/
def refill (p : Nat) (d : Device) : Device := refillAux p (d.port p).waits.length d

/-- A class frame starts on port `p` with the transmit stamp `r`. -/
def startClass (p c : Nat) (f : TxFrame) (r : Stamp) (d : Device) : Device :=
  let d := shaperTake p c (d.setCls p c (sfqPop (d.cls p c) f.flow (d.rg F.HELM_FLOW_CFG_WEIGHT f.flow)))
  let pe := framePe p c f d
  let b := txFinal f r d
  let d := b.2.2
  helmRetry (d.setPort p { d.port p with
    now := some { frame := f, cls := some c, pe := pe, bytes := b.1, stamp := r, from_ := r, skips := b.2.1 } })

/-- Rows 3 to 5 of Table 12-1: a class frame starts, or the rest of the pre-empted one resumes. -/
def startFromClasses (p : Nat) (r : Stamp) (d : Device) : Device :=
  let d := guardWaits p d
  match pickClass p false d with
  | some (c, f) => startClass p c f r d
  | none =>
    match (d.port p).held with
    | some _ =>
      match heldMay p d with
      | some t => d.setPort p { d.port p with held := none, now := some { t with from_ := r } }
      | none => d
    | none =>
      match pickClass p true d with
      | some (c, f) => startClass p c f r d
      | none => d

/-- FRAME_TX_START (R353): on a free line the port starts the first row of Table 12-1 that applies. Rows 1 are
TIMED_LAUNCH, FIX_FRAME_SEND and COLDSTART_SEND. DEDUCED: a due verify or respond frame, which Table 12-1 does not
place, comes first. -/
def frameTxStart (p : Nat) (island : Stamp) (bitPos : Nat) (d : Device) : Device :=
  if !d.portRun p || !lineFree p d then d
  else
    let d := peSettle p (ownDone p d)
    let r := txStamp p island bitPos d
    let x := d.port p
    match x.mergeDue, x.ctrlDue with
    | resp :: rest, _ =>
      if !reachesLaunch p 64 d then mergeOut p resp (d.setPort p { x with mergeDue := rest })
      else d
    | [], b :: rest =>
      if !reachesLaunch p (txLen b.length) d then
        let t : TxNow := { frame := { bytes := b, flow := 0 }, cls := none, bytes := withFcs b, stamp := r, from_ := r }
        d.setPort p { x with ctrlDue := rest, now := some t }
      else if d.isUplink p then startFromClasses p r d else d
    | [], [] => if d.isUplink p then startFromClasses p r d else d

/-- The stamp record of a frame that asked for one; bit 2 of the result when it was dropped. -/
def txRecord (p : Nat) (t : TxNow) (d : Device) : Nat × Device :=
  match t.frame.ctx with
  | some x =>
    if x.record then (if strecUsed d = 4096 then 4 else 0, strecWrite 1 p x.tag t.stamp d) else (0, d)
  | none => (0, d)

/-! ### Pre-emption (R295, R375) -/

/-- Bytes of the frame `t` that have left port `p` at `frac` 2^-16 ticks into this tick, those of earlier fragments among
them. -/
def sentBytes (p : Nat) (t : TxNow) (frac : Nat) (d : Device) : Nat := t.sent + bytesOut p t.from_ d frac

/-- How many bytes of `t` have left when its fragment may end first, at `frac` 2^-16 ticks into this tick or later in it
(R295); none when no such byte leaves in this tick. What made the port pre-empt it may stand since before the tick. -/
def fragAt (p : Nat) (t : TxNow) (frac : Nat) (d : Device) : Option Nat :=
  let k := max (sentBytes p t (if t.due then 0 else frac) d) (t.sent + (64 * (1 + d.rg F.REDUN_PE_CFG_ADD_FRAG_SIZE p) - 4))
  if t.pe ∧ k ≤ sentBytes p t 65535 d ∧ k + 64 ≤ t.bytes.length then some k else none

/-- A pre-empted frame whose class has no window any more is abandoned (R372). -/
def abandonHeld (p : Nat) (d : Device) : Device :=
  match (d.port p).held with
  | some t =>
    match t.cls with
    | some c =>
      if noWindow c (d.port p).oper then
        peSettle p (helmUnsendable p (helmCnt p c 0x38) t.frame (d.setPort p { d.port p with held := none }))
      else d
    | none => d
  | none => d

/-- The fragment in progress ends after `sent` bytes of the frame, with its mCRC; a frame that a new list has left without
a window goes on no more (R372). -/
def fragEnd (p : Nat) (t : TxNow) (sent : Nat) (d : Device) : Device :=
  let held := some { t with sent := sent, due := false }
  let d := gapStart p 16 (d.setPort p { d.port p with now := none, held := held })
  abandonHeld p ((d.count (peCnt p 0x20)).emit (.fragment p sent))

/-- Whether an express frame is ready for port `p` (R292): a due verify, respond, PAUSE or PFC frame, an eligible express
head frame, or a launch that the rest of `n` bytes of the frame on the line would reach. -/
def expressReady (p n : Nat) (d : Device) : Bool :=
  !(d.port p).mergeDue.isEmpty || !(d.port p).ctrlDue.isEmpty || (pickClass p false d).isSome || reachesLaunch p n d

/-- Whether an express frame is ready, or the gate of the frame's class is closed, `frac` 2^-16 ticks into this tick. -/
def wantsLine (p : Nat) (t : TxNow) (frac : Nat) (d : Device) : Bool :=
  (match t.cls with | some c => !gateOpen p c d | none => false)
    || expressReady p (t.bytes.length - sentBytes p t frac d) d

/-- Whether `t` is of class `c`, whose gate Helm has closed for R295, at close − MFS or at the close (R375). -/
def closesFor (p : Nat) (t : TxNow) (c : Nat) (d : Device) : Bool :=
  t.cls == some c && (inGuard p c true d || !gateOpen p c d)

/-- PREEMPT: an express frame is ready, or the gate of the frame's class is closed, from that fraction of this tick on:
the fragment ends at the first byte at which R295 permits it. -/
def preempt (p frac : Nat) (d : Device) : Device :=
  match (d.port p).now with
  | none => d
  | some t =>
    match fragAt p t frac d with
    | some k => if wantsLine p t frac d then fragEnd p t k d else d
    | none => d

/-- PREEMPT_AT_CLOSE: the time has reached close − MFS of the frame's class (R375). -/
def preemptAtClose (p c frac : Nat) (d : Device) : Device :=
  match (d.port p).now with
  | none => d
  | some t =>
    match fragAt p t frac d with
    | some k => if closesFor p t c d then (fragEnd p t k d).count (helmCnt p c 8) else d
    | none => d

/-- What made the port pre-empt `t` stood when the tick of `e` began: the fragment ends at the first byte of that tick at
which R295 permits it, if there is one. -/
def preemptStood (p : Nat) (t : TxNow) (e d : Device) : Option Device :=
  match fragAt p { t with due := true } 0 e with
  | none => none
  | some k =>
    if wantsLine p t 0 e then some (fragEnd p t k d)
    else match t.cls with
      | some c => if closesFor p t c e then some ((fragEnd p t k d).count (helmCnt p c 8)) else none
      | none => none

/-- The tick before this one has passed for the frames on the lines: one that a port had cause to pre-empt in it does not
leave a permitted byte unused, and the cause stands (R295). -/
def preemptTick (d : Device) : Device :=
  let e := { d with raw := d.raw - 1 }
  d.net.ports.foldl (fun d x =>
    match (d.port x.1).now with
    | some t =>
      if t.pe then
        (preemptStood x.1 t e d).getD (d.setPort x.1 { d.port x.1 with
          now := some { t with due := wantsLine x.1 t 0 e || (List.range 8).any fun c => closesFor x.1 t c e } })
      else d
    | none => d) d

/-! ### The end of a frame -/

/-- The frame `t` has left port `p` whole. -/
def frameLeft (p : Nat) (t : TxNow) (d : Device) : Device :=
  let d := gapStart p 12 (d.setPort p { d.port p with now := none })
  let d := ((d.count (portCnt p 0x98)).countN (portCnt p 0xA0) t.bytes.length).emit (.frame p t.bytes t.stamp)
  let d := d.countIf t.frame.bad (portCnt p 0xB0)
  let d := match t.cls with
    | some c => d.count (helmCnt p c 0)
    | none => d.countIf t.frame.ctx.isNone (portCnt p 0xA8)
  let d := d.countIf (t.skips % 4 != 0) (portCnt p 0xC8)
  let d := d.countIf (match t.frame.ctx with | some x => x.stampOp != 0 | none => false) (stampCnt p 0)
  let rec_ := txRecord p t d
  let d := holdReleaseOpt t.frame.hold rec_.2
  peSettle p (jobLeft t.frame.job p t.stamp (t.skips + rec_.1) d)

/-- FRAME_TX_END (R429): the frame has left whole. A frame that the port has had cause to pre-empt since before this tick
ends its fragment instead where R295 still permits it. -/
def frameTxEnd (p : Nat) (d : Device) : Device :=
  match (d.port p).now with
  | none => peSettle p (ownDone p d)
  | some t => ((if t.due then preemptStood p t d d else none).getD (frameLeft p t d))

/-- The first frame of a list whose LAUNCH_TIME its timebase has reached, with its request. -/
def reached (l : List TxFrame) (d : Device) : Option (TxFrame × SendCtx) :=
  l.findSome? fun f =>
    match f.ctx with
    | some x => if nsT x.launchTime ≤ d.now (d.tb x.tb) then some (f, x) else none
    | none => none

/-- TIMED_LAUNCH (R252): the first listed frame of port `p` whose time has come launches, or is too late; one that still
waits for the list when its time comes is not in its launch register. -/
def timedLaunch (p skew : Nat) (d : Device) : Device :=
  match reached (d.port p).launch d with
  | some (f, x) =>
    let d := d.setPort p { d.port p with launch := (d.port p).launch.erase f }
    if nsT 2 < d.now (d.tb x.tb) - nsT x.launchTime ∨ lineFree p d = false then refill p (timedPast p f d)
    else
      let d := peSettle p (ownDone p d)
      let r := launchAt skew (launchUnits (d.tb x.tb) (nsT x.launchTime) d)
      let b := txFinal f r d
      let d := b.2.2
      refill p ((d.setPort p { d.port p with
        now := some { frame := f, cls := none, bytes := b.1, stamp := r, from_ := r, skips := b.2.1 } }).count
          (stampCnt p 8))
  | none =>
    match reached ((d.port p).waits.map (·.2)) d with
    | some (f, _) => timedPast p f (d.setPort p { d.port p with waits := (d.port p).waits.filter fun w => w.2 != f })
    | none => d

/-! ### Gate lists (R366 to R372) -/

/-- The administrative list of port `p` as its registers hold it. -/
def adminList (p : Nat) (d : Device) : GateList :=
  { en := d.rb F.HELM_GATE_CTRL_ADMIN_GATE_EN p, tb := d.rg F.HELM_GATE_CTRL_ADMIN_TB p,
    base := ((d.rg F.HELM_GATE_BASE_S_SECONDS p * 1000000000 + d.rg F.HELM_GATE_BASE_NS_NANOSECONDS p : Nat) : Int),
    cycle := d.rg F.HELM_GATE_CYCLE_CYCLE_NS p, ext := d.rg F.HELM_GATE_CYCLE_CYCLE_EXT p,
    entries := (List.range (d.rg F.HELM_GATE_CTRL_ADMIN_LIST_LEN p)).map
      (fun e => (d.rg F.HELM_GATE_ADMIN_STATES p e, d.rg F.HELM_GATE_ADMIN_INTERVAL_NS p e)) }

/-- Whether a gate list passes the checks of R369. -/
def gateListOk (g : GateList) : Bool :=
  decide (g.entries.length ≠ 0 ∧ g.entries.length ≤ 1024 ∧ 1000 ≤ g.cycle ∧ g.cycle ≤ 1000000000)
    && g.entries.all (fun e => e.2 != 0)

/-- The change time of an accepted list at the time `n` of its timebase (R370). -/
def changeTime (g : GateList) (n : Int) : Int :=
  let need := n + nsT 1000
  if need ≤ nsT g.base then g.base
  else g.base + (need - nsT g.base + (nsT g.cycle - 1)) / nsT g.cycle * g.cycle

/-- GATE_CONFIG_CHANGE (R369 to R371). -/
def gateConfigChange (p : Nat) (d : Device) : Device :=
  let x := d.port p
  if x.pend.isSome then d.ru F.HELM_GATE_STATUS_ADMIN_BUSY 1 p
  else
    let g := adminList p d
    if gateListOk g && decide (d.rg F.HELM_GATE_CTRL_ADMIN_LIST_LEN p ≤ 1024) then
      let ct := changeTime g (d.now (d.tb g.tb))
      let d := d.setPort p { x with pend := some { list := g, ct := ct } }
      (d.ru F.HELM_GATE_CHANGE_S_SECONDS (ct.toNat / 1000000000) p).ru F.HELM_GATE_CHANGE_NS_NANOSECONDS
        (ct.toNat % 1000000000) p
    else helmEvent F.HELM_STATUS_CONFIG_ERROR F.HELM_EVT_EN_CONFIG_ERROR 337 p
      (d.ru F.HELM_GATE_STATUS_CONFIG_ERROR 1 p)

/-- The gates have taken new states after `old`: an express frame on the line whose gate closed under it is counted under
STEP_OVERRUN and completes, and a preemptable one is pre-empted at the first byte that R295 permits (R367). -/
def gateCaught (p old : Nat) (d : Device) : Device :=
  match (d.port p).now with
  | some t =>
    match t.cls with
    | some c =>
      if bit old c && !gateOpen p c d then if t.pe then preempt p 0 d else d.count (helmCnt p c 0x40) else d
    | none => d
  | none => d

/-- GATE_CANCEL (R371): the operational list runs on as if no change had been pending. An entry that the change would have
ended or prolonged takes its own end again; one that was prolonged past its own end gives way at once. -/
def gateCancel (p : Nat) (d : Device) : Device :=
  let x := d.port p
  match x.pend with
  | none => d
  | some pd =>
    let ct := changeOper x pd d
    if !x.oper.en || x.entryEnd != nsUp ct then d.setPort p { x with pend := none }
    else
      let r := gateAt x.oper (match holdFrom x.oper ct with
        | some h => max (nowNs x.oper.tb d) (h - 1)
        | none => nsUp ct - 1)
      gateCaught p (gateStates x) (d.setPort p { x with pend := none, entry := r.1, entryEnd := r.2.2 })

/-- Queued frames of class `c` that the new list cannot send are removed (R372). -/
def removeUnsendable (p c : Nat) (d : Device) : Device :=
  let q := d.cls p c
  let bad := fun (f : TxFrame) => !helmSendable p c f d
  let d' := d.setCls p c { q with frames := q.frames.filter (fun f => !bad f) }
  (q.frames.filter bad).foldl (fun d f => helmUnsendable p (helmCnt p c 0x38) f d) d'

/-- GATE_CHANGE_TIME: the timebase has reached CT (R370, R372). -/
def gateChangeTime (p : Nat) (d : Device) : Device :=
  let x := d.port p
  match x.pend with
  | none => d
  | some pd =>
    if nowNs pd.list.tb d < pd.ct then d
    else
      let d := gateCaught p (gateStates x) (gateLoad p (d.setPort p { x with oper := pd.list, pend := none }))
      let d := abandonHeld p ((List.range 8).foldl (fun d c => removeUnsendable p c d) d)
      helmRetry (helmEvent F.HELM_STATUS_CONFIG_CHANGED F.HELM_EVT_EN_CONFIG_CHANGED 336 p d)

/-- Whether a pending change of port `x` has reached its CT. -/
def changeDue (x : Port) (d : Device) : Bool :=
  match x.pend with
  | some pd => decide (pd.ct ≤ nowNs pd.list.tb d)
  | none => false

/-- GATE_CHANGE: the timebase has reached the end of the entry in force. A pending change whose CT it has passed takes
place in its stead: the entries of the old list after CT never take effect. -/
def gateChange (p : Nat) (d : Device) : Device :=
  let x := d.port p
  if changeDue x d then gateChangeTime p d
  else if !x.oper.en || decide (nowNs x.oper.tb d < x.entryEnd) then d
  else gateCaught p (gateStates x) (gateLoad p d)

/-! ### Queue sampling (R377, R378) -/

/-- The four words of a sample of class `c` (Table 12-5). -/
def sampleWords (p c i : Nat) (d : Device) : List Word :=
  let q := d.cls p c
  let flags := flagBit (gateOpen p c d) 7 + flagBit (classPaused p c d) 6 + flagBit (!shaperOpen p c d) 5
    + flagBit (classDeferred p c d) 4
  let hol := match sfqHead q with | some f => min (d.since f.queuedAt * 5 / 4) (2 ^ 32 - 1) | none => 0
  [i % 2 ^ 32 * 2 ^ 32 + p * 256 + flags + c, d.raw.toNat, q.frames.length * 2 ^ 32 + classBytes q, hol].map
    (BitVec.ofNat 64)

/-- One sample written. -/
def sampleWrite (p c : Nat) (d : Device) : Device :=
  let i := d.rg F.HELM_SAMPLE_PROD_PROD
  ({ d with net.samples := tabPut (sampleWords p c i d) d.net.samples (i % 16384) }).radd F.HELM_SAMPLE_PROD_PROD 1

/-- The sampling period of the active heading. -/
def samplePeriod (d : Device) : Nat := d.rg F.TRIM_HROW_B_SAMPLE_NS (d.rg F.TRIM_STATUS_HEADING)

/-- SAMPLE_ROUND (R377); a period of 0 stops sampling (Table 13-4). -/
def sampleRound (d : Device) : Device :=
  if d.rb F.HELM_SAMPLE_CFG_ENABLE && decide (d.rung = 0 ∧ samplePeriod d ≠ 0) && d.passedNs d.net.sampleAt (samplePeriod d) then
    (List.range 32).foldl (fun d p => (List.range 8).foldl (fun d c =>
      if d.rb F.HELM_CLASS_CFG_SAMPLE_EN p c then sampleWrite p c d else d) d) { d with net.sampleAt := d.raw }
  else d

/-! ### A port or the device leaves -/

/-- Every class frame, listed frame and held frame of a port that is not in RUN is handed to it and discarded (R268,
R352). -/
def helmFlush (p : Nat) (d : Device) : Device :=
  let x := d.port p
  let frames := x.launch ++ x.waits.map (·.2) ++ (match x.held with | some t => [t.frame] | none => [])
    ++ ((x.classes.map (·.2.frames)).flatten)
  let cs := x.classes.map (fun e => (e.1, { e.2 with frames := [] }))
  let d := d.setPort p { x with launch := [], waits := [], held := none, classes := cs, mergeDue := [] }
  helmRetry (frames.foldl (fun d f => linkDownDiscard p f d) d)

/-- Timed frames on port `p` complete with LAUNCH_NOT_PERMITTED (R254). -/
def forbidTimed (p : Nat) (d : Device) : Device :=
  let x := d.port p
  (x.launch ++ x.waits.map (·.2)).foldl (fun d f => timedForbid p f d) (d.setPort p { x with launch := [], waits := [] })

/-- Host frames that have not begun to leave are discarded, and no host frame completes any more (R254, R379, R449). -/
def dropHostFrames (d : Device) : Device :=
  let d := { d with net.offers := [] }
  d.net.ports.foldl (fun d e =>
    let x := d.port e.1
    let cs := x.classes.map (fun c => (c.1, { c.2 with frames := c.2.frames.filter (fun f => f.job.isNone) }))
    d.setPort e.1 { x with launch := [], waits := [], classes := cs }) { d with net.jobs := [] }

/-! ### Meanings -/

/-- TIMED_LAUNCH (R252). -/
def execTimedLaunch (p skew : Nat) (s : State) : Host.Outcome State Fault Refusal := onDev (timedLaunch p skew) s
/-- FRAME_TX_START (R353). -/
def execFrameTxStart (p : Nat) (b : BlockStamp) (s : State) : Host.Outcome State Fault Refusal :=
  onDev (frameTxStart p b.island b.bitPos) s
/-- FRAME_TX_END (R429). -/
def execFrameTxEnd (p : Nat) (s : State) : Host.Outcome State Fault Refusal := onDev (frameTxEnd p) s
/-- PREEMPT (R295). -/
def execPreempt (p : Nat) (f : BitVec 16) (s : State) : Host.Outcome State Fault Refusal := onDev (preempt p f.toNat) s
/-- PREEMPT_AT_CLOSE (R375). -/
def execPreemptAtClose (p c : Nat) (f : BitVec 16) (s : State) : Host.Outcome State Fault Refusal :=
  onDev (preemptAtClose p c f.toNat) s
/-- GATE_CHANGE (R367). -/
def execGateChange (p : Nat) (s : State) : Host.Outcome State Fault Refusal := onDev (gateChange p) s
/-- GATE_CONFIG_CHANGE (R369). -/
def execGateConfigChange (p : Nat) (s : State) : Host.Outcome State Fault Refusal := onHost (gateConfigChange p) s
/-- GATE_CANCEL (R371). -/
def execGateCancel (p : Nat) (s : State) : Host.Outcome State Fault Refusal := onHost (gateCancel p) s
/-- GATE_CHANGE_TIME (R370). -/
def execGateChangeTime (p : Nat) (s : State) : Host.Outcome State Fault Refusal := onDev (gateChangeTime p) s
/-- SHAPER_CFG_WRITE (R364). -/
def execShaperCfgWrite (p c : Nat) (v : Word) (s : State) : Host.Outcome State Fault Refusal :=
  onHost (shaperCfgWrite p c v) s
/-- SAMPLE_ROUND (R377). -/
def execSampleRound (s : State) : Host.Outcome State Fault Refusal := onDev sampleRound s

end Sys2Proof.Machine
end

