-- ==== Sys2Proof/Machine/CompassRx.lean ====
section
/-!
DEFINITION. The Compass (chapter 11): parse, key, lookup, actions, recirculation, stream filters, rule banks.
The choices it makes stand under notes/assumptions: 7 (DESIGN CHOICE), 29 (DESIGN CHOICE), 49 (DEDUCED), 72
(DEDUCED).
-/

namespace Sys2Proof.Machine

/-! ### Parse (R318 to R323) -/

/-- What a pass of the parser has found so far. -/
structure ParseSt where
  /-- 64 key bytes, the metadata still 0 -/
  key : Bytes := List.replicate 64 0
  depth : Nat := 0
  trunc : Bool := false
  conflict : Bool := false
  /-- window offset of the stop point -/
  stop : Nat := 0
  stopNode : Nat := 0
  deriving DecidableEq, Repr

/-- Byte `i` of the window at frame offset `base`; 0 outside the window and beyond the frame's end (R323). -/
def winByte (fr : Bytes) (base i : Nat) : Byte := if i < 128 then (fr[base + i]?).getD 0 else 0

/-- A big-endian 16-bit field of the window. -/
def winHalf (fr : Bytes) (base i : Nat) : Nat := (winByte fr base i).toNat * 256 + (winByte fr base (i + 1)).toNat

/-- The length of the header of node `k` at window offset `h` (R320). -/
def headerLen (fr : Bytes) (base h k : Nat) (d : Device) : Nat :=
  if d.rb F.COMPASS_PG_NODE_LEN_MODE k then
    let f := winHalf fr base (h + d.rg F.COMPASS_PG_NODE_LEN_OFF k)
    ((f / 2 ^ d.rg F.COMPASS_PG_NODE_LEN_SHIFT k) &&& d.rg F.COMPASS_PG_NODE_LEN_MASK k)
      * 2 ^ d.rg F.COMPASS_PG_NODE_LEN_MUL_LOG2 k + d.rg F.COMPASS_PG_NODE_LEN_ADD k
  else d.rg F.COMPASS_PG_NODE_LEN_ADD k

/-- Frame bytes, counted from the header's first, that the header, its length field and its selector reach. -/
def headerReach (len k : Nat) (d : Device) : Nat :=
  max (max len (d.rg F.COMPASS_PG_NODE_SEL_OFF k + (if d.rg F.COMPASS_PG_NODE_SEL_WIDTH k = 0 then 1 else 2)))
    (if d.rb F.COMPASS_PG_NODE_LEN_MODE k then d.rg F.COMPASS_PG_NODE_LEN_OFF k + 2 else 0)

/-- The next node that the selector of a parsed header chooses (R321). -/
def nextNode (fr : Bytes) (base h k : Nat) (d : Device) : Option Nat :=
  let o := h + d.rg F.COMPASS_PG_NODE_SEL_OFF k
  let wide := d.rg F.COMPASS_PG_NODE_SEL_WIDTH k != 0
  let sel := if wide then winHalf fr base o else (winByte fr base o).toNat
  let cut := if wide then 0xFFFF else 0xFF
  match (List.range 8).find? (fun t =>
      let m := d.rg F.COMPASS_PG_TRANS_MASK k t &&& cut
      d.rb F.COMPASS_PG_TRANS_VALID k t && (sel &&& m) == (d.rg F.COMPASS_PG_TRANS_VALUE k t &&& m)) with
  | some t => some (d.rg F.COMPASS_PG_TRANS_NEXT k t)
  | none => if d.rb F.COMPASS_PG_NODE_DEFAULT_VALID k then some (d.rg F.COMPASS_PG_NODE_DEFAULT_NEXT k) else none

/-- The four extracts of node `k`: valid, header offset, length, key position. -/
def extracts (k : Nat) (d : Device) : List (Bool × Nat × Nat × Nat) :=
  [(d.rb F.COMPASS_PG_EXTRACT01_VALID0 k, d.rg F.COMPASS_PG_EXTRACT01_HDR_OFF0 k,
      d.rg F.COMPASS_PG_EXTRACT01_LEN_M1_0 k + 1, d.rg F.COMPASS_PG_EXTRACT01_KEY_POS0 k),
   (d.rb F.COMPASS_PG_EXTRACT01_VALID1 k, d.rg F.COMPASS_PG_EXTRACT01_HDR_OFF1 k,
      d.rg F.COMPASS_PG_EXTRACT01_LEN_M1_1 k + 1, d.rg F.COMPASS_PG_EXTRACT01_KEY_POS1 k),
   (d.rb F.COMPASS_PG_EXTRACT23_VALID2 k, d.rg F.COMPASS_PG_EXTRACT23_HDR_OFF2 k,
      d.rg F.COMPASS_PG_EXTRACT23_LEN_M1_2 k + 1, d.rg F.COMPASS_PG_EXTRACT23_KEY_POS2 k),
   (d.rb F.COMPASS_PG_EXTRACT23_VALID3 k, d.rg F.COMPASS_PG_EXTRACT23_HDR_OFF3 k,
      d.rg F.COMPASS_PG_EXTRACT23_LEN_M1_3 k + 1, d.rg F.COMPASS_PG_EXTRACT23_KEY_POS3 k)]

/-- The extracts of node `k` applied to the key (R323). -/
def applyExtracts (fr : Bytes) (base h k : Nat) (d : Device) (key : Bytes) : Bytes :=
  (extracts k d).foldl (fun key e =>
    if e.1 then (patch key e.2.2.2 ((List.range e.2.2.1).map (fun i => winByte fr base (h + e.2.1 + i)))).take 64
    else key) key

/-- Headers from node `k` at window offset `h` on; `fuel` is the depth that is left (R322). -/
def parseFrom (fr : Bytes) (base : Nat) (d : Device) : Nat → Nat → Nat → ParseSt → ParseSt
  | 0, h, k, s => { s with trunc := true, stop := h, stopNode := k }
  | fuel + 1, h, k, s =>
    let len := headerLen fr base h k d
    if len = 0 ∨ (d.rb F.COMPASS_PG_NODE_LEN_MODE k = true ∧ len < d.rg F.COMPASS_PG_NODE_MIN_LEN k) then
      { s with conflict := true, stop := h, stopNode := k }
    else if fr.length < base + h + headerReach len k d then { s with conflict := true, stop := h, stopNode := k }
    else if 128 < h + len then { s with trunc := true, stop := h, stopNode := k }
    else
      let s := { s with key := applyExtracts fr base h k d s.key, depth := s.depth + 1 }
      match nextNode fr base h k d with
      | none => { s with stop := h + len, stopNode := k }
      | some n => parseFrom fr base d fuel (h + len) n s

/-- The key of a pass (Table 11-3). -/
def ruleKey (pass2 : Bool) (port status tag : Nat) (conflict : Bool) (s : ParseSt) : BitVec 512 :=
  let w := flagBit pass2 63 + port * 2 ^ 58 + flagBit s.trunc 57 + flagBit conflict 56 + status * 2 ^ 40
    + s.stopNode * 2 ^ 34 + s.depth * 2 ^ 30 + tag * 2 ^ 16
  BitVec.ofNat 512 (beNat (patch s.key 0 (beBytes 8 w)))

/-! ### Banks and lookup (R327, R328, R340 to R342) -/

/-- Bank 0 or 1. -/
def Device.bank (d : Device) (b : Bool) : Tab (Option RuleEnt) := if b then d.compass.bank1 else d.compass.bank0
/-- Bank 0 or 1 replaced. -/
def Device.setBank (d : Device) (b : Bool) (t : Tab (Option RuleEnt)) : Device :=
  if b then { d with compass.bank1 := t } else { d with compass.bank0 := t }

/-- The active bank. -/
def Device.active (d : Device) : Bool := d.rb F.COMPASS_BANK_ACTIVE

/-- The pinned count of a bank. -/
def pinned (b : Bool) (d : Device) : Nat := (d.compass.queue.filter (fun r => r.bank == b)).length

/-- Whether a bank is writable (R341). -/
def bankWritable (b : Bool) (d : Device) : Bool := d.active != b && pinned b d == 0

/-- A Compass event (R350). -/
def compassEvent (st en : Fld) (src : Nat) (d : Device) : Device := evRaiseIf (d.rb en) src (d.ru st 1)

/-- BANK_FREE of a bank that is not active and whose pinned count has fallen to 0 (R342). -/
def bankFree (b : Bool) (d : Device) : Device :=
  if bankWritable b d then compassEvent F.COMPASS_STATUS_BANK_FREE F.COMPASS_EVT_EN_BANK_FREE 320 d else d

/-- The first entry of a bank that matches, past entries with a parity error, whose indices are listed. -/
def bankFind (key : BitVec 512) : Tab (Option RuleEnt) → List Nat × Option (Nat × RuleEnt)
  | [] => ([], none)
  | (i, e) :: t =>
    match e with
    | none => bankFind key t
    | some r =>
      if !r.valid then bankFind key t
      else if r.parityErr then
        let x := bankFind key t
        (i :: x.1, x.2)
      else if key &&& r.mask = r.value &&& r.mask then ([], some (i, r))
      else bankFind key t

/-- Entry `i` of a bank is no longer valid; its contents stay. -/
def ruleClear (b : Bool) (i : Nat) (d : Device) : Device :=
  match tabGet none (d.bank b) i with
  | some e => d.setBank b (tabSet none (d.bank b) i (some { e with valid := false }))
  | none => d

/-- A parity error of entry `i` of a bank (R328). -/
def ruleParity (b : Bool) (i : Nat) (d : Device) : Device :=
  let d := (ruleClear b i d).count 0x90080
  let d := (d.rub F.COMPASS_STATUS_PARITY_BANK b).ru F.COMPASS_STATUS_PARITY_INDEX i
  compassEvent F.COMPASS_STATUS_TCAM_PARITY F.COMPASS_EVT_EN_TCAM_PARITY 324 d

/-- COUNT offset of the hit counter of entry `r` of a bank. -/
def ruleHits (b : Bool) (r : Nat) : Nat := 0x180000 + 8 * (16384 * (if b then 1 else 0) + r)

/-- A lookup (R327): the action words that govern. A miss action never recirculates. -/
def ruleLookup (b : Bool) (key : BitVec 512) (trunc conflict : Bool) (d : Device) : Nat × Nat × Device :=
  let r := bankFind key (d.bank b)
  let d := r.1.foldl (fun d i => ruleParity b i d) d
  let d := (d.countIf trunc 0x90020).countIf conflict 0x90028
  match r.2 with
  | some (i, e) => (e.act0.toNat, e.act1.toNat, d.count (ruleHits b i))
  | none =>
    let a := d.rg (if b then F.COMPASS_MISS1_ACTION else F.COMPASS_MISS0_ACTION)
    (if bit a 59 then a - 2 ^ 59 else a, 0, d.count (if b then 0x90018 else 0x90010))

/-! ### Actions (R329 to R335, R345) -/

/-- Priority of a frame: the PCP of its outer tag, or DEFAULT_PRIO of its ingress port (R280). -/
def framePrio (p : Nat) (bs : Bytes) (d : Device) : Nat :=
  if isTag (beField bs 12 2) then beField bs 14 1 / 32 else d.rg F.PORT_FLOW_DEFAULT_PRIO p

/-- A copy of the frame for Helm, which holds its Hold space. -/
def forwardCopy (x : RxCtx) (bytes : Bytes) (n : Nat) (d : Device) : TxFrame × Device :=
  ({ bytes := bytes, flow := 4096 + x.port, hold := some x.hold, bad := decide (1024 ≤ x.status), job := none },
   (List.range n).foldl (fun d _ => holdAdd x.hold d) d)

/-- FWD_INVALID (R332). -/
def fwdInvalid (d : Device) : Device :=
  compassEvent F.COMPASS_STATUS_FWD_INVALID F.COMPASS_EVT_EN_FWD_INVALID 323 (d.count 0x90058)

/-- The mirror copy (R333, R335). -/
def doMirror (act : Nat) (x : RxCtx) (d : Device) : Device :=
  if !bit act 60 then d
  else if 4 ≤ d.rung then d.count 0x90078
  else if !egressOk (bits act 47 43) d then fwdInvalid d
  else
    let c := forwardCopy x x.bytes 1 d
    (helmOffer (bits act 47 43) (c.2.rg F.COMPASS_CFG_MIRROR_CLASS) c.1 (c.2.count 0x90050)).2

/-- COUNT offset of stream filter counter `k`. -/
def sfCnt (s k : Nat) : Nat := 0x140000 + 0x20 * s + k

/-- The stream filter and its meter (R345): whether the frame passes. -/
def doFilter (act : Nat) (x : RxCtx) (d : Device) : Bool × Device :=
  let s := bits act 31 20
  if !bit act 56 || !d.rb F.COMPASS_SF_CFG_ENABLE s then (true, d)
  else
    let d := d.count (sfCnt s 0)
    if d.rb F.COMPASS_SF_CFG_BLOCKED s then (false, d.count (sfCnt s 0x18))
    else if d.rg F.COMPASS_SF_CFG_MAX_LEN s < x.len then
      let d := d.count (sfCnt s 0x10)
      (false, if d.rb F.COMPASS_SF_CFG_BLOCK_EN s then
        compassEvent F.COMPASS_STATUS_STREAM_BLOCKED F.COMPASS_EVT_EN_STREAM_BLOCKED 322
          (d.ru F.COMPASS_SF_CFG_BLOCKED 1 s) else d)
    else
      let m := if d.rb F.COMPASS_SF_CFG_METER_VALID s then meterPass (d.rg F.COMPASS_SF_CFG_METER s) x.stamp d
        else (true, d)
      (m.1, m.2.countIf m.1 (sfCnt s 8))

/-- The FORWARD sentinel's item: a forwarded frame is queued (R384). -/
def forwardSlack (x : RxCtx) (d : Device) : Device :=
  logSlack 6 (slackRaw (byteEnd x.stamp (x.len - 1) (d.rate x.port)).count 900 d.raw) d

/-- FORWARD, or replication in its place (R331, R332, R305): whether the frame was handed to an egress class, which is
when its slack is logged. -/
def doForward (act : Nat) (x : RxCtx) (bytes : Bytes) (d : Device) : Bool × Device :=
  let s := bits act 31 20
  let cls := if bit act 58 then bits act 50 48 else framePrio x.port x.bytes d
  let done := fun (r : Bool × Device) => (r.1, if r.1 then forwardSlack x r.2 else r.2)
  if !bit act 62 then (false, d)
  else if bit act 56 && d.rb F.REDUN_STREAM_CFG_GENERATE s then
    done (helmReplicate s cls bytes (fun n d => forwardCopy x bytes n d) id id d)
  else if !egressOk (bits act 55 51) d then (false, fwdInvalid d)
  else
    let c := forwardCopy x bytes 1 d
    done (helmOffer (bits act 55 51) cls c.1 c.2)

/-- COPY_TO_HOST (R334, R335): whether the frame was offered to its receive queue. -/
def doCopy (act : Nat) (x : RxCtx) (bytes : Bytes) (d : Device) : Bool × Device :=
  if !bit act 61 then (false, d)
  else if 3 ≤ d.rung then (false, d.count 0x90070)
  else (true, rxDeliver (bits act 19 8) bytes (x.status * 2 ^ 48 + bits act 7 0 * 2 ^ 40 + x.port * 2 ^ 32) x.stamp d)

/-- Step 7 of Table 11-1, with the counter the frame ends in (R330). -/
def doDeliver (act : Nat) (x : RxCtx) (bytes : Bytes) (d : Device) : Device :=
  let f := if bit act 63 then (false, d) else doForward act x bytes d
  let c := if bit act 63 then (false, f.2) else doCopy act x bytes f.2
  c.2.count (match f.1, c.1 with
    | true, true => 0x90048
    | true, false => 0x90038
    | false, true => 0x90040
    | false, false => 0x90030)

/-- Steps 3 to 7 of Table 11-1 for the final action of a frame. -/
def doAction (act : Nat) (x : RxCtx) (d : Device) : Device :=
  let s := bits act 31 20
  let d := doMirror act x d
  let r := doFilter act x d
  let r := if r.1 && bit act 57 then meterPass (bits act 42 32) x.stamp r.2 else r
  let d := if !r.1 then r.2.count 0x90030
    else
      let d := r.2
      let rec_ := bit act 56 && d.rb F.REDUN_STREAM_CFG_RECOVER s
      let v := if rec_ then frerRecover s x.bytes d else (true, d)
      if !v.1 then v.2.count 0x90088
      else
        let bytes := if bit act 56 && v.2.rb F.REDUN_STREAM_CFG_DECODE s then rtagRemove x.bytes else x.bytes
        doDeliver act x bytes v.2
  holdRelease x.hold d

/-! ### Order of stamps (R309, R346, R339) -/

/-- Whether the frame `x` comes before `y` by receive stamp, then by port. -/
def rxBefore (x y : Stamp × Nat) : Bool :=
  decide (stampUnits x.1 < stampUnits y.1 ∨ (stampUnits x.1 = stampUnits y.1 ∧ x.2 < y.2))

/-- Whether an action uses a meter or recovery, which take their frames in order of receive stamp. -/
def actOrdered (act : Nat) (d : Device) : Bool :=
  let s := bits act 31 20
  bit act 57 || (bit act 56 && ((d.rb F.COMPASS_SF_CFG_ENABLE s && d.rb F.COMPASS_SF_CFG_METER_VALID s)
    || d.rb F.REDUN_STREAM_CFG_RECOVER s))

/-- Whether port `q` may still hand over a frame that comes before `y`: one under reassembly, or one that began to arrive
by then and is no longer than MAX_FRAME. -/
def rxAwaited (q : Nat) (y : Stamp × Nat) (d : Device) : Bool :=
  d.portRun q && d.isUplink q && q != y.2 &&
    ((match (d.port q).asm with
      | some a => rxBefore (rxStamp q a.frame.island a.frame.bitPos d, q) y
      | none => false)
    || decide (((d.raw.toNat * 65536 : Nat) - stampUnits y.1 : Int) * 5
        < ((65536 * d.wire q (d.rg F.PORT_FRAME_MAX_FRAME q) : Nat) + rxCorr q d) * 4))

/-- Whether a classified frame has to wait: an earlier frame of its port waits, or its action takes frames in order of
stamp and an earlier one waits, has its second pass to come or may still arrive elsewhere (R309, R346). -/
def actWaits (act : Nat) (x : RxCtx) (d : Device) : Bool :=
  let before := fun (y : Stamp × Nat) => rxBefore y (x.stamp, x.port)
  (actOrdered act d && (d.compass.queue.any (fun q => before (q.stamp, q.port))
      || (d.compass.wait.any fun w => actOrdered w.2 d && before (w.1.stamp, w.1.port))
      || (List.range 32).any fun q => rxAwaited q (x.stamp, x.port) d))
    || d.compass.wait.any fun w => w.1.port == x.port && before (w.1.stamp, w.1.port)

/-- A waiting frame takes its place by stamp and port. -/
def waitInsert (x : RxCtx) (act : Nat) : List (RxCtx × Nat) → List (RxCtx × Nat)
  | [] => [(x, act)]
  | w :: ws =>
    if rxBefore (x.stamp, x.port) (w.1.stamp, w.1.port) then (x, act) :: w :: ws else w :: waitInsert x act ws

/-- The final action of a frame is carried out, or waits for its turn. -/
def actOrWait (act : Nat) (x : RxCtx) (d : Device) : Device :=
  if actWaits act x d then { d with compass.wait := waitInsert x act d.compass.wait } else doAction act x d

/-- Frames whose wait is over are acted on, in order of their stamps. -/
def waitDrain (d : Device) : Device :=
  d.compass.wait.foldl (fun d w => actOrWait w.2 w.1 d) { d with compass.wait := [] }

/-! ### The two passes (R336 to R338) -/

/-- A frame that a port passes on to the Compass (R316): pass 1, and the final action or recirculation. -/
def compassRx (x : RxCtx) (d : Device) : Device :=
  let d := d.count 0x90000
  let b := d.active
  let s := parseFrom x.bytes 0 d 12 0 (d.rg F.COMPASS_CFG_START_NODE) {}
  let lc := match ipParse x.bytes with | some p => lenConflict x.bytes p | none => false
  let conflict := s.conflict || lc
  let r := ruleLookup b (ruleKey false x.port x.status 0 conflict s) s.trunc conflict d
  let d := r.2.2
  if bit r.1 59 then
    if 256 ≤ d.compass.queue.length then holdRelease x.hold ((d.count 0x90068).count 0x90030)
    else { d with compass.queue := d.compass.queue ++ [{ port := x.port, bytes := x.bytes, status := x.status,
                                                         stamp := x.stamp, bank := b, act0 := BitVec.ofNat 64 r.1,
                                                         act1 := BitVec.ofNat 64 r.2.1, stop := s.stop,
                                                         stopNode := s.stopNode, lenConflict := lc,
                                                         len := x.len, hold := x.hold, at_ := d.raw }] }
  else actOrWait r.1 x d

/-- RECIRC_PASS2: the oldest frame of the recirculation queue is parsed and looked up in its pinned bank. -/
def recircPass2 (d : Device) : Device :=
  match d.compass.queue with
  | [] => d
  | q :: rest =>
    let d := ({ d with compass.queue := rest }).count 0x90008
    let w1 := q.act1.toNat
    let base := (if bits w1 63 62 = 1 then q.stop else 0) + 8 * bits w1 54 44
    let node := if bit w1 61 then q.stopNode else bits w1 60 55
    let s := parseFrom q.bytes base d 12 0 node {}
    let conflict := s.conflict || q.lenConflict
    let r := ruleLookup q.bank (ruleKey true q.port q.status (bits q.act0.toNat 7 0) conflict s) s.trunc conflict d
    let d := logSlack 7 (slackRaw q.at_ 2000 d.raw) (bankFree q.bank (r.2.2.countIf (bit r.1 59) 0x90060))
    waitDrain (actOrWait r.1 { port := q.port, bytes := q.bytes, len := q.len, status := q.status, stamp := q.stamp,
                               hold := q.hold } d)

/-! ### Rule commands (R341, R342, R351) -/

/-- A rule or miss write turned away. -/
def writeReject (d : Device) : Device :=
  compassEvent F.COMPASS_STATUS_WRITE_REJECT F.COMPASS_EVT_EN_WRITE_REJECT 321 d

/-- Whether a rule command is in progress (R351). -/
def ruleBusy (d : Device) : Bool := decide (d.raw.toNat < d.compass.busyEnd.toNat)

/-- A rule command: ignored with CMD_IGNORED while one is in progress; else BANK and INDEX take the command's, it acts,
and BUSY stands for a time within 100 ns, at a free value (R351). -/
def ruleCmd (b : Bool) (i : Nat) (f : Device → Device) (d : Device) : Device :=
  if ruleBusy d then d.ru F.COMPASS_RULE_CMD_CMD_IGNORED 1
  else
    let r := d.free
    f ((({ r.2 with compass.busyEnd := d.raw + BitVec.ofNat 64 (r.1.toNat % 81) }).rub F.COMPASS_RULE_CMD_BANK b).ru
      F.COMPASS_RULE_CMD_INDEX i)

/-- Eight staging registers as one 512-bit value, register 0 in the highest bits. -/
def staged (f : Fld) (d : Device) : BitVec 512 :=
  BitVec.ofNat 512 ((List.range 8).foldl (fun n j => n * 2 ^ 64 + d.rg f j) 0)

/-- A 512-bit value into eight staging registers. -/
def unstage (f : Fld) (v : Nat) (d : Device) : Device :=
  (List.range 8).foldl (fun d j => d.ru f (v / 2 ^ (64 * (7 - j))) j) d

/-- A command rejected, with REJECTED set. -/
def ruleReject (d : Device) : Device := writeReject (d.ru F.COMPASS_RULE_CMD_REJECTED 1)

/-- Whether the staged action is rejected under R329. -/
def actionBad (d : Device) : Bool :=
  let w1 := d.rg F.COMPASS_RULE_ACT1_WORD1
  decide (2 ≤ bits w1 63 62) || !d.rb F.COMPASS_PG_NODE_VALID (bits w1 60 55)

/-- RULE_WRITE. -/
def ruleWrite (b : Bool) (i : Nat) : Device → Device := ruleCmd b i fun d =>
  if !bankWritable b d || actionBad d then ruleReject d
  else
    let e : RuleEnt := { value := staged F.COMPASS_RULE_KEY_VALUE d, mask := staged F.COMPASS_RULE_MASK_MASK d,
                         act0 := BitVec.ofNat 64 (d.rg F.COMPASS_RULE_ACT0_WORD0),
                         act1 := BitVec.ofNat 64 (d.rg F.COMPASS_RULE_ACT1_WORD1) }
    let d := d.setBank b (tabSet none (d.bank b) i (some e))
    { d with counters := tabSet 0 d.counters (ruleHits b i) 0 }

/-- RULE_INVALIDATE. -/
def ruleInvalidate (b : Bool) (i : Nat) : Device → Device := ruleCmd b i fun d =>
  if !bankWritable b d then ruleReject d
  else
    let d := ruleClear b i d
    { d with counters := tabSet 0 d.counters (ruleHits b i) 0 }

/-- RULE_READ: the staging registers and ENTRY_VALID take the entry, valid or not; one that nothing has written since the
memories were cleared holds zeros (Table 01-7). -/
def ruleRead (b : Bool) (i : Nat) : Device → Device := ruleCmd b i fun d =>
  let e := (tabGet none (d.bank b) i).getD { value := 0, mask := 0, act0 := 0, act1 := 0, valid := false }
  let d := unstage F.COMPASS_RULE_KEY_VALUE e.value.toNat (unstage F.COMPASS_RULE_MASK_MASK e.mask.toNat d)
  ((d.ru F.COMPASS_RULE_ACT0_WORD0 e.act0.toNat).ru F.COMPASS_RULE_ACT1_WORD1 e.act1.toNat).rub
    F.COMPASS_RULE_CMD_ENTRY_VALID e.valid

/-- MISS_ACTION_WRITE (R341). -/
def missActionWrite (b : Bool) (v : Word) (d : Device) : Device :=
  if bankWritable b d then d.ru (if b then F.COMPASS_MISS1_ACTION else F.COMPASS_MISS0_ACTION) v.toNat
  else writeReject d

/-- METER_CFG_WRITE (R347). -/
def meterCfgWrite (m : Nat) (v : Word) (d : Device) : Device :=
  (writeReg64 (F.COMPASS_METER_CFG_ENABLE.addr m) v d).setMeter m { tokens := 0, last := d.nowStamp }

/-! ### Meanings -/

/-- RECIRC_PASS2 (R336). -/
def execRecircPass2 (s : State) : Host.Outcome State Fault Refusal := onDev recircPass2 s
/-- BANK_SWAP (R342). -/
def execBankSwap (target : Bool) (s : State) : Host.Outcome State Fault Refusal :=
  onHost (fun d => d.rub F.COMPASS_BANK_ACTIVE target) s
/-- RULE_WRITE (R341). -/
def execRuleWrite (b : Bool) (i : Nat) (s : State) : Host.Outcome State Fault Refusal := onHost (ruleWrite b i) s
/-- RULE_READ (R341). -/
def execRuleRead (b : Bool) (i : Nat) (s : State) : Host.Outcome State Fault Refusal := onHost (ruleRead b i) s
/-- RULE_INVALIDATE (R341). -/
def execRuleInvalidate (b : Bool) (i : Nat) (s : State) : Host.Outcome State Fault Refusal :=
  onHost (ruleInvalidate b i) s
/-- MISS_ACTION_WRITE (R341). -/
def execMissActionWrite (b : Bool) (v : Word) (s : State) : Host.Outcome State Fault Refusal :=
  onHost (missActionWrite b v) s
/-- METER_CFG_WRITE (R347). -/
def execMeterCfgWrite (m : Nat) (v : Word) (s : State) : Host.Outcome State Fault Refusal :=
  onHost (meterCfgWrite m v) s

end Sys2Proof.Machine
end

