-- ==== Sys2Proof/Machine/Views.lean ====
section
/-!
DEFINITION. The two read-only views that PF1 and the Tender share: the COUNT block (R105, R240, R244, R378) and the
observer window onto the STABLE input buffer (R171).
-/

namespace Sys2Proof.Machine

/-- The 64-bit word at the 8-byte-aligned COUNT offset `o`. -/
def countWord (o : Nat) (d : Device) : Word :=
  if o = 0x62010 then BitVec.ofNat 64 (d.rg F.RECKON_STREC_PROD_PROD)
  else if o = 0x62018 then BitVec.ofNat 64 (d.rg F.RECKON_STREC_CONS_CONS)
  else if 0x200000 ≤ o ∧ o < 0x280000 then
    ((tabGet [] d.net.samples ((o - 0x200000) / 32))[(o - 0x200000) % 32 / 8]?).getD 0
  else if 0x300000 ≤ o ∧ o < 0x340000 then
    ((tabGet [] d.strec.ring ((o - 0x300000) / 64))[(o - 0x300000) % 64 / 8]?).getD 0
  else d.cnt o

/-- The byte at COUNT offset `o`. -/
def countByte (o : Nat) (d : Device) : Byte := BitVec.ofNat 8 ((countWord (o / 8 * 8) d).toNat / 256 ^ (o % 8))

/-- VIEW_SEQ. -/
def viewSeq (d : Device) : Nat :=
  (if d.cargo.stableValid then 2 ^ 63 else 0) + d.rg F.CARGO_STATUS_STABLE_CROSSING

/-- The byte at offset `o` of the observer window. -/
def imageByte (o : Nat) (d : Device) : Byte :=
  if o < 8 then BitVec.ofNat 8 (viewSeq d / 256 ^ o)
  else if 0x400000 ≤ o ∧ o < 0x400000 + d.rg F.CARGO_IMAGE_IN_SIZE then memRead 0 d.cargo.inStable (o - 0x400000)
  else 0

/-- `n` bytes of address space `sp` of Table 15-4 from offset `a`: 1 the counter view, 2 the image view. -/
def viewBytes (sp a n : Nat) (d : Device) : Bytes :=
  (List.range n).map fun i => if sp = 1 then countByte (a + i) d else imageByte (a + i) d

/-- Size of a view space. -/
def viewSize (sp : Nat) : Nat := if sp = 1 then 0x400000 else 0x800000

end Sys2Proof.Machine
end

