-- ==== Sys2Proof/Machine/Tender.lean ====
section
/-!
DEFINITION. The Tender (chapter 15): descriptors and lists, pieces and copy order, read and write engines, the
confirming read, errors and halts. The start of a channel is in Events.lean; the transfers of channels 0 to 15 are
Cargo's (Cargo.lean), and what they share with the host channels is here.
The choices it makes stand under notes/assumptions: 54 (DESIGN CHOICE), 55 (DEDUCED), 65 (DEDUCED).
-/

namespace Sys2Proof.Machine

/-! ### Descriptors (R458 to R460) -/

/-- The elements of a scatter-gather list of `n` elements; none when an element is malformed. -/
def listElems (bs : Bytes) : Nat → Option (List SgElem)
  | 0 => some []
  | n + 1 =>
    match listElems (bs.drop 16) n with
    | none => none
    | some l =>
      let len := leWord bs 1
      if len = 0 ∨ 2 ^ 32 ≤ len then none else some ({ addr := leWord bs 0, len := len } :: l)

/-- One side of a descriptor: its elements when they are valid in their space. -/
def descSide (sg : Bool) (count addr len space : Nat) (list : Bytes) : Option (List SgElem) :=
  let els := if sg then (if addr % 16 = 0 ∧ 1 ≤ count ∧ count ≤ 256 then listElems list count else none)
    else if len = 0 then none else some [{ addr := addr, len := len }]
  match els with
  | none => none
  | some l =>
    if l.foldl (fun n e => n + e.len) 0 = len ∧ (space = 0 ∨ l.all (fun e => e.addr + e.len ≤ viewSize space) = true)
    then some l else none

/-- The reserved bits of a descriptor are 0. -/
def descReservedOk (b : Bytes) : Bool :=
  bits (leWord b 0) 47 32 == 0 && bits (leWord b 3) 63 57 == 0 && bits (leWord b 3) 47 41 == 0
    && bits (leWord b 3) 31 0 == 0 && leWord b 6 == 0 && leWord b 7 == 0

/-- A descriptor with its lists, when R460 finds it valid. -/
def parseDesc (b src dst : Bytes) : Option TenderDesc :=
  let w0 := leWord b 0
  let w3 := leWord b 3
  let op := bits w0 63 56
  let ss := bits w0 51 50
  let ds := bits w0 49 48
  let len := bits w0 31 0
  if op = 0 ∨ 3 < op ∨ ss = 3 ∨ ds = 3 ∨ descReservedOk b = false then none
  else if op ≠ 3 ∧ ds ≠ 0 then none
  else if op = 2 ∧ (bit w0 53 = true ∨ ss ≠ 0) then none
  else if bit w0 54 = false ∧ leWord b 5 % 64 ≠ 0 then none
  else
    match descSide (bit w0 53) (bits w3 56 48) (leWord b 1) len ss src,
        descSide (bit w0 52) (bits w3 40 32) (leWord b 2) len ds dst with
    | some s, some t =>
      some { op := op, barrier := bit w0 55, last := bit w0 54, srcSpace := ss, length := len, src := s, dst := t,
             dstSpace := ds, pattern := BitVec.ofNat 64 (leWord b 4), next := leWord b 5 }
    | _, _ => none

/-! ### Pieces and copy order (R461, R463) -/

/-- The element that holds stream offset `p`, with the offset at which it starts. -/
def elemAt : List SgElem → Nat → Nat → Nat × SgElem
  | [], start, _ => (start, { addr := 0, len := 0 })
  | [e], start, _ => (start, e)
  | e :: es, start, p => if p < start + e.len then (start, e) else elemAt es (start + e.len) p

/-- A piece: its stream offset and length, the addresses it begins at, and whether it is copied downwards. -/
structure Piece where
  off : Nat
  len : Nat
  src : Nat
  dst : Nat
  down : Bool
  deriving DecidableEq, Repr

/-- The piece that holds stream offset `p`. -/
def pieceAt (t : TenderDesc) (p : Nat) : Piece :=
  let s := elemAt t.src 0 p
  let e := elemAt t.dst 0 p
  let off := max s.1 e.1
  let len := min (s.1 + s.2.len) (e.1 + e.2.len) - off
  let sa := s.2.addr + (off - s.1)
  let da := e.2.addr + (off - e.1)
  { off := off, len := len, src := sa, dst := da,
    down := t.op == 1 && t.srcSpace == 0 && decide (sa < da ∧ da < sa + len) }

/-- The copy position of stream offset `o`. -/
def copyPos (t : TenderDesc) (o : Nat) : Nat :=
  let p := pieceAt t o
  if p.down then p.off + (p.off + p.len - 1 - o) else o

/-- Destination-stream address of stream offset `o`. -/
def dstAddr (t : TenderDesc) (o : Nat) : Nat :=
  let e := elemAt t.dst 0 o
  e.2.addr + (o - e.1)

/-- Source-stream address of stream offset `o`. -/
def srcAddr (t : TenderDesc) (o : Nat) : Nat :=
  let e := elemAt t.src 0 o
  e.2.addr + (o - e.1)

/-- How many bytes at stream offsets `o`, `o + 1` and on have been received, at most `n`. -/
def gotUp (g : Tab (Option Byte)) (o : Nat) : Nat → Nat
  | 0 => 0
  | n + 1 => if (tabGet none g o).isSome then 1 + gotUp g (o + 1) n else 0

/-- How many bytes at stream offsets `o`, `o - 1` and below have been received, at most `n`. -/
def gotDown (g : Tab (Option Byte)) (o : Nat) : Nat → Nat
  | 0 => 0
  | n + 1 => if (tabGet none g o).isSome then 1 + gotDown g (o - 1) n else 0

/-- The received bytes at stream offsets `o` to `o + n - 1`. -/
def gotBytes (g : Tab (Option Byte)) (o n : Nat) : Bytes := (List.range n).map fun i => (tabGet none g (o + i)).getD 0

/-- The received bytes without those at stream offsets `o` to `o + n - 1`. -/
def gotDrop (g : Tab (Option Byte)) (o n : Nat) : Tab (Option Byte) := g.filter fun e => e.1 < o || o + n ≤ e.1

/-- Received bytes entered from stream offset `o`. -/
def gotPut (g : Tab (Option Byte)) (o : Nat) : Bytes → Tab (Option Byte)
  | [] => g
  | b :: bs => gotPut (tabPut (some b) g o) (o + 1) bs

/-! ### Ends of a run (R455, R467, R468) -/

/-- A channel's run replaced. -/
def Device.setRun (d : Device) (c : Nat) (r : TenderRun) : Device := d.setChan c { d.chan c with run := some r }

/-- Whether channel `c` is one of the host's (R14, R454). -/
def hostChan (c : Nat) : Bool := decide (16 ≤ c ∧ c ≤ 63)

/-- A staged byte takes its place by copy position. -/
def copyInsert (t : TenderDesc) (e : Nat × Option Byte) : List (Nat × Option Byte) → List (Nat × Option Byte)
  | [] => [e]
  | x :: xs => if copyPos t e.1 ≤ copyPos t x.1 then e :: x :: xs else x :: copyInsert t e xs

/-- The bytes staged before copy position `pos` are written, in copy order (R464, R467). DESIGN CHOICE: with Bus Master
Enable 0 they are discarded, since R409 lets no request leave. -/
def tenderFlush (c : Nat) (t : TenderDesc) (r : TenderRun) (pos : Nat) (d : Device) : Device :=
  let due := if d.bme then (r.srcGot.filter fun e => copyPos t e.1 < pos).foldr (copyInsert t) [] else []
  due.foldl (fun d e => (d.emit (.hostWrite (dstAddr t e.1) [e.2.getD 0])).count (tenderCnt c 0x10))
    (if due.isEmpty then d else d.ru F.TENDER_CH_PROGRESS_BYTES_DONE (r.done + due.length) c)

/-- ERR_INFO as a word (Table 15-8). -/
def errInfo (cause cls dir index off : Nat) : Nat :=
  cause * 2 ^ 56 + cls * 2 ^ 53 + dir * 2 ^ 52 + min index 65535 * 2 ^ 32 + off % 2 ^ 32

/-- The ERR registers of a channel. -/
def tenderLatch (c addr info desc : Nat) (d : Device) : Device :=
  let d := (d.ru F.TENDER_CH_ERR_ADDR_ADDR addr c).ru F.TENDER_CH_ERR_DESC_ADDR desc c
  let d := (d.ru F.TENDER_CH_ERR_INFO_CAUSE (bits info 63 56) c).ru F.TENDER_CH_ERR_INFO_CLASS (bits info 55 53) c
  let d := (d.ru F.TENDER_CH_ERR_INFO_DIR (bits info 52 52) c).ru F.TENDER_CH_ERR_INFO_DESC_INDEX (bits info 47 32) c
  d.ru F.TENDER_CH_ERR_INFO_BYTE_OFFSET (bits info 31 0) c

/-- A RUNNING channel halts (R467, R468): `pos` is the copy position of the first failed byte, when one is staged
about. -/
def tenderHalt (c cls cause dir addr off : Nat) (pos : Option Nat) (d : Device) : Device :=
  match (d.chan c).run with
  | none => d
  | some r =>
    let d := match r.desc, pos with
      | some t, some q => if t.op = 1 then tenderFlush c t r q d else d
      | _, _ => d
    let info := errInfo cause cls dir r.index off
    let d := tenderLatch c addr info r.descAddr (d.setChan c { st := .halted, run := none })
    let d := (d.count (tenderCnt c 0x18)).ru F.TENDER_HALTED_CHANNELS (d.rg F.TENDER_HALTED_CHANNELS ||| 2 ^ c)
    let d := (d.ru F.TENDER_EVT_STATUS_LAST_CHANNEL c).ru F.TENDER_EVT_STATUS_CH_ERROR 1
    let d := entryCompleteOpt r.entry (if cls = 4 then 0x11 else 0x10) { r0 := addr, r1 := info } d
    evRaiseIf (d.rb F.TENDER_EVT_EN_CH_ERROR) 446 d

/-- The last descriptor has finished (Table 15-2). -/
def tenderRunDone (c : Nat) (r : TenderRun) (d : Device) : Device :=
  let d := (d.setChan c { st := .idle, run := none }).count (tenderCnt c 0)
  evRaise (376 + c) (entryCompleteOpt r.entry 0 {} d)

/-- The descriptor in progress has finished. -/
def tenderDescDone (c : Nat) (t : TenderDesc) (r : TenderRun) (d : Device) : Device :=
  let d := d.count (tenderCnt c 8)
  if t.last then tenderRunDone c r d
  else descEnter c t.next (d.setRun c { descAddr := t.next, index := r.index + 1, entry := r.entry, metaDue := true })

/-! ### The engines (R461 to R464) -/

/-- Bytes of staging that a channel holds. -/
def stageOf (x : TenderCh) : Nat :=
  match x.run with
  | some r =>
    match r.desc with
    | some t => if t.op = 1 then r.reqSrc - r.done else if t.op = 3 then (r.reqSrc - r.done) + (r.reqDst - r.done) else 0
    | none => 0
  | none => 0

/-- Staging in use, in bytes. -/
def stageUsed (d : Device) : Nat := d.tender.foldl (fun n e => n + stageOf e.2) 0

/-- Bytes that a channel may yet reserve for one stream: half a host channel's share for each stream of a COMPARE, and
for channels 0 to 15 all that is free (R464). -/
def stageRoom (c : Nat) (t : TenderDesc) (held : Nat) (d : Device) : Nat :=
  let share := if hostChan c then d.rg F.TENDER_CFG_CH_STAGE_KIB * 1024 / (if t.op = 3 then 2 else 1)
    else held + 2 ^ 20
  min (share - held) (2 ^ 20 - stageUsed d)

/-- The read of copy position `q` of one stream: its stream offset, address and length, at most `most` bytes of host
memory (R461). -/
def nextRead (t : TenderDesc) (dst : Bool) (q room most : Nat) : Nat × Nat × Nat :=
  let p := pieceAt t q
  let j := q - p.off
  let host := (if dst then t.dstSpace else t.srcSpace) == 0
  if p.down then
    let e := p.src + p.len - j
    let n := min (min (p.len - j) (min most ((e - 1) % 4096 + 1))) room
    (p.off + p.len - j - n, e - n, n)
  else
    let a := (if dst then p.dst else p.src) + j
    let n := min (if host then min (p.len - j) (min most (4096 - a % 4096)) else p.len - j) room
    (q, a, n)

/-- Channel `c` issues its next read of one stream; none when it may not. -/
def tenderRequest (c : Nat) (dst : Bool) (t : TenderDesc) (r : TenderRun) (d : Device) : Option Device :=
  let q := if dst then r.reqDst else r.reqSrc
  let x := nextRead t dst q (stageRoom c t (q - r.done) d) d.pcie.pf0.maxRead
  let sp := if dst then t.dstSpace else t.srcSpace
  if t.length ≤ q ∨ x.2.2 = 0 then none
  else
    let r := if dst then { r with reqDst := q + x.2.2 } else { r with reqSrc := q + x.2.2 }
    if sp ≠ 0 then
      let b := viewBytes sp x.2.1 x.2.2 d
      some (d.setRun c (if dst then { r with dstGot := gotPut r.dstGot x.1 b }
        else { r with srcGot := gotPut r.srcGot x.1 b }))
    else if readFree d then
      some ((d.setRun c { r with reads := r.reads ++ [{ dst := dst, off := x.1, len := x.2.2 }] }).emit
        (.hostRead x.2.1 x.2.2))
    else none

/-- `n` bytes of the descriptor have been written or compared. -/
def tenderDone (c n : Nat) (r : TenderRun) (d : Device) : Device :=
  let r := { r with done := r.done + n }
  ((d.setRun c r).ru F.TENDER_CH_PROGRESS_BYTES_DONE r.done c).countN (tenderCnt c 0x10) n

/-- The fill bytes of stream offsets `o` to `o + n - 1`. -/
def fillBytes (p : Word) (o n : Nat) : Bytes :=
  (List.range n).map fun i => BitVec.ofNat 8 (p.toNat / 256 ^ ((o + i) % 8))

/-- One write of channel `c` in copy order, or one comparison; none when there is nothing to write or compare. -/
def tenderWrite (c : Nat) (t : TenderDesc) (r : TenderRun) (d : Device) : Option Device :=
  let p := pieceAt t r.done
  let j := r.done - p.off
  let left := p.len - j
  let mps := d.pcie.pf0.maxPayload
  if t.length ≤ r.done then none
  else if t.op = 3 then
    let n := min (gotUp r.srcGot r.done left) (gotUp r.dstGot r.done left)
    if n = 0 then none
    else
      let a := gotBytes r.srcGot r.done n
      let b := gotBytes r.dstGot r.done n
      let eq := ((a.zip b).takeWhile (fun e => e.1 == e.2)).length
      let d := tenderDone c eq
        { r with srcGot := gotDrop r.srcGot r.done n, dstGot := gotDrop r.dstGot r.done n } d
      if eq = n then some d else some (tenderHalt c 4 0x20 0 (dstAddr t (r.done + eq)) (r.done + eq) none d)
  else if d.bme = false then none
  else if p.down then
    let e := p.dst + left
    let top := p.off + left
    let n := gotDown r.srcGot (top - 1) (min left (min mps ((e - 1) % 4096 + 1)))
    if n = 0 then none
    else some ((tenderDone c n { r with srcGot := gotDrop r.srcGot (top - n) n } d).emit
      (.hostWrite (e - n) (gotBytes r.srcGot (top - n) n)))
  else
    let a := p.dst + j
    let most := min left (min mps (4096 - a % 4096))
    let n := if t.op = 2 then most else gotUp r.srcGot r.done most
    if n = 0 then none
    else
      let b := if t.op = 2 then fillBytes t.pattern r.done n else gotBytes r.srcGot r.done n
      some ((tenderDone c n { r with srcGot := gotDrop r.srcGot r.done n } d).emit (.hostWrite a b))

/-- Stream offset of the last byte that a COPY or FILL writes: the last in copy order. -/
def lastOffset (t : TenderDesc) : Nat := copyPos t (t.length - 1)

/-- Address of that byte. -/
def lastWritten (t : TenderDesc) : Nat := dstAddr t (lastOffset t)

/-- Whether a descriptor issues a confirming read after its last byte (R462). -/
def confirms (t : TenderDesc) : Bool := t.barrier && t.op != 3

/-- What the write engine does next for host channel `c`: a write or a comparison, or the end of a descriptor that needs
no confirming read; none when it has nothing to do. -/
def hostWriteAct (c : Nat) (d : Device) : Option Device :=
  match (d.chan c).run with
  | none => none
  | some r =>
    match r.desc with
    | none => none
    | some t =>
      match tenderWrite c t r d with
      | some d => some d
      | none => if r.done < t.length ∨ confirms t = true then none else some (tenderDescDone c t r d)

/-- The next read of host channel `c`: of a descriptor or a list, of data, or the confirming read; none when it may issue
none. -/
def hostReadAct (c : Nat) (d : Device) : Option Device :=
  match (d.chan c).run with
  | none => none
  | some r =>
    match r.desc with
    | none =>
      if !readFree d then none
      else if r.metaDue then some (tenderFetch c r d)
      else r.again.map fun x => (d.setRun c { r with again := none }).emitRead x.1 x.2
    | some t =>
      if t.length ≤ r.done then
        if confirms t && !r.confirming && readFree d then
          some ((d.setRun c { r with confirming := true }).emit (.hostRead (lastWritten t) 0))
        else none
      else if t.op = 2 then none
      else if t.op = 3 ∧ r.reqDst < r.reqSrc then
        match tenderRequest c true t r d with
        | some d => some d
        | none => tenderRequest c false t r d
      else
        match tenderRequest c false t r d with
        | some d => some d
        | none => if t.op = 3 then tenderRequest c true t r d else none

/-! ### The reserved channels (R30, R159, R165, R454) -/

/-- Whether the hand-over runs (R159). -/
def handoverRuns (d : Device) : Bool := d.rb F.CARGO_STATUS_ATTACHED && liveState d.st

/-- Address of the sequence block. -/
def seqAddr (d : Device) : Nat := d.rg F.CARGO_HOST_SEQ_ADDR_ADDR * 64

/-- Whether a transfer of Cargo that has moved `n` bytes may move more within the rate of R30, 50 bytes per ns. -/
def rateAllows (r : TenderRun) (n : Nat) (d : Device) : Bool := decide (2 * n ≤ 125 * d.since r.since)

/-- The reads that Cargo's fetch on channel 0 may issue: that of OUT_SEQ, then those of the image, before those of any
host channel and within the rate of R30 (R464); every read of the image asks for a byte at least. -/
def reservedReads : Nat → Device → Device
  | 0, d => d
  | fuel + 1, d =>
    match (d.chan 0).run with
    | none => d
    | some r =>
      match r.desc with
      | none =>
        if r.metaDue && handoverRuns d && readFree d then
          (d.setRun 0 { r with metaDue := false }).emit (.hostRead (seqAddr d + 8) 8)
        else d
      | some t =>
        if handoverRuns d && rateAllows r r.reqSrc d then
          match tenderRequest 0 false t r d with
          | some d => reservedReads fuel d
          | none => d
        else d

/-- The input buffer that the snapshot in progress writes (Table 05-1). -/
def snapBuffer (s : Snapshot) (d : Device) : Mem := if s.held then d.cargo.inSpare else d.cargo.inStable

/-- The next write of the snapshot's data on channel 1, its first descriptor; the last of them is what the sentinel
SNAPSHOT measures (Table 13-2). -/
def snapData (s : Snapshot) (t : TenderDesc) (r : TenderRun) (d : Device) : Device :=
  let a := dstAddr t r.done
  let n := min (t.length - r.done) (min d.pcie.pf0.maxPayload (4096 - a % 4096))
  let e := (tenderDone 1 n r d).emit (.hostWrite a (memSlice 0 (snapBuffer s d) r.done n))
  if r.done + n < t.length then e
  else
    let limit : Int := ((d.rg F.CARGO_IMAGE_IN_SIZE + 49) / 50 : Nat)
    logSlack 3 (slackRaw s.from_ limit d.raw)
      (descEnter 1 0 ((e.count (tenderCnt 1 8)).setRun 1 { r with index := 1, done := 0 }))

/-- IN_SEQ, the snapshot's second descriptor, is written, and with it the snapshot consumes its COUNT (R165, R167). -/
def snapSeq (s : Snapshot) (r : TenderRun) (d : Device) : Device :=
  { tenderDone 1 8 { r with index := 1, done := 0 } d with cargo.snapCount := (s.count + 1) % 2 ^ 15 }.emit
    (.hostWrite (seqAddr d) (leBytes 8 (2 ^ 63 + s.count * 2 ^ 48 + s.crossing % 2 ^ 48)))

/-- The next write of the snapshot, within the rate of R30, or its confirming read; none when it may do nothing now. -/
def snapAct (d : Device) : Option Device :=
  match d.cargo.snap, (d.chan 1).run with
  | some s, some r =>
    match r.desc with
    | none => none
    | some t =>
      if r.confirming || !handoverRuns d || !d.bme then none
      else if r.index = 1 ∧ r.done = 8 then
        if readFree d then some ((d.setRun 1 { r with confirming := true }).emit (.hostRead (seqAddr d) 0)) else none
      else if !rateAllows r (if r.index = 1 then t.length else r.done) d then none
      else if r.index = 1 ∨ t.length = 0 then some (snapSeq s r d)
      else some (snapData s t r d)
  | _, _ => none

/-! ### The engines run (R464) -/

/-- What the write engine does next for channel `c`. -/
def writeAct (c : Nat) (d : Device) : Option Device :=
  if hostChan c then hostWriteAct c d else if c = 1 then snapAct d else none

/-- The channel after `c` in a rotation over `lo` to 63. -/
def turnAfter (lo c : Nat) : Nat := if c = 63 then lo else c + 1

/-- The first channel from `c` on, in rotation over `lo` to 63, that has something to do, of the `n` looked at. -/
def turnFrom (act : Nat → Device → Option Device) (lo : Nat) (d : Device) : Nat → Nat → Option (Nat × Device)
  | 0, _ => none
  | n + 1, c =>
    match act c d with
    | some d => some (c, d)
    | none => turnFrom act lo d n (turnAfter lo c)

/-- One turn of the write engine over all channels, then one of the read engine over the host's, after the reserved ones;
none when neither has anything to do. -/
def tenderRound (d : Device) : Option Device :=
  match turnFrom writeAct 0 d 64 d.writeTurn with
  | some (c, e) =>
    let e := reservedReads 768 { e with writeTurn := turnAfter 0 c }
    match turnFrom hostReadAct 16 e 48 e.tenderTurn with
    | some (c, f) => some { f with tenderTurn := turnAfter 16 c }
    | none => some e
  | none =>
    let e := reservedReads 768 d
    match turnFrom hostReadAct 16 e 48 e.tenderTurn with
    | some (c, f) => some { f with tenderTurn := turnAfter 16 c }
    | none => none

/-- The engines take turns until neither has anything to do; every turn moves at least one byte, so `fuel` never runs
out. -/
def tenderPumpAux : Nat → Device → Device
  | 0, d => d
  | fuel + 1, d =>
    match tenderRound d with
    | none => reservedReads 768 d
    | some d => tenderPumpAux fuel d

/-- The engines run as far as they can (R464). -/
def tenderPump (d : Device) : Device := if d.tender.isEmpty then d else tenderPumpAux (2 ^ 41) d

/-! ### The rows of the Tender -/

/-- TENDER_DESCRIPTOR_FETCHED: the descriptor and its lists have been read (R458 to R460); no list is read while Bus
Master Enable is 0 (R457). -/
def tenderDescriptorFetched (c : Nat) (desc src dst : Bytes) (d : Device) : Device :=
  match (d.chan c).run with
  | none => d
  | some r =>
    let w0 := leWord desc 0
    if r.metaDue || r.again.isSome || r.desc.isSome || ((bit w0 53 || bit w0 52) && !d.bme) then d
    else
      let d := if bit w0 53 && !r.listed.contains false then d.emitRead (leWord desc 1) src.length else d
      let d := if bit w0 52 && !r.listed.contains true then d.emitRead (leWord desc 2) dst.length else d
      match parseDesc desc src dst with
      | none => tenderPump (tenderHalt c 3 0x10 0 r.descAddr 0 none d)
      | some t => tenderPump (d.setRun c { r with desc := some t, reading := .desc, listed := [], tries := 0 })

/-- The reads in flight after `n` bytes of the one at offset `o` have arrived. -/
def readArrive (dst : Bool) (o n : Nat) : List TenderRead → List TenderRead
  | [] => []
  | x :: xs =>
    if x.dst = dst ∧ x.off ≤ o ∧ o + n ≤ x.off + x.len then
      let before := if x.off < o then [{ x with len := o - x.off }] else []
      let after := if o + n < x.off + x.len then [{ x with off := o + n, len := x.off + x.len - (o + n) }] else []
      before ++ after ++ xs
    else x :: readArrive dst o n xs

/-- Whether a read in flight covers the `n` bytes at offset `o`. -/
def readCovers (dst : Bool) (o n : Nat) (l : List TenderRead) : Bool :=
  l.any fun x => x.dst == dst && decide (x.off ≤ o ∧ o + n ≤ x.off + x.len)

/-- TENDER_READ_COMPLETE: a completion brings the bytes at an offset of one stream. -/
def tenderReadComplete (c : Nat) (dst : Bool) (o : Nat) (data : Bytes) (d : Device) : Device :=
  match (d.chan c).run with
  | none => d
  | some r =>
    if data.isEmpty || !readCovers dst o data.length r.reads then d
    else
      let r := { r with reads := readArrive dst o data.length r.reads }
      tenderPump (d.setRun c (if dst then { r with dstGot := gotPut r.dstGot o data }
        else { r with srcGot := gotPut r.srcGot o data }))

/-- Whether the metadata read `k` is the one in progress of run `r`, or one that follows it: the descriptor's comes
first, then the source list's, then the destination list's. -/
def metaComes (r : TenderRun) (k : TenderReadKind) : Bool :=
  r.desc.isNone && !r.metaDue && r.again.isNone &&
    match r.reading, k with
    | .desc, .desc | .desc, .list .. => true
    | .list s a n, .list t b m => (s == t && a == b && n == m) || (!s && t)
    | _, _ => false

/-- Address and length of a metadata read of run `r`. -/
def metaAt (r : TenderRun) (k : TenderReadKind) : Nat × Nat := match k with | .list _ a n => (a, n) | _ => (r.descAddr, 64)

/-- The metadata read `k` of run `r` is in progress, and its retries begin; it was issued when the one before it came
back. -/
def metaTurn (c : Nat) (k : TenderReadKind) (r : TenderRun) (d : Device) : TenderRun × Device :=
  if k = r.reading then (r, d)
  else
    let r := { r with reading := k, tries := 0, listed := match k with | .list dst _ _ => dst :: r.listed | _ => r.listed }
    (r, (d.setRun c r).emitRead (metaAt r k).1 (metaAt r k).2)

/-- The failed metadata read `k` is issued again, or halts the channel once its own retries are used up (R466); with Bus
Master Enable 0 it waits to be issued (R457). -/
def metaFailed (c : Nat) (k : TenderReadKind) (cause : Nat) (r : TenderRun) (d : Device) : Device :=
  let x := metaTurn c k r d
  let r := x.1
  let d := x.2
  let a := metaAt r k
  if r.tries < d.rg F.TENDER_CFG_RETRY_MAX then
    let d := (d.setRun c { r with tries := r.tries + 1, again := if d.bme then none else some a }).count (tenderCnt c 0x20)
    if d.bme then d.emitRead a.1 a.2 else d
  else tenderPump (tenderHalt c 2 cause 0 a.1 0 none d)

/-- TENDER_READ_ERROR (R465). -/
def tenderReadError (c : Nat) (what : TenderReadKind) (cause : Nat) (d : Device) : Device :=
  match (d.chan c).run with
  | none => d
  | some r =>
    match what, r.desc with
    | .desc, none | .list .., none => if metaComes r what then metaFailed c what cause r d else d
    | .data dst o, some t =>
      if readCovers dst o 1 r.reads then
        tenderPump (tenderHalt c 1 cause 0 (if dst then dstAddr t o else srcAddr t o) o (some (copyPos t o)) d)
      else d
    | .confirm, some t =>
      if r.confirming then tenderPump (tenderHalt c 1 cause 1 (lastWritten t) (lastOffset t) none d) else d
    | _, _ => d

/-- BARRIER_READ_DONE: the confirming read has completed. -/
def barrierReadDone (c : Nat) (d : Device) : Device :=
  match (d.chan c).run with
  | none => d
  | some r =>
    match r.desc with
    | some t => if r.confirming then tenderPump (tenderDescDone c t r d) else d
    | none => d

/-- TENDER_ABORT: a RUNNING host channel halts with CLASS 5. -/
def tenderAbort (c : Nat) (d : Device) : Device :=
  match (d.chan c).run with
  | none => d
  | some r => tenderPump (tenderHalt c 5 0x30 0 r.descAddr 0 none d)

/-- The latch of a channel is cleared. -/
def tenderUnlatch (c : Nat) (d : Device) : Device :=
  tenderLatch c 0 0 0 (d.ru F.TENDER_HALTED_CHANNELS (d.rg F.TENDER_HALTED_CHANNELS &&& (2 ^ 64 - 1 - 2 ^ c)))

/-- TENDER_CLEAR: a HALTED channel becomes IDLE. -/
def tenderClear (c : Nat) (d : Device) : Device :=
  if (d.chan c).st = .halted then tenderUnlatch c (d.setChan c {}) else d

/-- Every host channel stops at once and is IDLE (Table 15-2). Their TENDER_RUN entries stay open. -/
def tenderStop (d : Device) : Device :=
  { d with tender := (d.tender.map fun e =>
      if e.2.st = .running then (e.1, ({} : TenderCh)) else e).filter fun e => e.2.st != .idle }

/-! ### Meanings -/

/-- TENDER_DESCRIPTOR_FETCHED (R460). -/
def execTenderDescriptorFetched (c : Nat) (desc src dst : Bytes) (s : State) : Host.Outcome State Fault Refusal :=
  onDev (fun d => if hostChan c then tenderDescriptorFetched c desc src dst d else d) s
/-- TENDER_ABORT (R455); ignored for channels 0 to 15 (R454). -/
def execTenderAbort (c : Nat) (s : State) : Host.Outcome State Fault Refusal :=
  onHost (fun d => if hostChan c then tenderAbort c d else d) s
/-- TENDER_CLEAR (R455); ignored for channels 0 to 15 (R454). -/
def execTenderClear (c : Nat) (s : State) : Host.Outcome State Fault Refusal :=
  onHost (fun d => if hostChan c then tenderClear c d else d) s

end Sys2Proof.Machine
end

