-- ==== Sys2Proof/Machine/Queues.lean ====
section
/-!
DEFINITION. The commands of the host queues (chapter 14): doorbells and indices, fetch, the I/O entries SEND, RX_POST,
NOP and TENDER_RUN, and the admin pair with its queue commands. ACYCLIC_SEND and the spare claims are with the crossing
engine, the chart and life-cycle commands with the chart.
The choices it makes stand under notes/assumptions: 25 (DEDUCED), 51 (DEDUCED), 52 (DEDUCED), 53 (DEDUCED), 80
(DEDUCED).
-/

namespace Sys2Proof.Machine

/-! ### Doorbells, indices, fetch (R411 to R420) -/

/-- SQ_DOORBELL: a ring for a queue that does not exist is counted (R411). -/
def sqDoorbell (q : Nat) (d : Device) : Device :=
  let s := d.sq q
  if s.present ∧ (q ≠ adminQ ∨ d.rb F.QUEUE_ADMIN_CFG_ENABLE = true) then fetchAll (d.setSq q { s with wanted := true })
  else d.count 0xB0000

/-- CQ_DOORBELL (R440). -/
def cqDoorbell (q : Nat) (d : Device) : Device :=
  let c := d.cq q
  if !c.present then d.count 0xB0000
  else if !c.notify then d
  else
    let d := d.setCq q { c with armed := true }
    if c.prod ≠ c.cons then evRaiseWith 384 [c.vector] d else d

/-- Whether a write of P is rejected (R415). -/
def prodRejected (s : Sq) (v : BitVec 32) : Bool :=
  decide (2 ^ s.sizeLog2 < (v - s.cons).toNat) || (v != s.prod && decide ((s.prod - v).toNat < 2 ^ 31))

/-- SQ_PROD_WRITE (R415). -/
def sqProdWrite (q : Nat) (v : BitVec 32) (d : Device) : Device :=
  let s := d.sq q
  if !s.present then d
  else if prodRejected s v then
    queueEvent F.QUEUE_EVT_STATUS_SQ_OVERRUN F.QUEUE_EVT_EN_SQ_OVERRUN 386 q (d.count 0xB0008)
  else fetchAll (d.setSq q { s with prod := v })

/-- CQ_CONS_WRITE (R416, R442). -/
def cqConsWrite (q : Nat) (v : BitVec 32) (d : Device) : Device :=
  let c := d.cq q
  if !c.present then d
  else if (c.prod - c.cons).toNat < (v - c.cons).toNat then
    queueEvent F.QUEUE_EVT_STATUS_CQ_CONS_INVALID F.QUEUE_EVT_EN_CQ_CONS_INVALID 387 q (d.count 0xB0010)
  else fetchAll (cqDrain q (d.setCq q { c with cons := v }))

/-- SQ_INVALIDATE (R420): every cached unit whose entry has not started goes. -/
def sqInvalidate (q : Nat) (d : Device) : Device :=
  let s := d.sq q
  if !s.present ∨ q = adminQ then d
  else (d.setSq q { s with cache := [], sending := none, listTries := 0, invalidating := true }).count 0xB0028

/-- INVALIDATE_DONE (R420): a fetch read that was in flight is discarded too, and the queue fetches again from C. -/
def invalidateDone (q : Nat) (d : Device) : Device :=
  let s := d.sq q
  if s.invalidating then
    fetchAll (d.setSq q { s with invalidating := false, cache := [], inflight := 0, tries := 0, wanted := true })
  else d

/-- UNIT_FETCH_DONE (R418): a read that failed goes again when the queue may read, until its retries are used up. -/
def unitFetchDone (q : Nat) (r : HostRead) (d : Device) : Device :=
  let s := d.sq q
  if s.inflight = 0 then d
  else if s.invalidating ∨ s.deleting.isSome = true then d.setSq q { s with inflight := 0, tries := 0 }
  else
    match r with
    | .ok b =>
      if b.length ≠ 32 * s.inflight then d
      else fetchAll (d.setSq q { s with inflight := 0, tries := 0, cache := s.cache ++ chunks 32 b })
    | .failed _ =>
      if s.tries < d.rg F.QUEUE_CFG_RETRY_MAX then
        fetchAll (d.setSq q { s with inflight := 0, tries := s.tries + 1, wanted := true })
      else
        queueEvent F.QUEUE_EVT_STATUS_QUEUE_FAULT F.QUEUE_EVT_EN_QUEUE_FAULT 389 q
          (d.setSq q { s with inflight := 0, tries := 0, fault := true, wanted := false })

/-! ### Entries -/

/-- NOP. -/
def nopEntry (q : Nat) (d : Device) : Device := entryStep q 0 word0Reserved (fun e d => entryNow q e 0 0 {} d) d

/-- RX_POST: an entry that passes its checks is a buffer as soon as it is fetched; one that fails them is refused once it
heads the queue (R417, R423). -/
def rxPost (q : Nat) (d : Device) : Device := entryStep q 2 rxPostReserved (fun _ d => d) d

/-- TENDER_RUN (R434). -/
def tenderRunEntry (q : Nat) (d : Device) : Device :=
  entryStep q 4 (fun b => word0Reserved b || entryUnits b != 1) (fun e d =>
    let c := leWord e.bytes 0 % 64
    if c < 16 then entryNow q e 0 0x12 {} d
    else
      match (d.chan c).st with
      | .running => d
      | .halted => entryNow q e 0 0x10 {} d
      | .idle =>
        let r := entryStart q e 0 d
        tenderStart c (leWord e.bytes 1) (some r.1) r.2) d

/-! ### SEND (R426 to R429) -/

/-- Reserved bits and encodings of a SEND entry (Tables 14-6, 14-7). -/
def sendReserved (b : Bytes) : Bool :=
  let w0 := leWord b 0
  let u := leWord b 4
  word0Reserved b || wordHas b 0 0x7000E00 || (bit w0 30 && wordHas b 2 (2 ^ 64 - 1)) || wordHas b 3 (2 ^ 64 - 2 ^ 32)
    || (bit w0 31 && (wordHas b 4 (2 ^ 57 - 2 ^ 46) || wordHas b 4 0x30000 || wordHas b 7 (2 ^ 32 - 1)
      || decide (4 ≤ bits u 63 61)))

/-- Scatter-gather pairs read from a byte string: address, length and whether the second word is legal. -/
def sgPairs (n : Nat) (b : Bytes) : List (Nat × Nat × Bool) :=
  (List.range n).map fun k =>
    (leWord b (2 * k), leWord b (2 * k + 1) % 2 ^ 32, decide (leWord b (2 * k + 1) < 2 ^ 32 ∧ leWord b (2 * k + 1) ≠ 0))

/-- The first three cases of R427, which the entry alone decides. -/
def sgEntryOk (b : Bytes) : Bool :=
  let w0 := leWord b 0
  let n := w0 % 512
  let ext := if bit w0 31 then 1 else 0
  decide (1 ≤ n ∧ n ≤ 256) &&
    (if bit w0 30 then entryUnits b == 1 + ext && leWord b 1 % 16 == 0
     else decide (n ≤ 15 - 2 * ext) && entryUnits b == 1 + ext + n / 2)

/-- Sum of the pair lengths. -/
def sgTotal (l : List (Nat × Nat × Bool)) : Nat := l.foldl (fun n e => n + e.2.1) 0

/-- The last two cases of R427. -/
def sgPairsOk (l : List (Nat × Nat × Bool)) : Bool :=
  l.all (fun e => e.2.2) && decide (14 ≤ sgTotal l ∧ sgTotal l ≤ 16380)

/-- The stamp and launch request is valid for a frame of `n` bytes (R238, R428). -/
def stampOk (x : SendCtx) (ns n : Nat) : Bool :=
  let len := match x.stampOp with | 1 => 10 | 2 => 12 | 3 => 8 | _ => 0
  let timeOk := x.stampOp == 0 || decide (14 ≤ x.stampOffset ∧ x.stampOffset + len ≤ n)
  let corrOk := x.corrOffset == 0 || (x.stampOp == 1
    && (decide (x.corrOffset + 8 ≤ x.stampOffset) || decide (x.stampOffset + len ≤ x.corrOffset)))
  timeOk && corrOk && (!x.launch || decide (ns ≤ 999999999))

/-- The context of a SEND entry of a queue whose timebase is `tb`, for a frame of `n` bytes. -/
def sendCtx (b : Bytes) (tb n : Nat) : SendCtx :=
  let w0 := leWord b 0
  let ext := bit w0 31
  let u := if ext then leWord b 4 else 0
  { len := entryUnits b, batchEnd := bit w0 51, cid := bits w0 47 32, head := b.take 8, frameLen := n,
    csumL3 := bit w0 29, csumL4 := bit w0 28, stream := if bit w0 27 then some (bits w0 23 12) else none, ext := ext,
    stampOp := bits u 63 61, record := bit u 60, tb := if ext then bits u 59 58 else tb, launch := bit u 57,
    stampOffset := bits u 45 32, corrOffset := bits u 31 18, tag := u % 2 ^ 16,
    refRaw := if ext then { count := BitVec.ofNat 64 (leWord b 5), frac := BitVec.ofNat 16 (bits (leWord b 6) 63 48) }
      else { count := 0 },
    launchTime := if ext then ((bits (leWord b 6) 47 0 * 1000000000 + bits (leWord b 7) 63 32 : Nat) : Int) else 0 }

/-- The pairs of an entry are known: the rest of the checks, and the reads of the frame and of its first 8 bytes. -/
def sendPairs (q : Nat) (e : Entry) (l : List (Nat × Nat × Bool)) (d : Device) : Device :=
  let s := d.sq q
  let x := sendCtx e.bytes s.tb (sgTotal l)
  if !sgPairsOk l then entryRefuse q e 0x04 d
  else if !stampOk x (bits (leWord e.bytes 7) 63 32) (sgTotal l) then entryRefuse q e 0x0D d
  else
    let slot := s.cons.toNat % 2 ^ s.sizeLog2
    let d := (d.setSq q { s with sending := some x }).emit (.hostRead (s.base + 32 * slot) 8)
    l.foldl (fun d p => d.emitRead p.1 p.2.1) d

/-- SEND: the checks of Table 14-5; `list` is what the read of an indirect list returned. A read that failed is issued
again by the next SEND of the queue, up to RETRY_MAX times (R427). An entry waits while no tag is free for its reads. -/
def sendEntry (q : Nat) (list : HostRead) (d : Device) : Device :=
  if !d.bme || !queueTag d then d
  else entryStep q 1 sendReserved (fun e d =>
    let w0 := leWord e.bytes 0
    let n := w0 % 512
    if !sgEntryOk e.bytes then entryRefuse q e 0x04 d
    else if bit w0 30 then
      let d := d.emitRead (leWord e.bytes 1) (16 * n)
      match list with
      | .ok b =>
        if b.length = 16 * n then sendPairs q e (sgPairs n b) (d.setSq q { d.sq q with listTries := 0 }) else d
      | .failed _ =>
        let s := d.sq q
        if s.listTries < d.rg F.QUEUE_CFG_RETRY_MAX then d.setSq q { s with listTries := s.listTries + 1 }
        else entryRefuse q e 0x09 (d.setSq q { s with listTries := 0 })
    else
      let rest := e.bytes.drop (if bit w0 31 then 64 else 32)
      sendPairs q e (sgPairs n (slice e.bytes 16 16 ++ rest)) d) d

/-- Device states that accept a timed launch (R251). -/
def timedAllowed (st : DevState) : Bool :=
  match st with
  | .muster | .firstCrossing | .test | .recovery => true
  | .off | .reset | .wipe | .load | .run | .dormant | .halt => false

/-- A whole frame of a SEND entry is offered to Helm, or replicated (R429, R251, R305). A tagged frame of a stream that
decodes and does not recover loses its R-TAG first (R302). DEDUCED: STAMP_OFFSET and CORR_OFFSET count in the frame as it
leaves. -/
def sendOffer (q : Nat) (ref : EntryRef) (x : SendCtx) (bytes : Bytes) (d : Device) : Device :=
  let s := d.sq q
  let mk : Bytes → Nat → Device → TxFrame × Device := fun b n d =>
    let j := jobNew ref n none d
    ({ bytes := b, flow := q, ctx := some x, job := some j.1 }, j.2)
  if x.launch && !timedAllowed d.st then entryComplete ref 0x06 {} (d.count (stampCnt s.port 0x10))
  else
    match x.stream with
    | some st =>
      let b := if d.rb F.REDUN_STREAM_CFG_DECODE st && !d.rb F.REDUN_STREAM_CFG_RECOVER st then rtagRemove bytes else bytes
      if d.rb F.REDUN_STREAM_CFG_GENERATE st then
        (helmReplicate st s.cls b (mk b) (entryComplete ref 0x05 {}) (entryComplete ref 0 {}) d).2
      else (helmOffer s.port s.cls (mk b 1 d).1 (mk b 1 d).2).2
    | none => (helmOffer s.port s.cls (mk bytes 1 d).1 (mk bytes 1 d).2).2

/-- SEND_FRAME_FETCHED: the frame data and the first 8 bytes of the entry have been read (R421). -/
def sendFrameFetched (q : Nat) (head : Bytes) (frame : HostRead) (d : Device) : Device :=
  let s := d.sq q
  match s.sending, s.entryAt 0 with
  | some x, some e =>
    let go := fun (st : Nat) => entryRefuse q e st (d.setSq q { s with sending := none })
    match frame with
    | .failed _ => go 0x09
    | .ok b =>
      if b.length ≠ x.frameLen ∨ head.length ≠ 8 then d
      else if head ≠ x.head then go 0x0C
      else
        let r := entryStart q e x.tb (d.setSq q { s with sending := none })
        fetchAll (sendOffer q r.1 x b r.2)
  | _, _ => d

/-! ### The admin pair (R444, R445) -/

/-- ADMIN_ENABLE: a write of QUEUE_ADMIN_CFG. -/
def adminEnable (w : Word) (d : Device) : Device :=
  let v := w.toNat
  let was := d.rb F.QUEUE_ADMIN_CFG_ENABLE
  let d := if bit v 61 then d.ru F.QUEUE_ADMIN_CFG_CFG_ERR 0 else d
  let d := (d.rub F.QUEUE_ADMIN_CFG_NOTIFY_EN (bit v 62)).ru F.QUEUE_ADMIN_CFG_VECTOR (bits v 10 0)
  let c := d.cq adminQ
  let d := if c.present then d.setCq adminQ { c with vector := bits v 10 0, notify := bit v 62 } else d
  let d := if was then d else
    (d.ru F.QUEUE_ADMIN_CFG_CQ_SIZE_LOG2 (bits v 36 32)).ru F.QUEUE_ADMIN_CFG_SQ_SIZE_LOG2 (bits v 28 24)
  if was ∧ bit v 63 = true then d
  else if !bit v 63 then
    let s := d.sq adminQ
    let d := if s.present then d.setSq adminQ { s with cache := [], inflight := 0, wanted := false, prod := s.cons } else d
    d.ru F.QUEUE_ADMIN_CFG_ENABLE 0
  else
    let sl := bits v 28 24
    let cl := bits v 36 32
    if 6 ≤ sl ∧ sl ≤ 12 ∧ 6 ≤ cl ∧ cl ≤ 12 then
      let d := d.ru F.QUEUE_ADMIN_CFG_ENABLE 1
      let d := d.setSq adminQ { present := true, base := d.rg F.QUEUE_ADMIN_SQ_BASE_ADDR * 4096, cq := adminQ, kind := 3,
                                sizeLog2 := sl, live := (d.sq adminQ).live }
      d.setCq adminQ { present := true, base := d.rg F.QUEUE_ADMIN_CQ_BASE_ADDR * 4096, sizeLog2 := cl, reserve := 4,
                       vector := bits v 10 0, notify := bit v 62, armed := bit v 62 }
    else d.ru F.QUEUE_ADMIN_CFG_CFG_ERR 1

/-- Whether the device's state permits chart and life-cycle command `op` (Table 17-12). -/
def chartOpAllowed (op : Nat) (st : DevState) : Bool :=
  match st with
  | .off | .reset | .wipe => false
  | .halt => op == 0x20 || op == 0x21 || op == 0x22 || op == 0x23 || op == 0x25
  | .load | .muster | .firstCrossing | .run | .test | .recovery | .dormant => true

/-- An admin command of opcode `op` that may run (R445): `qid` says that word 0 [15:0] must name a queue, which is judged
before the reserved bits; in HALT every command but those of Table 17-12 is refused (R450). -/
def adminPick (op : Nat) (qid : Bool) (reserved : Bytes → Bool) (d : Device) : Device ⊕ Entry :=
  match entryPick adminQ op (fun _ => false) d with
  | .inl d => .inl d
  | .inr e =>
    if qid ∧ 4095 < leWord e.bytes 0 % 2 ^ 16 then .inl (entryNow adminQ e 0 0x40 {} d)
    else if word0Reserved e.bytes ∨ 2 < entryUnits e.bytes ∨ reserved e.bytes then .inl (entryRefuse adminQ e 0x03 d)
    else if 0x20 ≤ op ∧ chartOpAllowed op d.st = false then .inl (entryNow adminQ e 0 0x46 {} d)
    else if op < 0x20 ∧ d.st = .halt then .inl (entryNow adminQ e 0 0x46 {} d)
    else .inr e

/-- An admin command of opcode `op`: `run` gives the status, the results and the new device. -/
def adminStep (op : Nat) (qid : Bool) (reserved : Bytes → Bool) (run : Bytes → Device → Nat × CompBody × Device)
    (d : Device) : Device :=
  match adminPick op qid reserved d with
  | .inl d => d
  | .inr e =>
    let r := entryStart adminQ e 0 d
    let x := run e.bytes r.2
    entryComplete r.1 x.1 x.2.1 x.2.2

/-- As `adminStep`, for a command that may also write the fuses or the flash. -/
def adminStepNv (op : Nat) (reserved : Bytes → Bool)
    (run : Bytes → NonVol → Device → Nat × CompBody × NonVol × Device) (n : NonVol) (d : Device) : NonVol × Device :=
  match adminPick op false reserved d with
  | .inl d => (n, d)
  | .inr e =>
    let r := entryStart adminQ e 0 d
    let x := run e.bytes n r.2
    (x.2.2.1, entryComplete r.1 x.1 x.2.1 x.2.2.2)

/-- Whether queue creation is accepted now (R23, Table 01-6). -/
def createOk (d : Device) : Bool := d.hq.createOk && d.st != .halt

/-- CREATE_CQ. -/
def createCq (d : Device) : Device :=
  adminStep 0x01 true (fun _ => false) (fun b d =>
    let q := leWord b 0 % 2 ^ 16
    let w := leWord b 2
    let st := if !createOk d then 0x46
      else if (d.cq q).present then 0x41
      else if leWord b 1 % 4096 ≠ 0 then 0x44
      else if w % 32 < 6 ∨ 16 < w % 32 ∨ bits w 63 48 < 4 then 0x43
      else if 32768 < reservations d + bits w 63 48 then 0x48
      else 0
    let c : Cq := { present := true, base := leWord b 1, sizeLog2 := w % 32, reserve := bits w 63 48,
                    vector := bits w 42 32, notify := bit w 31, armed := bit w 31 }
    (st, {}, if st = 0 then d.setCq q c else d)) d

/-- DELETE_CQ. -/
def deleteCq (d : Device) : Device :=
  adminStep 0x02 true (fun _ => false) (fun b d =>
    let q := leWord b 0 % 2 ^ 16
    let st := if !(d.cq q).present then 0x42
      else if d.hq.sqs.any (fun e => e.1 != adminQ && e.2.present && e.2.cq == q) then 0x45
      else 0
    (st, {}, if st = 0 then d.setCq q {} else d)) d

/-- CREATE_SQ. -/
def createSq (d : Device) : Device :=
  adminStep 0x03 true (fun b => bits (leWord b 2) 51 50 == 3) (fun b d =>
    let q := leWord b 0 % 2 ^ 16
    let w := leWord b 2
    let p := bits w 46 42
    let st := if !createOk d then 0x46
      else if (d.sq q).present then 0x41
      else if !(d.cq (bits w 63 52)).present then 0x42
      else if leWord b 1 % 4096 ≠ 0 then 0x44
      else if w % 32 < 6 ∨ 16 < w % 32 then 0x43
      else if bits w 51 50 = 0 ∧ egressOk p d = false then 0x47
      else 0
    let s : Sq := { present := true, base := leWord b 1, cq := bits w 63 52, kind := bits w 51 50, tb := bits w 49 48,
                    batching := bit w 47, port := p, cls := bits w 41 39, sizeLog2 := w % 32 }
    (st, {}, if st = 0 then d.setSq q s else d)) d

/-- Jobs of queue `q` of which no copy has begun to leave (R446). -/
def unsentJobs (q : Nat) (d : Device) : List Nat :=
  (d.net.jobs.filter (fun e =>
    match e.2 with
    | some j => j.entry.sq == q && j.best.isNone && !(d.net.ports.any fun p =>
        (match p.2.now with | some t => t.frame.job == some e.1 | none => false)
          || (match p.2.held with | some t => t.frame.job == some e.1 | none => false)
          || (match p.2.own with | some o => o.job == some e.1 | none => false))
    | none => false)).map (·.1)

/-- Every frame of the jobs `l` leaves the class queues, the launch lists and the offers, unsent. -/
def pullJobs (l : List Nat) (d : Device) : Device :=
  let keep := fun (f : TxFrame) => !(l.any fun j => f.job == some j)
  let d := { d with net.offers := d.net.offers.filter fun o => keep o.frame }
  d.net.ports.foldl (fun d e =>
    let x := d.port e.1
    let cs := x.classes.map fun c => (c.1, { c.2 with frames := c.2.frames.filter keep })
    refill e.1 (d.setPort e.1 { x with launch := x.launch.filter keep, waits := x.waits.filter fun w => keep w.2,
                                       classes := cs })) d

/-- The entries in the cache of queue `q`, oldest first, complete with QUEUE_DELETED; `n` bounds the loop. -/
def dropCached (q : Nat) : Nat → Device → Device
  | 0, d => d
  | n + 1, d =>
    match (d.sq q).entryAt 0 with
    | some e => dropCached q n (entryRefuse q e 0x08 d)
    | none => d

/-- The own ACYCLIC frames of queue `q` that still wait are given up. -/
def dropAcyclic (q : Nat) (d : Device) : Device :=
  let own := (d.cross.branches.map (fun b => b.2.acyQueue.filter (fun a => a.entry.sq == q))).flatten
  let bs := d.cross.branches.map fun b => (b.1, { b.2 with acyQueue := b.2.acyQueue.filter (fun a => a.entry.sq != q) })
  own.foldl (fun d a => entryComplete a.entry 0x08 {} d)
    { d with cross.branches := bs.filter fun b => b.2 != {} }

/-- DELETE_SQ (R446): the admin completion follows every completion of the queue. What its frames leave free serves others
that wait. -/
def deleteSq (d : Device) : Device :=
  match adminPick 0x04 true (fun _ => false) d with
  | .inl d => d
  | .inr e =>
    let q := leWord e.bytes 0 % 2 ^ 16
    if !(d.sq q).present then entryNow adminQ e 0 0x42 {} d
    else
      let r := entryStart adminQ e 0 d
      let d := r.2
      let s := d.sq q
      let d := d.setSq q { s with sending := none, listTries := 0, wanted := false, invalidating := false }
      let l := unsentJobs q d
      let d := l.foldl (fun d j => jobRefuse (some j) 0x08 d) (pullJobs l d)
      let d := dropCached q 16 (dropAcyclic q d)
      let s := d.sq q
      helmRetry (sqDeleteDone q (d.setSq q { s with deleting := some r.1.cid }))

/-- TEST_START or TEST_END (R447): the entry stays open until the boundary. -/
def testEntry (start : Bool) (d : Device) : Device :=
  match adminPick (if start then 0x07 else 0x08) false (fun _ => false) d with
  | .inl d => d
  | .inr e =>
    let ok := if start then d.st == .run && d.rb F.GLOBAL_CFG_TEST_PERMITTED else d.st == .test
    if !ok then entryNow adminQ e 0 0x4E {} d
    else
      let r := entryStart adminQ e 0 d
      { r.2 with hq.testReq := some (start, r.1) }

/-- The TEST_START or TEST_END command that waits completes with `status` (R447). -/
def testAnswer (status : Nat) (d : Device) : Device :=
  match d.hq.testReq with
  | none => d
  | some (_, e) => entryComplete e status {} { d with hq.testReq := none }

/-- The DELETE_SQ command that waits for queue `q` completes with STATE_NOT_PERMITTED; the queue stays. -/
def deleteGiveUp (q : Nat) (d : Device) : Device :=
  let s := d.sq q
  match s.deleting, (d.sq adminQ).live.find? (fun e => e.opcode == 0x04) with
  | some _, some e => entryComplete e 0x46 {} (d.setSq q { s with deleting := none })
  | _, _ => d

/-- The admin command that is at work at the entry into HALT completes with STATE_NOT_PERMITTED (R447, R450). -/
def adminHalt (d : Device) : Device := d.hq.sqs.foldl (fun d e => deleteGiveUp e.1 d) (testAnswer 0x46 d)

/-! ### Meanings -/

/-- SQ_DOORBELL (R418). -/
def execSqDoorbell (q : Nat) (s : State) : Host.Outcome State Fault Refusal := onHost (sqDoorbell q) s
/-- CQ_DOORBELL (R440). -/
def execCqDoorbell (q : Nat) (s : State) : Host.Outcome State Fault Refusal := onHost (cqDoorbell q) s
/-- SQ_PROD_WRITE (R415). -/
def execSqProdWrite (q : Nat) (v : BitVec 32) (s : State) : Host.Outcome State Fault Refusal :=
  onHost (sqProdWrite q v) s
/-- CQ_CONS_WRITE (R416). -/
def execCqConsWrite (q : Nat) (v : BitVec 32) (s : State) : Host.Outcome State Fault Refusal :=
  onHost (cqConsWrite q v) s
/-- SQ_INVALIDATE (R420). -/
def execSqInvalidate (q : Nat) (s : State) : Host.Outcome State Fault Refusal := onHost (sqInvalidate q) s
/-- INVALIDATE_DONE (R420). -/
def execInvalidateDone (q : Nat) (s : State) : Host.Outcome State Fault Refusal := onDev (invalidateDone q) s
/-- UNIT_FETCH_DONE (R418): a read that failed goes again when the queue may read, until its retries are used up. -/
def execUnitFetchDone (q : Nat) (r : HostRead) (s : State) : Host.Outcome State Fault Refusal :=
  onDev (unitFetchDone q r) s
/-- NOP (R423). -/
def execNop (q : Nat) (s : State) : Host.Outcome State Fault Refusal := onDev (nopEntry q) s
/-- SEND (R429). -/
def execSend (q : Nat) (l : HostRead) (s : State) : Host.Outcome State Fault Refusal := onDev (sendEntry q l) s
/-- SEND_FRAME_FETCHED (R421). -/
def execSendFrameFetched (q : Nat) (h : Bytes) (f : HostRead) (s : State) : Host.Outcome State Fault Refusal :=
  onDev (sendFrameFetched q h f) s
/-- RX_POST (R430). -/
def execRxPost (q : Nat) (s : State) : Host.Outcome State Fault Refusal := onDev (rxPost q) s
/-- TENDER_RUN (R434). -/
def execTenderRun (q : Nat) (s : State) : Host.Outcome State Fault Refusal := onDev (tenderRunEntry q) s
/-- ADMIN_ENABLE (R444). -/
def execAdminEnable (v : Word) (s : State) : Host.Outcome State Fault Refusal := onHost (adminEnable v) s
/-- CREATE_CQ (R445). -/
def execCreateCq (s : State) : Host.Outcome State Fault Refusal := onDev createCq s
/-- DELETE_CQ (R445). -/
def execDeleteCq (s : State) : Host.Outcome State Fault Refusal := onDev deleteCq s
/-- CREATE_SQ (R445). -/
def execCreateSq (s : State) : Host.Outcome State Fault Refusal := onDev createSq s
/-- DELETE_SQ (R446). -/
def execDeleteSq (s : State) : Host.Outcome State Fault Refusal := onDev deleteSq s
/-- TEST_START (R447). -/
def execTestStart (s : State) : Host.Outcome State Fault Refusal := onDev (testEntry true) s
/-- TEST_END (R447). -/
def execTestEnd (s : State) : Host.Outcome State Fault Refusal := onDev (testEntry false) s

end Sys2Proof.Machine
end

