-- ==== Sys2Proof/Machine/Modes.lean ====
section
/-!
DEFINITION. Port states (R266) and device states (R24): one operation each through which every command changes them,
and the entry into HALT.
The choices it makes stand under notes/assumptions: 25 (DEDUCED), 31 (DEDUCED), 43 (DEDUCED), 44 (DEDUCED), 69
(DEDUCED).
-/

namespace Sys2Proof.Machine

/-! ### Port states (R266 to R268) -/

/-- The lock bits of PORTn_STATE, as the port leaves the states in which its receiver is used. -/
def portUnlock (p : Nat) (d : Device) : Device :=
  let d := ((d.ru F.PORT_STATE_PCS_LOCK 0 p).ru F.PORT_STATE_FEC_LOCK 0 p).ru F.PORT_STATE_HI_BER 0 p
  ((d.ru F.PORT_STATE_AN_DONE 0 p).ru F.PORT_STATE_TRAINED 0 p).ru F.PORT_STATE_PATTERN_LOCK 0 p

/-- Port `p` leaves RUN: what it sends is cut off or lost, what it holds is discarded, its verify status falls back. -/
def portLeaveRun (p : Nat) (st : PortSt) (d : Device) : Device :=
  let d := lineCut p (st == .recovery) d
  peInitial p (helmFlush p (d.setPort p { d.port p with st := st, asm := none }))

/-- Whether a port in SLEEP wakes by pattern (Table 09-7). -/
def wakesByPattern (p : Nat) (d : Device) : Bool :=
  let m := d.rg F.PORT_MODE_MODE p
  m == 1 || m == 2 || ((m == 3 || m == 4) && d.rg F.PORT_MODE_FEC p == 0)

/-- What the transmitter of port `p` sends in its state (Tables 09-3 and 09-7): with AN_EN 0 it neither negotiates nor
trains, and sends its PCS at once (R263); in RECOVERY it trains after a restart of negotiation by the partner. -/
def portLine (p : Nat) (d : Device) : TxLine :=
  let x := d.port p
  let an := d.rb F.PORT_MODE_AN_EN p
  match x.st with
  | .idle | .fenced => .electricalIdle
  | .start => if an then .negotiation else .idle
  | .run => .frames
  | .test => .testPattern
  | .recovery => if an && x.training then .negotiation else .idle
  | .sleep => if wakesByPattern p d then .idle else .electricalIdle

/-- What branch `b` measures. -/
def Device.mstage (d : Device) (b : Nat) : Nat := tabGet 0 d.muster.stage b
/-- Branch `b` has a result. -/
def Device.judged (d : Device) (b : Nat) : Bool := tabGet false d.muster.judged b
/-- PORT_A of branch `b`. -/
def portA (b : Nat) (d : Device) : Nat := d.rg F.CROSS_BR_CFG_PORT_A b
/-- PORT_B of branch `b`. -/
def portB (b : Nat) (d : Device) : Nat := d.rg F.CROSS_BR_CFG_PORT_B b

/-- The port whose transmitter a line measurement holds at electrical idle, if any (R195). -/
def lineIdle (b : Nat) (d : Device) : Option Nat :=
  if d.judged b then none
  else if d.mstage b = 1 then some (portB b d) else if d.mstage b = 2 then some (portA b d) else none

/-- What the transmitter of port `p` sends: nothing while a line measurement holds it idle (R195), else as its state
says. -/
def transmitter (p : Nat) (d : Device) : TxLine :=
  if d.isArm p && d.st == .muster && lineIdle (d.rg F.PILOT_ARM_CFG_BRANCH p) d == some p then .electricalIdle
  else portLine p d

/-- What port `p` begins START with, unless it is held idle. With AN_EN 1 it negotiates: the one technology ability of
the chart's mode, and for 25 Gb/s modes RS-FEC ability and request equal to the FEC setting (R262). With AN_EN 0 it
starts its PCS with the equalisation of the chart (R263). -/
def negotiate (p : Nat) (d : Device) : Device :=
  let m := d.rg F.PORT_MODE_MODE p
  match transmitter p d with
  | .negotiation =>
    d.emit (.advertise p m (if m = 3 ∨ m = 4 then some (d.rg F.PORT_MODE_FEC p != 0) else none))
  | .idle => if d.rb F.PORT_MODE_AN_EN p then d else d.emit (.equalisation p (tabGet 0 d.netCfg.txEq p))
  | .electricalIdle | .frames | .testPattern => d

/-- Port `p` moves to `st` (R266): with STATE_CHANGE when that changes its state, and an attempt counted, with its
negotiation, when it enters START. -/
def portTo (p : Nat) (st : PortSt) (d : Device) : Device :=
  let old := (d.port p).st
  let d := if old = .run ∧ st ≠ .run then portLeaveRun p st d else d.setPort p { d.port p with st := st }
  let d := if st = .recovery then d else d.setPort p { d.port p with training := false }
  let d := if st = .run ∨ st = .recovery then d else portUnlock p d
  let d := if st = .start then negotiate p (d.rsat F.PORT_STATE_LINK_ATTEMPTS 1 p) else d
  if old = st then d else portStatus p 0 (d.emit (.transmitter p (transmitter p d)))

/-! ### Device states (R24, R254, R520) -/

/-- Code of a device state (Table 01-6). -/
def stCode (st : DevState) : Nat :=
  match st with
  | .off | .reset => 0
  | .wipe => 2
  | .load => 3
  | .muster => 4
  | .firstCrossing => 5
  | .run => 6
  | .test => 7
  | .recovery => 8
  | .dormant => 9
  | .halt => 15

/-- The device enters state `st`: the TIO pins are driven or float as it says (R250), and timed frames that it forbids
complete (R254). -/
def devGo (st : DevState) (d : Device) : Device :=
  let d := evRaise 1 (tioChangeAll (fun d => { d with st := st, hq.createOk := d.hq.createOk || st == .run }) d)
  if timedAllowed st then d else (List.range 32).foldl (fun d p => forbidTimed p d) d

/-- Whether a TAP instruction takes the pins (R541). -/
def takesPins (t : Nat) : Bool := [0x00, 0x05, 0x06, 0x07, 0x08].contains t

/-- The TAP's instruction once the device leaves RESET or HALT: one that takes the pins acts as BYPASS from then on
(R541). -/
def tapLeave (t : Nat) : Nat := if takesPins t then 0xFF else t

/-- The instruction that acts: one that takes the pins acts as BYPASS outside RESET and HALT (R541). -/
def tapActs (d : Device) : Nat := if d.st = .reset ∨ d.st = .halt then d.tap else tapLeave d.tap

/-- The device enters RESET or HALT: an instruction that waited for it takes the pins (R541). -/
def tapEnter (d : Device) : Device := if takesPins d.tap then d.emit (.jtag d.tap none) else d

/-- The device enters HALT (R24, R25, R450, R514): frames in flight are cut off, transmitters go idle, the Tender stops,
and a HALT_LOG record is due. -/
def halt (cause : Nat) (d : Device) : Device :=
  if d.st = .halt ∨ d.st = .off ∨ d.st = .reset then d
  else
    let log : HaltLog :=
      { cause := cause, left := stCode d.st, raw := d.raw, crossing := d.cross.current.getD 0 }
    let d := (devGo .halt d).ru F.GLOBAL_STATUS_HALT_CAUSE cause
    let d := (List.range 32).foldl (fun d p => if (d.port p).st = .idle then d else portTo p .idle d) d
    let d := tapEnter (adminHalt (tioStop (tenderStop d)))
    evRaise 2 { d with haltLog := some log, trim.alert := true, trim.retry := false, fix.st := .idle, cross.runs := [],
                       pilot.windows := [], pilot.handed := [], cargo.fetch := .none, cargo.snap := none }

/-- Fix enters LOST_FIX (R208 to R210). -/
def fixLost (d : Device) : Device :=
  evRaise 42 (({ d with fix.st := .lostFix }.ru F.FIX_STATUS_REGAIN 0).count 0x50048)

end Sys2Proof.Machine
end

