-- ==== Sys2Proof/Machine/Trim.lean ====
section
/-!
DEFINITION. Trim (chapter 13): the evaluation interval, the voltage loop, the shedding ladder, headings with the entry
into and the way out of DORMANT, and the AVSBus transactions.
The choices it makes stand under notes/assumptions: 31 (DEDUCED), 67 (DEDUCED), 70 (DEDUCED), 71 (DEDUCED), 79
(DEDUCED).
-/

namespace Sys2Proof.Machine

/-! ### Values of the loop (R387, R394) -/

/-- The heading in force. -/
def Device.heading (d : Device) : Nat := d.rg F.TRIM_STATUS_HEADING

/-- Valid points of TRIM_CURVE as (T, VMIN), in ascending index order. -/
def curvePoints (d : Device) : List (Int × Nat) :=
  (List.range 8).filterMap fun i =>
    if d.rb F.TRIM_CURVE_VALID i then some (signedOf 8 (d.rg F.TRIM_CURVE_T_C i), d.rg F.TRIM_CURVE_VMIN_MV i) else none

/-- VMIN at temperature `t`: linear between points and flat outside them, rounded up to the next mV (R387). -/
def curveAt (t : Int) : List (Int × Nat) → Nat
  | [] => 0
  | [a] => a.2
  | a :: b :: rest =>
    if t ≤ a.1 then a.2
    else if t ≤ b.1 then
      let n : Int := (a.2 : Int) * (b.1 - t) + (b.2 : Int) * (t - a.1)
      (-((-n) / (b.1 - a.1))).toNat
    else curveAt t (b :: rest)

/-- T_max as last read. -/
def tMax (d : Device) : Int := signedOf 8 (d.rg F.TRIM_THERMAL_TMAX_C)

/-- VFLOOR. -/
def vFloor (d : Device) : Nat := max 620 (curveAt (tMax d) (curvePoints d))

/-- V: the voltage requested, or the one acknowledged after an AVS fault (R391). -/
def vNow (d : Device) : Nat := if d.rb F.TRIM_STATUS_AVS_FAULT then d.rg F.TRIM_AVS_ACKED_MV else d.rg F.TRIM_AVS_REQUEST_MV

/-- VMAX of heading `h`. -/
def vMax (h : Nat) (d : Device) : Nat := d.rg F.TRIM_HROW_A_VMAX_MV h

/-- P in units of 10^-4 W (R394). -/
def powerOf (d : Device) : Nat :=
  d.rg F.TRIM_AVS_ACKED_MV * d.rg F.TRIM_POWER_CORE_CURRENT_DA + d.rg F.TRIM_HROW_A_OTHER_W d.heading * 10000

/-- Whether P exceeds the software cap in force. -/
def overCap (d : Device) : Bool := decide (d.trim.cap * 10000 < powerOf d)

/-- Whether the loop counts as at its ceiling (R387, R389). -/
def atCeiling (d : Device) : Bool :=
  d.rb F.TRIM_HROW_A_PINNED d.heading || vNow d == vMax d.heading d || decide (2500000 ≤ powerOf d)

/-- The report fields that follow V and P. -/
def trimReport (d : Device) : Device :=
  ((d.ru F.TRIM_POWER_POWER_DW (min (powerOf d / 1000) 65535)).rub F.TRIM_STATUS_AT_CEILING (atCeiling d)).rub
    F.TRIM_STATUS_OVER_CAP (overCap d)

/-- CAP_W comes into force (R395), and the report follows it (R397). -/
def capTake (d : Device) : Device := trimReport { d with trim.cap := d.rg F.TRIM_POWER_CAP_W }

/-- Trim requests `mv`: a request that changes the voltage settles under R390. -/
def trimRequest (mv : Nat) (d : Device) : Device :=
  let old := d.rg F.TRIM_AVS_REQUEST_MV
  if old = mv then d
  else
    let delta := (mv - old) + (old - mv)
    let slew := d.rg F.TRIM_AVS_SLEW_MV_US
    let ns := (delta * 1000 + slew - 1) / slew + 2000
    ({ d with trim.settle := some (d.raw, ns) }.ru F.TRIM_AVS_REQUEST_MV mv).emit (.avsWrite mv)

/-- Whether a voltage change has settled (R390). -/
def settledAt (x : Option (Word × Nat)) (d : Device) : Bool :=
  match x with
  | none => true
  | some (t, ns) => d.passedNs t ns

/-- Whether the last voltage change has settled. -/
def trimSettled (d : Device) : Bool := settledAt d.trim.settle d

/-- RELAX set, with its saturating register. -/
def setRelax (n : Nat) (d : Device) : Device := { d with trim.relax := n }.ru F.TRIM_STATUS_RELAX (min n 127)

/-! ### Sensors and the margin (R385, R388, R393) -/

/-- The readings of an interval enter the sensor registers. -/
def readSensors (l : List Sensor) (d : Device) : Device :=
  (List.range 24).foldl (fun d i =>
    let s := (l[i]?).getD { valid := false, tempC := 0 }
    (d.rub F.TRIM_SENSOR_VALID s.valid i).ru F.TRIM_SENSOR_TEMP_C (unsignedOf 8 s.tempC) i) d

/-- The highest valid reading and its sensor, the lowest number among equals. -/
def hottest (d : Device) : Option (Int × Nat) :=
  (List.range 24).foldl (fun best i =>
    if d.rb F.TRIM_SENSOR_VALID i then
      let t := signedOf 8 (d.rg F.TRIM_SENSOR_TEMP_C i)
      match best with
      | none => some (t, i)
      | some b => if b.1 < t then some (t, i) else best
    else best) none

/-- T_max with its warning and the thermal HALT (R393). TRIM_THERMAL.WARN_C has no value before the chart is loaded. -/
def thermal (d : Device) : Device :=
  match hottest d with
  | none => d
  | some (t, i) =>
    let d := (d.ru F.TRIM_THERMAL_TMAX_C (unsignedOf 8 t)).ru F.TRIM_THERMAL_HOT_SENSOR i
    let warn : Int := d.rg F.TRIM_THERMAL_WARN_C
    let d := if d.trim.warned then { d with trim.warned := decide (warn - 5 < t) }
      else if d.charted && decide (warn ≤ t) then
        trimEvent 3 { d with trim.warned := true, trim.alert := true }
      else d
    if 125 ≤ t then halt 4 d else d

/-- M of the interval; none is +infinity. -/
def marginOf (d : Device) : Option Int :=
  d.trim.least.foldl (fun m e =>
    match e.2 with
    | none => m
    | some v =>
      let floor := if e.1 < 6 then d.rg F.TRIM_HROW_A_FLOOR_NS d.heading else d.rg F.TRIM_HROW_A_FWD_FLOOR_NS d.heading
      match m with
      | none => some (v - floor)
      | some x => some (min x (v - floor))) none

/-- A signed value held to 32 bits. -/
def sat32 (v : Int) : Nat := unsignedOf 32 (max (-(2 ^ 31)) (min v (2 ^ 31 - 1)))

/-- MARGIN and each sentinel's MIN_SLACK are reported and the interval's completions are cleared. -/
def reportMargin (m : Option Int) (d : Device) : Device :=
  let d := d.trim.least.foldl (fun d e =>
    match e.2 with
    | some v => d.ru F.TRIM_LOG_MIN_SLACK (sat32 v) e.1
    | none => d) d
  ({ d with trim.least := [] }).ru F.TRIM_STATUS_MARGIN (match m with | some v => sat32 v | none => 0x7FFFFFFF)

/-! ### The loop (R389 to R391) -/

/-- RUNG changes (R396). -/
def setRung (r : Nat) (d : Device) : Device := d.ru F.TRIM_STATUS_RUNG r

/-- RELAX has reached RELAX_INTERVALS (row 8 of Table 13-3): the ladder falls by one rung. -/
def relaxLimit (d : Device) : Device :=
  if 0 < d.rung ∧ d.rg F.TRIM_LOOP_CFG_RELAX_INTERVALS ≤ d.trim.relax ∧ 0 < d.trim.relax then
    helmRetry (trimEvent 1 (setRelax 0 (setRung (d.rung - 1) d)))
  else d

/-- One decision of Table 13-3 on margin `m`. -/
def trimDecide (m : Option Int) (d : Device) : Device :=
  let h := d.heading
  let pinned := d.rb F.TRIM_HROW_A_PINNED h
  let v := vNow d
  let lo := vFloor d
  let hi := vMax h d
  let neg : Bool := match m with | some x => decide (x < 0) | none => false
  let hyst : Bool := match m with | some x => decide ((d.rg F.TRIM_LOOP_CFG_HYST_NS : Int) ≤ x) | none => true
  let fault := d.rb F.TRIM_STATUS_AVS_FAULT
  let down := max (v - d.rg F.TRIM_LOOP_CFG_STEP_DOWN_MV) lo
  if v < lo then trimRequest lo (setRelax 0 d)
  else if pinned = true ∧ v ≠ max hi lo then trimRequest (max hi lo) (setRelax 0 d)
  else if neg ∧ atCeiling d = false then
    let d := setRelax 0 d
    let d := if fault then d else trimRequest (min (v + d.rg F.TRIM_LOOP_CFG_STEP_UP_MV) hi) d
    if overCap d then trimEvent 0 d else d
  else if neg then
    let d := setRelax 0 d
    if d.rung < d.rg F.TRIM_HROW_A_LADDER_DEPTH h then trimEvent 0 (trimEvent 1 (setRung (d.rung + 1) d)) else d
  else if !hyst then
    let d := setRelax 0 d
    if overCap d && d.rung == 0 && !pinned then trimRequest down d else d
  else if 0 < d.rung then relaxLimit (setRelax (d.trim.relax + 1) d)
  else if pinned || fault then setRelax 0 d
  else trimRequest down (setRelax 0 d)

/-- Device states in which the loop runs (R389). -/
def loopRuns (st : DevState) : Bool :=
  match st with
  | .muster | .firstCrossing | .run | .test | .recovery => true
  | .off | .reset | .wipe | .load | .dormant | .halt => false

/-! ### Headings (R392, R399, R400) -/

/-- The heading whose row sets everything but VMAX and SAMPLE_NS: under H7 the one before it (Table 13-9). -/
def rowOf (d : Device) : Nat := if d.heading = 7 then d.rg F.TRIM_HEADING_PREVIOUS else d.heading

/-- The equaliser mode of port `p` (R401). -/
def portDsp (p : Nat) (d : Device) : DspMode :=
  if bit (d.rg F.TRIM_DSP_EXEMPT_PORTS) p then .full
  else
    match d.rg F.TRIM_HROW_A_DSP (rowOf d) with
    | 0 => .full
    | 1 => .adaptive
    | _ => .reduced

/-- The lookup pipes that the Compass runs (R402). -/
def lookupPipes (d : Device) : Nat := d.rg F.TRIM_HROW_A_PIPES (rowOf d)

/-- A change of the heading, with the DSP and PIPES that then apply. -/
def headingChange (f : Device → Device) (d : Device) : Device :=
  let e := f d
  let x := (List.range 32).foldl (fun x p =>
    if portDsp p e = portDsp p d then x else x.emit (.equaliser p (portDsp p e))) e
  if lookupPipes e = lookupPipes d then x else x.emit (.pipes (lookupPipes e))

/-- Heading `h` takes effect; `mv` is the voltage that goes with it, when one does. TRIM_LADDER, 'RUNG changed' (Table
13-10), is raised when the new row holds the ladder lower. -/
def headingTake (h : Nat) (mv : Option Nat) (d : Device) : Device :=
  let rung := if h = 7 then d.rung else min d.rung (d.rg F.TRIM_HROW_A_LADDER_DEPTH h)
  let fell := decide (rung ≠ d.rung)
  let d := setRelax 0 (setRung rung (headingChange (fun d => d.ru F.TRIM_STATUS_HEADING h) d))
  let d := if h = 7 then d else capTake (d.ru F.TRIM_POWER_CAP_W (d.rg F.TRIM_HROW_A_CAP_W h))
  let d := match mv with
    | some v => trimRequest v d
    | none => if vMax h d < vNow d then trimRequest (max (vMax h d) (vFloor d)) d else d
  let d := if fell then trimEvent 1 d else d
  helmRetry (trimEvent 5 (trimReport d))

/-- A pending heading other than H7 takes effect. -/
def headingDue (d : Device) : Device :=
  match d.trim.pend with
  | some h => if h = 7 then d else headingTake h none { d with trim.pend := none, trim.soon := false }
  | none => d

/-- The crossing number that the crossing clock reads (R107). -/
def clockNumber (d : Device) : Nat := (clockCrossing d).toNat

/-- The device enters DORMANT with H7 (Table 01-7, R392): crossings stop, ports sleep, pins go inactive. -/
def dormantEnter (d : Device) : Device :=
  let d := d.ru F.TRIM_HEADING_PREVIOUS d.heading
  let d := headingTake 7 (some (vMax 7 d)) { d with trim.pend := none, cross.runs := [], pilot.windows := [],
                                                    pilot.handed := [] }
  let d := devGo .dormant d
  let d := (List.range 32).foldl (fun d p =>
    if (d.port p).st = .idle ∨ (d.port p).st = .fenced then d else portTo p .sleep d) d
  tioStop d

/-- DORMANT ends with heading `h` (R399, R392, Table 07-2): the crossings resume at the first boundary after the
voltage requested here has settled, whatever the loop requests after it, and Fix has no measurement of the crossing before
the one in progress (R207). -/
def dormantLeave (h : Nat) (d : Device) : Device :=
  let d := headingTake h (some (vMax h d)) { d with trim.pend := none }
  let d := { d with trim.resume := d.trim.settle }
  let d := devGo .recovery d
  let d := (List.range 32).foldl (fun d p => if (d.port p).st = .sleep then portTo p .start d else d) d
  let d := if d.fix.st = .synchronised then fixLost d else d
  tioResume { d with cross.current := if d.cross.epoch then some (clockNumber d) else none, fix.meas := [], fix.prev := [],
                     fix.cPrev := 0 }

/-- HEADING_SELECT: a write of TRIM_HEADING.SELECT (R399). The state at the write settles its point of effect. -/
def headingSelect (v : Nat) (d : Device) : Device :=
  match d.st with
  | .off | .reset | .wipe | .load => d
  | .dormant => if v = 7 then d else dormantLeave v (d.ru F.TRIM_HEADING_SELECT v)
  | .run => { d with trim.pend := some v, trim.soon := false }.ru F.TRIM_HEADING_SELECT v
  | .halt => if v = 7 then trimEvent 6 d else d
  | .muster | .firstCrossing | .test | .recovery =>
    if v = 7 then trimEvent 6 d
    else { d with trim.pend := some v, trim.soon := decide (d.st = DevState.muster) }.ru F.TRIM_HEADING_SELECT v

/-! ### The interval (R385, R388, R389, R392) -/

/-- The values of Table 18-8 as they stand (R537). -/
def smbValues (lc : Nat) (d : Device) : Tab Nat :=
  let t : Tab Nat := [
    (0, stCode d.st + lc * 16 + d.rg F.GLOBAL_STATUS_CHART_FAULT * 64 + d.rg F.GLOBAL_STATUS_HALT_CAUSE * 256),
    (1, d.rg F.TRIM_THERMAL_TMAX_C + d.rg F.TRIM_THERMAL_HOT_SENSOR * 256),
    (2, d.rg F.TRIM_POWER_POWER_DW), (3, d.rg F.TRIM_POWER_CORE_CURRENT_DA), (4, d.rg F.TRIM_AVS_ACKED_MV),
    (5, d.heading + d.rung * 16 + d.rg F.TRIM_STATUS_AT_CEILING * 256 + d.rg F.TRIM_STATUS_OVER_CAP * 512
      + d.rg F.TRIM_STATUS_AVS_FAULT * 1024),
    (6, d.cross.current.getD 0)]
  t ++ (List.range 24).map fun i => (16 + i, d.rg F.TRIM_SENSOR_TEMP_C i + d.rg F.TRIM_SENSOR_VALID i * 32768)

/-- Trim's request from WIPE until MUSTER (R392). -/
def trimBoot (d : Device) : Device := trimRequest 800 d

/-- WIPE after a life-cycle commit (Table 17-16): all is cleared but the raw counter, which continues, and the PCIe link,
which stays up; REF_SEL reads the reference found (R62). What the plant sees of the device ends first. -/
def wipeCommit (d : Device) : Device :=
  let d := (List.range 32).foldl (fun d p => if (d.port p).st = .idle then d else portTo p .idle d) d
  let d := settle (devGo .wipe (tioStop (tenderStop d)))
  let e : Device := { raw := d.raw, pcie := d.pcie, net.refLost := d.net.refLost, tap := d.tap, freeCtr := d.freeCtr,
                      out := d.out }
  trimBoot (e.rub F.RECKON_STATUS_REF_SEL (d.rb F.RECKON_STATUS_REF_SEL))

/-- The end of an evaluation interval; `lc` is the life-cycle code. -/
def trimInterval (lc : Nat) (l : List Sensor) (d : Device) : Device :=
  if !d.passedNs d.trim.evalFrom (d.rg F.TRIM_LOOP_CFG_EVAL_US * 1000) then d
  else
    let d := capTake (thermal (readSensors l { d with trim.evalFrom := d.raw }))
    let m := marginOf d
    let d := trimReport (reportMargin m d)
    let d := if d.trim.retry then ({ d with trim.retry := false }).emit (.avsWrite (d.rg F.TRIM_AVS_REQUEST_MV)) else d
    let d := if loopRuns d.st && trimSettled d then trimDecide m { d with trim.settle := none } else d
    let d := trimReport (if d.trim.soon then headingDue d else d)
    { d with trim.smb := (smbValues lc d).filter fun e => e.2 != 0 }

/-! ### AVSBus (R391) -/

/-- FAULT_RUN has reached 3. -/
def avsFaultLimit (d : Device) : Device :=
  if 3 ≤ d.rg F.TRIM_AVS_FAULT_RUN ∧ d.rb F.TRIM_STATUS_AVS_FAULT = false then
    trimEvent 4 (d.ru F.TRIM_STATUS_AVS_FAULT 1)
  else d

/-- An AVSBus transaction ends. -/
def avsDone (acked : Bool) (current : Nat) (d : Device) : Device :=
  if acked then
    let d := (d.ru F.TRIM_AVS_ACKED_MV (d.rg F.TRIM_AVS_REQUEST_MV)).ru F.TRIM_POWER_CORE_CURRENT_DA (min current 65535)
    trimReport (({ d with trim.retry := false }.ru F.TRIM_AVS_FAULT_RUN 0).ru F.TRIM_STATUS_AVS_FAULT 0)
  else avsFaultLimit ({ d with trim.retry := d.st != DevState.halt }.rsat F.TRIM_AVS_FAULT_RUN 1)

/-! ### Meanings -/

/-- Code of a life-cycle state (Table 17-14). -/
def lcCode (l : Lifecycle) : Nat :=
  match l with
  | .blank => 0
  | .provisioned => 1
  | .fielded => 2
  | .retired => 3

/-- TRIM_EVAL_INTERVAL (R389). -/
def execTrimEvalInterval (l : List Sensor) (s : State) : Host.Outcome State Fault Refusal :=
  onDevNv (fun n d => trimInterval (lcCode n.lifecycle) l d) s
/-- AVS_TRANSACTION_DONE (R391). -/
def execAvsTransactionDone (acked : Bool) (i : Nat) (s : State) : Host.Outcome State Fault Refusal :=
  onDev (avsDone acked i) s
/-- AVS_FAULT_LIMIT (R391). -/
def execAvsFaultLimit (s : State) : Host.Outcome State Fault Refusal := onDev avsFaultLimit s
/-- RELAX_LIMIT (R389). -/
def execRelaxLimit (s : State) : Host.Outcome State Fault Refusal := onDev relaxLimit s
/-- HEADING_SELECT (R399). -/
def execHeadingSelect (v : BitVec 3) (s : State) : Host.Outcome State Fault Refusal := onHost (headingSelect v.toNat) s

end Sys2Proof.Machine
end

