-- ==== Sys2Proof/Machine/Pilot.lean ====
section
/-!
DEFINITION. Pilot (chapter 06): the path in use of each channel, windows and their acceptance intervals, admission,
violations, and the fencing state of each port.
The choices it makes stand under notes/assumptions: 44 (DEDUCED), 57 (DEDUCED), 58 (DEDUCED), 59 (DEDUCED).
-/

namespace Sys2Proof.Machine

/-- Pilot's state of port `p`. -/
def Device.arm (d : Device) (p : Nat) : Arm := tabGet {} d.pilot.arms p
/-- Pilot's state of port `p` replaced. -/
def Device.setArm (d : Device) (p : Nat) (x : Arm) : Device := { d with pilot.arms := tabSet {} d.pilot.arms p x }
/-- Branch `b`. -/
def Device.branch (d : Device) (b : Nat) : Branch := tabGet {} d.cross.branches b
/-- Branch `b` replaced. -/
def Device.setBranch (d : Device) (b : Nat) (x : Branch) : Device :=
  { d with cross.branches := tabSet {} d.cross.branches b x }

/-- COUNT offset of Pilot counter `k` of port `p` (Table 06-5). -/
def pilotCnt (p k : Nat) : Nat := 0x40000 + 0x100 * p + k

/-- The bits of PILOT_ARM_STATUS and PILOT_ARM_EVT_EN, bit 0 first (Table 06-12). -/
def pilotBits : List (Fld × Fld) := [
  (F.PILOT_ARM_STATUS_VIOLATION, F.PILOT_ARM_EVT_EN_VIOLATION),
  (F.PILOT_ARM_STATUS_FENCED, F.PILOT_ARM_EVT_EN_FENCED),
  (F.PILOT_ARM_STATUS_UNFENCED, F.PILOT_ARM_EVT_EN_UNFENCED),
  (F.PILOT_ARM_STATUS_LOCKED, F.PILOT_ARM_EVT_EN_LOCKED),
  (F.PILOT_ARM_STATUS_FENCE_HELD, F.PILOT_ARM_EVT_EN_FENCE_HELD)]

/-- Bit `k` of PILOT_ARM_STATUS is set, with its event at the first setting in a crossing (R197). -/
def pilotStatus (p k : Nat) (d : Device) : Device :=
  let a := d.arm p
  let d := d.ru (bitPair pilotBits k).1 1 p
  if bit a.raised k then d
  else evRaiseIf (d.rb (bitPair pilotBits k).2 p) (160 + p) (d.setArm p { a with raised := a.raised + 2 ^ k })

/-! ### The path in use (R177, R191, R192) -/

/-- The period as a time. -/
def periodT (d : Device) : Int := nsT (d.rg F.CROSS_PERIOD_PERIOD_NS)
/-- S(n) (R106). -/
def boundaryT (n : Nat) (d : Device) : Int := n * periodT d
/-- RTT_A of branch `b`, or of its single channel, as a time. -/
def rttA (b : Nat) (d : Device) : Int :=
  ofU16 ((d.rg F.CROSS_BR_RTT_A_NANOSECONDS b * 65536 + d.rg F.CROSS_BR_RTT_A_FRACTION b : Nat) : Int)
/-- RTT_B of branch `b`. -/
def rttB (b : Nat) (d : Device) : Int :=
  ofU16 ((d.rg F.CROSS_BR_RTT_B_NANOSECONDS b * 65536 + d.rg F.CROSS_BR_RTT_B_FRACTION b : Nat) : Int)
/-- The line round trip of the channel that port `p` launches (R195). -/
def rttLine (p : Nat) (d : Device) : Int :=
  ofU16 ((d.rg F.PILOT_ARM_RTT_LINE_NANOSECONDS p * 65536 + d.rg F.PILOT_ARM_RTT_LINE_FRACTION p : Nat) : Int)

/-- A channel of the path in use: its CHAN code, its launch port, and where and after what round trip it returns. -/
structure Path where
  chan : Nat
  port : Nat
  backs : List (Nat × Int)
  deriving DecidableEq, Repr

/-- FENCED or LOCKED. -/
def armOut (st : ArmState) : Bool :=
  match st with
  | .fenced | .locked => true
  | .serving | .probation => false

/-- The channels that branch `b` launches, by the fencing states of its arms (Table 06-2). -/
def pathsOf (b : Nat) (d : Device) : List Path :=
  let pa := d.rg F.CROSS_BR_CFG_PORT_A b
  let pb := d.rg F.CROSS_BR_CFG_PORT_B b
  let sa := (d.arm pa).st
  let sb := (d.arm pb).st
  if !d.rb F.CROSS_BR_CFG_DUAL b then
    if armOut sa then [] else [{ chan := 2, port := pa, backs := [(pa, rttA b d)] }]
  else
    match armOut sa, armOut sb with
    | true, true => []
    | true, false => [{ chan := 1, port := pb, backs := [(pb, rttLine pb d)] }]
    | false, true => [{ chan := 0, port := pa, backs := [(pa, rttLine pa d)] }]
    | false, false => [
        { chan := 0, port := pa,
          backs := (pb, rttA b d) :: (if sb = .probation then [(pa, rttLine pa d)] else []) },
        { chan := 1, port := pb,
          backs := (pa, rttB b d) :: (if sa = .probation then [(pb, rttLine pb d)] else []) }]

/-- The longest round trip of the path in use. -/
def longestRtt (ps : List Path) : Int := ps.foldl (fun m p => p.backs.foldl (fun m r => max m r.2) m) 0

/-! ### Windows (R176, Table 06-1) -/

/-- AW of port `p`. -/
def acceptHalf (p : Nat) (d : Device) : Int :=
  nsT (d.rg (if d.isUplink p then F.PILOT_CFG_UPLINK_ACCEPT else F.PILOT_CFG_ACCEPT_WINDOW))

/-- A window added, with the next number. -/
def windowAdd (w : Window) (d : Device) : Device :=
  { d with pilot.windows := d.pilot.windows ++ [{ w with id := d.pilot.nextId }], pilot.nextId := d.pilot.nextId + 1 }

/-- A window with the acceptance interval and close of R176, for a frame of wire time `len` ns. -/
def windowAt (p : Nat) (kind : WinKind) (expect : Int) (len crossing branch idx chan : Nat) (live : Bool) (d : Device) :
    Device :=
  let aw := acceptHalf p d
  windowAdd { id := 0, port := p, kind := kind, expect := expect, accLo := expect - aw, accHi := expect + aw,
              close := expect + nsT len + aw, crossing := crossing, branch := branch, idx := idx, chan := chan,
              live := live } d

/-- The return windows of a frame launched at `t` on the channels `ps` (R115). -/
def windowsBack (kind : WinKind) (ps : List Path) (t : Int) (len crossing branch idx : Nat) (live : Bool) (d : Device) :
    Device :=
  ps.foldl (fun d p => p.backs.foldl (fun d r => windowAt r.1 kind (t + r.2) len crossing branch idx p.chan live d) d) d

/-- One change made to every window that a test picks. -/
def windowsMap (pick : Window → Bool) (f : Window → Window) (d : Device) : Device :=
  { d with pilot.windows := d.pilot.windows.map fun w => if pick w then f w else w }

/-- The copy that window `id` awaits was received to its end, or the window closed, at time `t` (R116). -/
def windowDone (id : Nat) (t : Int) (d : Device) : Device :=
  windowsMap (fun w => w.id == id && w.doneAt.isNone) (fun w => { w with doneAt := some t }) d

/-- The windows of frame or skiff `k` of a run are given up: its launch time passed and it was not launched. -/
def windowsDrop (kind : WinKind) (branch crossing k : Nat) (d : Device) : Device :=
  { d with pilot.windows := d.pilot.windows.filter fun w =>
      !(w.kind == kind && w.branch == branch && w.crossing == crossing && w.idx == k) }

/-- Windows of crossings before `n - 1` go when they have closed and no run of theirs remains; an UP window of a branch
with SUBMULT may lie past the boundary that ends its crossing (R187). -/
def windowsPrune (n : Nat) (d : Device) : Device :=
  { d with pilot.windows := d.pilot.windows.filter fun w =>
      decide (n ≤ w.crossing + 1 ∨ boundaryT n d < w.close)
        || d.cross.runs.any (fun r => r.branch == w.branch && r.crossing == w.crossing && d.isArm w.port) }

/-- The sources that the chart enables. -/
def fixSources (d : Device) : List Nat := (List.range 15).filter fun j => d.rb F.FIX_SRC_ENABLE j

/-- DELAY of source `j` in units of 2^-16 ns. -/
def srcDelay (j : Nat) (d : Device) : Int :=
  ((d.rg F.FIX_SRC_DELAY_NS j * 65536 + d.rg F.FIX_SRC_DELAY_FRACTION j : Nat) : Int)

/-- Whether Pilot's uplink windows are those of Fix rather than the listen window (Table 06-1). -/
def fixDeclared (d : Device) : Bool := d.fix.st == .synchronised || d.fix.st == .lostFix

/-- The FIX and COLDSTART windows of crossing `n` (R206). -/
def windowsFix (n : Nat) (d : Device) : Device :=
  if fixDeclared d then
    let s := boundaryT n d
    let d := (fixSources d).foldl (fun d j =>
      let p := d.rg F.FIX_SRC_PORT j
      let tags := (tabGet [] d.netCfg.uplinkTags p).length
      windowAt p .fix (s + nsT (d.rg F.FIX_CFG_TX_OFFSET) + ofU16 (srcDelay j d + tabGet 0 d.fix.last j))
        (d.wire p (64 + 4 * tags)) n 0 j 2 true d) d
    (List.range 32).foldl (fun d p =>
      if d.isUplink p then
        windowAt p .coldstart (s + nsT (d.rg F.FIX_TX_CS_WINDOW_OFFSET)) (d.wire p 64) n 0 0 2 true d
      else d) d
  else d

/-! ### Violations (R188, R189) -/

/-- Device states in which a blocked or cut frame is a violation. -/
def violating (st : DevState) : Bool :=
  match st with
  | .firstCrossing | .run | .test | .recovery => true
  | .off | .reset | .wipe | .load | .muster | .dormant | .halt => false

/-- The crossing in progress, 0 before the first. -/
def Device.crossingNo (d : Device) : Nat := d.cross.current.getD 0

/-- Whether a violation of crossing `m` counts in the crossing in progress: it lies in that crossing or in the
FENCE_PERIOD − 1 before it (R189). -/
def violCounts (m : Nat) (d : Device) : Bool :=
  decide (m ≤ d.crossingNo ∧ d.crossingNo < m + d.rg F.PILOT_FENCE_CFG_FENCE_PERIOD)

/-- VIOL_RECENT of port `p` (R189). -/
def violRecent (p : Nat) (d : Device) : Nat :=
  (d.arm p).viols.foldl (fun s v => if violCounts v.1 d then s + v.2 else s) 0

/-- VIOL_RECENT has reached VIOLATION_LIMIT: the fencing condition is met for the next boundary (R189). -/
def violationLimit (p : Nat) (d : Device) : Device :=
  let a := d.arm p
  if d.rb F.PILOT_ARM_CFG_FENCE_EN p && a.st == .serving && decide (0 < violRecent p d)
      && decide (d.rg F.PILOT_FENCE_CFG_VIOLATION_LIMIT ≤ violRecent p d) then
    d.setArm p { a with cond := true }
  else d

/-- One more violation in crossing `n`. -/
def violAdd (n : Nat) (l : List (Nat × Nat)) : List (Nat × Nat) :=
  match l with
  | [] => [(n, 1)]
  | v :: rest => if v.1 = n then (n, v.2 + 1) :: rest else (n, 1) :: v :: rest

/-- A deviation as the register holds it: rounded towards zero to whole nanoseconds, saturating. -/
def deviationOf (t : Int) : Nat := sat32 (t.tdiv (2 ^ 56))

/-- A violation of port `p`: 1 OUTSIDE, 2 CUT_OFF, 3 NOT_OWNER (R188). -/
def violation (p kind dev : Nat) (d : Device) : Device :=
  if violating d.st then
    let d := d.count (pilotCnt p (8 * kind))
    let d := ((d.ru F.PILOT_ARM_LAST_CROSSING d.crossingNo p).ru F.PILOT_ARM_LAST_KIND kind p).ru
      F.PILOT_ARM_LAST_DEV_DEVIATION dev p
    let a := d.arm p
    let keep := a.viols.filter fun v => violCounts v.1 d
    let d := d.setArm p { a with viols := violAdd d.crossingNo keep,
                                 probViol := a.probViol || a.st == .probation }
    violationLimit p (pilotStatus p 0 d)
  else d

/-- Distance of time `x` from a window's acceptance interval. -/
def winDist (w : Window) (x : Int) : Int :=
  if x < w.accLo then w.accLo - x else if w.accHi ≤ x then x - w.accHi else 0

/-- The deviation of a frame blocked at time `x` (R188): against the nearest window of the port. -/
def outsideDev (p : Nat) (x : Int) (d : Device) : Nat :=
  let n := d.crossingNo
  let best := d.pilot.windows.foldl (fun (b : Option Window) w =>
    if w.port = p ∧ (w.crossing = n ∨ w.crossing + 1 = n) then
      match b with
      | none => some w
      | some v =>
        if winDist w x < winDist v x ∨ (winDist w x = winDist v x ∧ w.expect < v.expect) then some w else b
    else b) none
  match best with
  | none => 2 ^ 31
  | some w => deviationOf (x - w.expect)

/-! ### Admission (R178 to R182, R194, R212) -/

/-- What Pilot makes of a frame: blocked, or admitted by a window or by the listen window. -/
inductive Verdict where
  | block
  | admitted (w : Option Window)
  deriving DecidableEq, Repr

/-- Whether the listen window of the uplinks is open (Table 06-1). -/
def listenOpen (d : Device) : Bool := (d.st == .muster || d.st == .firstCrossing) && !fixDeclared d

/-- The unused window of port `p` that admits a frame whose stamp reads `x` (R178). DESIGN CHOICE: of two with the same
EXPECT, the one opened first. -/
def admitting (p : Nat) (x : Int) (d : Device) : Option Window :=
  d.pilot.windows.foldl (fun (b : Option Window) w =>
    if w.port = p ∧ w.used = false ∧ w.accLo ≤ x ∧ x < w.accHi then
      match b with
      | none => some w
      | some v => if w.expect < v.expect then some w else b
    else b) none

/-- Whether Table 06-1 opens windows on port `p` in the device's state (R182, R223). -/
def windowsOpen (p : Nat) (d : Device) : Bool :=
  violating d.st && (!d.isArm p || (d.branch (d.rg F.PILOT_ARM_CFG_BRANCH p)).inService)

/-- Pilot's judgement of a frame at port `p` by the stamp `r` of its first bit. -/
def pilotJudge (p : Nat) (r : Stamp) (d : Device) : Verdict × Device :=
  let x := d.timeAt .x r
  if armOut (d.arm p).st then (.block, d.count (pilotCnt p 0x30))
  else if d.isUplink p && listenOpen d then (.admitted none, d.count (pilotCnt p 0))
  else
    match admitting p x d with
    | some w =>
      (.admitted (some w), (windowsMap (fun v => v.id == w.id) (fun v => { v with used := true }) d).count (pilotCnt p 0))
    | none =>
      (.block, if windowsOpen p d then violation p 1 (outsideDev p x d) d else d.count (pilotCnt p 0x28))

/-! ### Fencing (R189 to R194) -/

/-- Whether R193 permits Pilot to fence port `p`. -/
def fencePermitted (p : Nat) (d : Device) : Bool :=
  if d.isArm p then
    let b := d.rg F.PILOT_ARM_CFG_BRANCH p
    let pa := d.rg F.CROSS_BR_CFG_PORT_A b
    let other := if pa = p then d.rg F.CROSS_BR_CFG_PORT_B b else pa
    !d.rb F.CROSS_BR_CFG_DUAL b || (d.arm other).st == .serving || d.rb F.PILOT_FENCE_CFG_FENCE_BOTH
  else true

/-- Port `p` enters FENCED or LOCKED: the effects of R191, its counter and its status bit. DEDUCED: R191 holds for a
branch arm in whatever state it works, so one in TEST or SLEEP is FENCED too, where the rows of Table 09-4 name START,
RUN and RECOVERY. -/
def fenceEnter (p : Nat) (st : ArmState) (d : Device) : Device :=
  let old := (d.arm p).st
  let d := d.setArm p { d.arm p with st := st }
  let d := d.countIf (old != st) (pilotCnt p 0x38)
  let d := if d.isArm p && (d.port p).st != .idle then portTo p .fenced d else d
  pilotStatus p (if st = .locked then 3 else 1) d

/-- Port `p` enters PROBATION: REMAIN := PROBATION_LEN, and its transmitter resumes. -/
def probationEnter (p : Nat) (d : Device) : Device :=
  let d := (d.setArm p { d.arm p with st := .probation }).ru F.PILOT_ARM_STATE_REMAIN
    (d.rg F.PILOT_FENCE_CFG_PROBATION_LEN) p
  if (d.port p).st = .fenced then portTo p .start d else d

/-- REMAIN has reached 0 (the two rows of Table 06-4 that it governs). -/
def fenceRemainExpire (p : Nat) (d : Device) : Device :=
  let a := d.arm p
  if d.rg F.PILOT_ARM_STATE_REMAIN p ≠ 0 then d
  else
    match a.st with
    | .fenced => probationEnter p d
    | .probation =>
      pilotStatus p 2 ((d.setArm p { a with st := .serving, viols := [] }).ru F.PILOT_ARM_STATE_REFENCES 0 p)
    | .serving | .locked => d

/-- FENCED with REMAIN := FENCE_HOLD. -/
def fenceFor (p : Nat) (d : Device) : Device :=
  fenceEnter p .fenced (d.ru F.PILOT_ARM_STATE_REMAIN (d.rg F.PILOT_FENCE_CFG_FENCE_HOLD) p)

/-- The rows of Table 06-4 for port `p` at a boundary, first row first; `a` is the port's state before it. -/
def fenceRow (p : Nat) (a : Arm) (d : Device) : Device :=
  let d := d.setArm p { d.arm p with force := false, unfence := false, cond := false, probViol := false }
  let refences := d.rg F.PILOT_ARM_STATE_REFENCES p + 1
  if a.force then fenceEnter p .locked (d.ru F.PILOT_ARM_STATE_REMAIN 0 p)
  else
    match a.st with
    | .serving =>
      if !a.cond then d
      else if fencePermitted p d then fenceFor p d
      else pilotStatus p 4 (d.setArm p { d.arm p with viols := [] })
    | .fenced =>
      if d.rg F.PILOT_ARM_STATE_REMAIN p = 0 then fenceRemainExpire p d
      else if a.unfence then probationEnter p (d.ru F.PILOT_ARM_STATE_REFENCES 0 p)
      else d
    | .locked => if a.unfence then probationEnter p (d.ru F.PILOT_ARM_STATE_REFENCES 0 p) else d
    | .probation =>
      if a.probViol && d.rb F.PILOT_ARM_CFG_FENCE_EN p then
        let d := d.rsat F.PILOT_ARM_STATE_REFENCES 1 p
        if refences < d.rg F.PILOT_FENCE_CFG_REFENCE_MAX then fenceFor p d
        else fenceEnter p .locked (d.ru F.PILOT_ARM_STATE_REMAIN 0 p)
      else fenceRemainExpire p d

/-- Port `p` at a boundary: REMAIN decreases, then the table. -/
def fenceBoundary (p : Nat) (d : Device) : Device :=
  let a := d.arm p
  let d := if a.st = .fenced ∨ a.st = .probation then
      d.ru F.PILOT_ARM_STATE_REMAIN (d.rg F.PILOT_ARM_STATE_REMAIN p - 1) p
    else d
  fenceRow p a d

/-- The crossing numbers begin anew: no violation counted so far lies in a crossing before the present one (R189). -/
def violsClear (d : Device) : Device :=
  (List.range 32).foldl (fun d p => d.setArm p { d.arm p with viols := [] }) d

/-- Every port at a boundary, in ascending order (R193); a new crossing also begins for R197. -/
def fenceAll (d : Device) : Device :=
  let d := (List.range 32).foldl (fun d p => d.setArm p { d.arm p with raised := 0 }) d
  (List.range 32).foldl (fun d p => fenceBoundary p d) d

/-- FORCE_FENCE: a write of 1, in force at the next boundary. -/
def forceFence (p : Nat) (d : Device) : Device := d.setArm p { d.arm p with force := true }

/-- UNFENCE: a write of 1; no effect in SERVING or PROBATION (R190). -/
def unfence (p : Nat) (d : Device) : Device :=
  if armOut (d.arm p).st then d.setArm p { d.arm p with unfence := true } else d

/-! ### Meanings -/

/-- VIOLATION_LIMIT_REACHED (R189). -/
def execViolationLimitReached (p : Nat) (s : State) : Host.Outcome State Fault Refusal := onDev (violationLimit p) s
/-- FENCE_REMAIN_EXPIRE (R190). -/
def execFenceRemainExpire (p : Nat) (s : State) : Host.Outcome State Fault Refusal := onDev (fenceRemainExpire p) s
/-- FORCE_FENCE (R190). -/
def execForceFence (p : Nat) (s : State) : Host.Outcome State Fault Refusal := onHost (forceFence p) s
/-- UNFENCE (R190). -/
def execUnfence (p : Nat) (s : State) : Host.Outcome State Fault Refusal := onHost (unfence p) s

end Sys2Proof.Machine
end

