-- ==== Sys2Proof/Machine/Cycle.lean ====
section
/-!
DEFINITION. Cycle points (R133 to R136): what is due in a crossing, firing, conditions, and the forced firing.
The choices it makes stand under notes/assumptions: 61 (DEDUCED).
-/

namespace Sys2Proof.Machine

/-- One due entry fires: the crossing it reports, VALID, FORCED, and event 64 + i (R134, R135). -/
def cpFireOne (e : CpDue) (forced : Bool) (d : Device) : Device :=
  if liveState d.st then
    let d := (d.ru F.CROSS_CP_STATUS_LAST_CROSSING e.crossing e.point).ru F.CROSS_CP_STATUS_VALID 1 e.point
    evCyclePoint e.point (if forced then d.ru F.CROSS_CP_STATUS_FORCED 1 e.point else d)
  else d

/-- Entries that a test picks leave the due list and fire, in list order. -/
def cpTake (pick : CpDue → Bool) (forced : Bool) (d : Device) : Device :=
  let l := d.cross.due.filter pick
  l.foldl (fun d e => cpFireOne e forced d) { d with cross.due := d.cross.due.filter fun e => !pick e }

/-- Cycle point `i` fires when its condition has occurred and its time has come (R134). -/
def cpFire (i : Nat) (d : Device) : Device := cpTake (fun e => e.point == i && e.met && decide (e.at_ ≤ d.xNow)) false d

/-- The condition of milestone `m` occurs for crossing `n`; `b` is the branch of BRANCH_MERGED (R134). -/
def cpCondition (m n b : Nat) (d : Device) : Device :=
  let hit := fun (e : CpDue) => e.milestone == m && e.crossing == n && (m != 4 || e.branch == b)
  let d := { d with cross.due := d.cross.due.map fun e => if hit e then { e with met := true } else e }
  cpTake (fun e => hit e && decide (e.at_ ≤ d.xNow)) false d

/-- Condition points of crossings up to `n - 2` fire at S(n), forced (R135). -/
def cpForce (n : Nat) (d : Device) : Device :=
  cpTake (fun e => 4 ≤ e.milestone && decide (e.crossing + 2 ≤ n)) true d

/-- What cycle point `i` awaits in crossing `n`: `dl` is the latest input deadline due in the crossing, and `runs` the
runs of crossing `n` (Table 04-5). -/
def cpDueOf (i n : Nat) (dl : Option Int) (runs : List Run) (d : Device) : Option CpDue :=
  let m := d.rgf F.CROSS_CP_CFG_MILESTONE i
  let b := d.rgf F.CROSS_CP_CFG_BRANCH i
  let off := nsT (d.rgf F.CROSS_CP_CFG_OFFSET i)
  let fits := d.rgf F.CROSS_CP_CFG_ENABLE i != 0 && n % 2 ^ d.rgf F.CROSS_CP_CFG_EVERY i == d.rgf F.CROSS_CP_CFG_PHASE i
  let mk := fun (t : Int) (met : Bool) =>
    some { point := i, crossing := n, milestone := m, branch := b, at_ := t, met := met : CpDue }
  let run := runs.find? fun r => r.branch == b
  if !fits then none
  else match m with
    | 0 => mk (boundaryT n d + off) true
    | 1 => run.bind fun r => mk (r.start + nsT (d.rg F.CROSS_BR_LAUNCH_LAUNCH_OFFSET b) + off) true
    | 2 => run.bind fun r => mk (r.deadline + off) true
    | 3 => dl.bind fun t => mk (t + off) true
    | 4 => run.bind fun _ => mk (boundaryT n d + off) false
    | 5 | 6 => mk (boundaryT n d + off) false
    | _ => none

/-- The cycle points of crossing `n` become due, and those at its boundary fire (R136). -/
def cpPlan (n : Nat) (dl : Option Int) (runs : List Run) (d : Device) : Device :=
  let l := (List.range 64).filterMap fun i => cpDueOf i n dl runs d
  let d := { d with cross.due := d.cross.due ++ l }
  cpTake (fun e => e.met && e.crossing == n && decide (e.at_ ≤ boundaryT n d)) false d

/-- CYCLE_POINT_FIRE (R134). -/
def execCyclePointFire (i : Nat) (s : State) : Host.Outcome State Fault Refusal := onDev (cpFire i) s

end Sys2Proof.Machine
end

