-- ==== Sys2Proof/Machine/Cargo.lean ====
section
/-!
DEFINITION. Cargo's host hand-over (R159 to R169) with the reserved Tender channels it runs on (R454): attach and detach,
fetch, snapshot, failures; and the rotation of the output buffers, their ages and the safe latch (R149 to R156).
The choices it makes stand under notes/assumptions: 2 (DESIGN CHOICE), 55 (DEDUCED), 64 (DEDUCED), 65 (DEDUCED).
-/

namespace Sys2Proof.Machine

/-- COUNT offset of Cargo counter `k` (Table 05-7). -/
def cargoCnt (k : Nat) : Nat := 0x30000 + k

/-- IN_SLOTS. -/
def inSlots (d : Device) : Nat := 2 ^ (d.rg F.CARGO_HOST_SLOTS_IN_SLOTS_LOG2 + 1)
/-- Address of input slot `s`. -/
def inSlotAddr (s : Nat) (d : Device) : Nat :=
  d.rg F.CARGO_HOST_IN_BASE_ADDR * 4096 + s * d.rg F.CARGO_HOST_SLOTS_IN_STRIDE * 4096
/-- Address of output slot `s`. -/
def outSlotAddr (s : Nat) (d : Device) : Nat :=
  d.rg F.CARGO_HOST_OUT_BASE_ADDR * 4096 + s * d.rg F.CARGO_HOST_SLOTS_OUT_STRIDE * 4096

/-! ### The reserved channels (R30, R454)

DESIGN CHOICE: of the channels 0 to 15, channel 0 runs the fetch and channel 1 the snapshot. Each moves bytes at the rate
of R30 and no faster, one idle tick after another; its descriptors are the image's and, in a snapshot, IN_SEQ's. -/

/-- A reserved channel begins a transfer: of the descriptor `t`, or with the read of OUT_SEQ. -/
def reservedStart (c : Nat) (t : Option TenderDesc) (d : Device) : Device :=
  (d.setChan c { st := .running, run := some { descAddr := 0, desc := t, metaDue := t.isNone, since := d.raw } }).ru
    F.TENDER_CH_PROGRESS_BYTES_DONE 0 c

/-- The transfer of a reserved channel has ended: its pulse goes to the crossing engine (R454). -/
def reservedDone (c : Nat) (d : Device) : Device := (d.setChan c {}).count (tenderCnt c 0)

/-- A reserved channel that runs stops at once. -/
def reservedStop (c : Nat) (d : Device) : Device := if (d.chan c).st = .running then d.setChan c {} else d

/-- A reserved channel halts until the next boundary; a failed access latches its error (R468). -/
def reservedHalt (c a : Nat) (info : Option Nat) (d : Device) : Device :=
  let d := (d.setChan c { st := .halted }).count (tenderCnt c 0x18)
  let d := d.ru F.TENDER_HALTED_CHANNELS (d.rg F.TENDER_HALTED_CHANNELS ||| 2 ^ c)
  match info with
  | some i => tenderLatch c a i 0 d
  | none => d

/-- The copy of an output slot into FILL. -/
def fetchDesc (slot : Nat) (d : Device) : TenderDesc :=
  let n := d.rg F.CARGO_IMAGE_OUT_SIZE
  { op := 1, barrier := false, last := true, srcSpace := 0, length := n, src := [{ addr := outSlotAddr slot d, len := n }],
    dst := [{ addr := 0, len := n }], dstSpace := 4, pattern := 0, next := 0 }

/-- The copy of the snapshot's input buffer into an input slot; IN_SEQ's descriptor, with BARRIER, follows it. -/
def snapDesc (slot : Nat) (d : Device) : TenderDesc :=
  let n := d.rg F.CARGO_IMAGE_IN_SIZE
  { op := 1, barrier := false, last := false, srcSpace := 5, length := n, src := [{ addr := 0, len := n }],
    dst := [{ addr := inSlotAddr slot d, len := n }], dstSpace := 0, pattern := 0, next := 0 }

/-! ### Failures, attach and detach (R160, R168, R169) -/

/-- A hand-over transfer failed at host address `a` (R168); `dir` is 0 for a fetch and 1 for a snapshot, the number of its
channel too. -/
def handoverFail (dir a isMeta : Nat) (info : Option Nat) (d : Device) : Device :=
  let d := (d.ru F.CARGO_ERR_ADDR_ADDR a).ru F.CARGO_ERR_INFO_CROSSING d.crossingNo
  let d := ((d.ru F.CARGO_ERR_INFO_META isMeta).ru F.CARGO_ERR_INFO_DIR dir).count (cargoCnt 0x28)
  let d := if dir = 0 then { d with cargo.fetch := .none } else { d with cargo.snap := none }
  evRaise 442 { reservedHalt dir a info d with cargo.failed := true, cargo.ended := true }

/-- A fetch and a snapshot in progress are abandoned (R160). -/
def handoverAbandon (d : Device) : Device :=
  { reservedStop 1 (reservedStop 0 d) with cargo.fetch := .none, cargo.snap := none }

/-- ATTACHED is cleared, and what is in progress is abandoned. -/
def cargoDetach (d : Device) : Device := handoverAbandon (d.ru F.CARGO_STATUS_ATTACHED 0)

/-- The attach checks of R160, and their outcome. -/
def cargoAttach (d : Device) : Device :=
  let slots := d.rg F.CARGO_HOST_SLOTS_OUT_SLOTS
  if 1 ≤ slots ∧ slots ≤ 16 ∧ d.rg F.CARGO_IMAGE_IN_SIZE ≤ d.rg F.CARGO_HOST_SLOTS_IN_STRIDE * 4096
      ∧ d.rg F.CARGO_IMAGE_OUT_SIZE ≤ d.rg F.CARGO_HOST_SLOTS_OUT_STRIDE * 4096 then
    { d with cargo.snapCount := 0, cargo.lastOseq := none }.ru F.CARGO_STATUS_ATTACHED 1
  else evRaise 445 (d.ru F.CARGO_STATUS_ATTACH_ERR 1)

/-- ERR_RUN has reached ERR_LIMIT (R168). -/
def cargoErrLimit (d : Device) : Device :=
  if d.cargo.errDue && decide (d.rg F.CARGO_TIMING_ERR_LIMIT ≤ d.rg F.CARGO_ERR_INFO_ERR_RUN) then
    let d := { d with cargo.errDue := false }
    if d.rb F.CARGO_STATUS_ATTACHED then evRaise 443 ((cargoDetach d).ru F.CARGO_STATUS_DETACHED_BY_ERROR 1) else d
  else d

/-- ERR_RUN at a boundary, for the crossing that has just ended; the halted channels restart (R168). -/
def errRunUpdate (d : Device) : Device :=
  let d := if d.cargo.failed then { d with cargo.errDue := true }.rsat F.CARGO_ERR_INFO_ERR_RUN 1
    else if d.cargo.ended then d.ru F.CARGO_ERR_INFO_ERR_RUN 0 else d
  tenderClear 1 (tenderClear 0
    { cargoErrLimit d with cargo.failed := false, cargo.ended := false, cargo.errDue := false })

/-- ERR_RUN, then the ATTACH or DETACH written since the last boundary. -/
def cargoBoundary (d : Device) : Device :=
  let was := d.rb F.CARGO_STATUS_ATTACHED
  let d := errRunUpdate d
  let d' := { d with cargo.attachReq := none }
  match d.cargo.attachReq with
  | none => d'
  | some true => if was then d' else cargoAttach d'
  | some false => cargoDetach d'

/-! ### Fetch (R162, R163, R150) -/

/-- FETCH_POINT. -/
def fetchPoint (d : Device) : Device :=
  match d.cross.current with
  | none => d
  | some n =>
    if !handoverRuns d || d.cargo.fetchPoint == some n
        || decide (d.xNow < boundaryT n d + nsT (d.rg F.CARGO_TIMING_FETCH_AT)) then d
    else
      let d := { d with cargo.fetchPoint := some n }
      if d.cargo.fetch ≠ .none ∨ (d.chan 0).st = .halted then d
      else if !d.bme then handoverFail 0 (seqAddr d + 8) 1 none d
      else tenderPump (reservedStart 0 none { d with cargo.fetch := .seq n })

/-- Whether the read of OUT_SEQ has yet to be issued. -/
def outSeqDue (d : Device) : Bool := match (d.chan 0).run with | some r => r.metaDue | none => false

/-- OUT_SEQ_READ_DONE: the read of OUT_SEQ returned `v`. -/
def outSeqReadDone (v : Word) (d : Device) : Device :=
  match d.cargo.fetch with
  | .seq n =>
    if !handoverRuns d || outSeqDue d then d
    else
      let oseq := v.toNat % 2 ^ 32
      let slot := bits v.toNat 39 32
      if !bit v.toNat 63 || d.cargo.lastOseq == some oseq then
        (reservedStop 0 { d with cargo.fetch := .none, cargo.ended := true }).count (cargoCnt 0x20)
      else if d.rg F.CARGO_HOST_SLOTS_OUT_SLOTS ≤ slot then handoverFail 0 (seqAddr d + 8) 1 none d
      else tenderPump (reservedStart 0 (some (fetchDesc slot d)) { d with cargo.fetch := .image n slot oseq })
  | _ => d

/-- What a fetch brought, with 0x00 in the bytes that belong to no berth (R147). -/
def berthImage (m : Mem) (d : Device) : Mem :=
  d.chart.berths.foldl (fun t e => memPatch 0 t e.outOff (memSlice 0 m e.outOff e.outLen)) []

/-- The last byte of the host image is in FILL (R150): FILL and READY exchange roles, and OUT_ACK is written. -/
def fetchPromote (n oseq : Nat) (d : Device) : Device :=
  let num := (d.cargo.lastImg + 1) % 2 ^ 48
  let d := { d with cargo.ready := { img := num, mem := berthImage d.cargo.fill.mem d }, cargo.fill := d.cargo.ready,
                    cargo.lastImg := num, cargo.lastOseq := some oseq, cargo.fetch := .none, cargo.ended := true }
  let d := (reservedDone 0 (d.count (tenderCnt 0 8))).count (cargoCnt 0x10)
  let late := d.cross.current != some n
  let d := evRaiseIf late 441 (d.countIf late (cargoCnt 0x18))
  let d := d.emit (.hostWrite (seqAddr d + 0x10) (leBytes 8 (2 ^ 63 + oseq)))
  tenderPump (cpCondition 6 n 0 d)

/-- Bytes of the host image arrive at offset `o` of it; the fetch completes with the last. -/
def fetchArrive (o : Nat) (data : Bytes) (d : Device) : Device :=
  match d.cargo.fetch, (d.chan 0).run with
  | .image n _ oseq, some r =>
    if !handoverRuns d || data.isEmpty || !readCovers false o data.length r.reads then d
    else
      let d := tenderDone 0 data.length { r with reads := readArrive false o data.length r.reads } d
      let d := { d with cargo.fill := { d.cargo.fill with mem := memPatch 0 d.cargo.fill.mem o data } }
      if r.done + data.length = d.rg F.CARGO_IMAGE_OUT_SIZE then fetchPromote n oseq d else tenderPump d
  | _, _ => d

/-- The reads in flight are answered in the order of their offsets; every read asks for a byte at least. -/
def fetchFeed : Nat → Bytes → Device → Device
  | 0, _, d => d
  | fuel + 1, bs, d =>
    match ((d.chan 0).run.bind fun r => r.reads.head?) with
    | none => d
    | some x => fetchFeed fuel (bs.drop x.len) (fetchArrive x.off (bs.take x.len) d)

/-- FETCH_COMPLETE: what was still missing of the host image has arrived, after every byte of it was asked for. -/
def fetchComplete (rest : Bytes) (d : Device) : Device :=
  match d.cargo.fetch, (d.chan 0).run with
  | .image n _ oseq, some r =>
    let size := d.rg F.CARGO_IMAGE_OUT_SIZE
    if !handoverRuns d || r.reqSrc != size || r.done + rest.length != size then d
    else if size = 0 then fetchPromote n oseq d
    else fetchFeed rest.length rest d
  | _, _ => d

/-! ### Snapshots (R165 to R167) -/

/-- A snapshot of the new STABLE buffer starts at INPUTS_STABLE of crossing `n`, or is skipped. -/
def snapshotStart (n : Nat) (d : Device) : Device :=
  if !handoverRuns d then d
  else if d.cargo.snap.isSome || (d.chan 1).st == .halted then evRaise 440 (d.count (cargoCnt 8))
  else
    let c := d.cargo.snapCount
    let slot := c % inSlots d
    if !d.bme then handoverFail 1 (inSlotAddr slot d) 0 none d
    else tenderPump (reservedStart 1 (some (snapDesc slot d))
      { d with cargo.snap := some { crossing := n, count := c, from_ := d.raw } })

/-- SNAPSHOT_CONFIRMED: the confirming read of channel `c` completed, and IN_SEQ's descriptor has finished. -/
def snapshotConfirmed (c : Nat) (d : Device) : Device :=
  match d.cargo.snap, (d.chan 1).run with
  | some s, some r =>
    if c ≠ 1 ∨ handoverRuns d = false ∨ r.confirming = false then d
    else
      let d := reservedDone 1 ({ d with cargo.snap := none, cargo.ended := true }.count (tenderCnt 1 8))
      cpCondition 5 s.crossing 0 (d.count (cargoCnt 0))
  | _, _ => d

/-- The reserved channels at a tick: what the rate of R30 now lets them request and write. -/
def reservedTick (d : Device) : Device := if handoverRuns d then tenderPump d else d

/-! ### Failed accesses (R168, R409) -/

/-- The read of OUT_SEQ failed: issued again, or the fetch fails (R466, Table 15-5). -/
def outSeqFailed (cause : Nat) (d : Device) : Device :=
  match (d.chan 0).run with
  | none => d
  | some r =>
    if r.metaDue then d
    else if r.tries < d.rg F.TENDER_CFG_RETRY_MAX then
      ((d.setRun 0 { r with tries := r.tries + 1 }).count (tenderCnt 0 0x20)).emit (.hostRead (seqAddr d + 8) 8)
    else handoverFail 0 (seqAddr d + 8) 1 (some (errInfo cause 2 0 0 0)) d

/-- HANDOVER_TRANSFER_FAIL: a read of OUT_SEQ, a read in flight of the image data at host address `a`, or the confirming
read of a snapshot failed. -/
def handoverTransferFail (snapshot : Bool) (a : Word) (isMeta : Bool) (cause : Nat) (d : Device) : Device :=
  if !handoverRuns d then d
  else if snapshot then
    match d.cargo.snap, (d.chan 1).run with
    | some _, some r =>
      if isMeta && r.confirming then handoverFail 1 (seqAddr d) 1 (some (errInfo cause 1 1 1 0)) d else d
    | _, _ => d
  else
    match d.cargo.fetch, (d.chan 0).run with
    | .seq _, _ => if isMeta then outSeqFailed cause d else d
    | .image _ slot _, some r =>
      let o := a.toNat - outSlotAddr slot d
      if !isMeta && decide (outSlotAddr slot d ≤ a.toNat) && readCovers false o 1 r.reads then
        handoverFail 0 a.toNat 0 (some (errInfo cause 1 0 0 o)) d
      else d
    | _, _ => d

/-- Bus Master Enable of PF0 went to 0: what is in progress counts as failed (R409). DESIGN CHOICE: the failing access is
the one that the transfer would make next, or waits for. -/
def handoverNoBme (d : Device) : Device :=
  let d := match d.cargo.fetch, (d.chan 0).run with
    | .seq _, _ => handoverFail 0 (seqAddr d + 8) 1 none d
    | .image _ slot _, some r => handoverFail 0 (outSlotAddr slot d + r.reqSrc) 0 none d
    | _, _ => d
  match d.cargo.snap, (d.chan 1).run with
  | some s, some r =>
    if r.index = 1 then handoverFail 1 (seqAddr d) 1 none d
    else handoverFail 1 (inSlotAddr (s.count % inSlots d) d + r.done) 0 none d
  | _, _ => d

/-- A failed read of a reserved channel as the Tender sees it (R454). -/
def reservedError (c : Nat) (what : TenderReadKind) (cause : Nat) (d : Device) : Device :=
  match what, d.cargo.fetch with
  | .desc, .seq _ => if c = 0 then handoverTransferFail false 0 true cause d else d
  | .data false o, .image _ slot _ =>
    if c = 0 then handoverTransferFail false (BitVec.ofNat 64 (outSlotAddr slot d + o)) false cause d else d
  | .confirm, _ => if c = 1 then handoverTransferFail true 0 true cause d else d
  | _, _ => d

/-! ### Output rotation, ages and the latch (R149 to R156) -/

/-- READY and SEND exchange roles when READY is newer (R149). -/
def outRotate (d : Device) : Device :=
  if d.cargo.send.img < d.cargo.ready.img then
    { d with cargo.send := d.cargo.ready, cargo.ready := d.cargo.send }
  else d

/-- OUT_AGE of berth `i`; 255 until it is set (R156). -/
def outAge (i : Nat) (d : Device) : Nat := tabGet 255 d.cross.outAge i
/-- IN_AGE of berth `i`; 255 until it is set (R127). -/
def inAge (i : Nat) (d : Device) : Nat := tabGet 255 d.cross.inAge i

/-- The berths of branch `b`: index and map entry. -/
def branchBerths (b : Nat) (d : Device) : List (Nat × BerthEntry) :=
  (d.chart.berths.zipIdx.map fun e => (e.2, e.1)).filter fun e => e.2.branch == b

/-- Whether berth `i` is an unclaimed spare. -/
def unclaimedSpare (i : Nat) (e : BerthEntry) (d : Device) : Bool := e.spare && (tabGet none d.cross.claims i).isNone

/-- OUT_AGE of the berths of a branch that is active at this boundary, and last_sent_b (R152). -/
def outAges (b : Nat) (d : Device) : Device :=
  let fresh := d.cargo.send.img != (d.branch b).lastSent
  let ages := (branchBerths b d).foldl (fun t e =>
    let err := d.cargo.outErr.contains e.1
    let v := if fresh && !err then 0 else min (tabGet 255 t e.1 + 1) 255
    tabSet 255 t e.1 v) d.cross.outAge
  { d with cross.outAge := ages }.setBranch b { d.branch b with lastSent := d.cargo.send.img }

/-- The safe latch of branch `b` at a boundary, by the ages as they stand (R154). -/
def safeLatch (b : Nat) (d : Device) : Device :=
  let limit := d.rg F.CARGO_BR_POLICY_AGE_LIMIT b
  let above := (branchBerths b d).any fun e => !unclaimedSpare e.1 e.2 d && decide (limit < outAge e.1 d)
  let was := d.rb F.CARGO_BR_POLICY_LATCHED b && !(d.branch b).rearm
  let d := d.setBranch b { d.branch b with rearm := false }
  if d.rg F.CARGO_BR_POLICY_POLICY b = 2 then d.rub F.CARGO_BR_POLICY_LATCHED (was || above) b
  else d.rub F.CARGO_BR_POLICY_LATCHED was b

/-- REARM: a write of 1; no effect while the branch is not latched (R154). -/
def rearm (b : Nat) (d : Device) : Device :=
  if d.rb F.CARGO_BR_POLICY_LATCHED b then d.setBranch b { d.branch b with rearm := true } else d

/-! ### Meanings -/

/-- CARGO_ERR_LIMIT (R168). -/
def execCargoErrLimit (s : State) : Host.Outcome State Fault Refusal := onDev cargoErrLimit s
/-- FETCH_POINT (R162). -/
def execFetchPoint (s : State) : Host.Outcome State Fault Refusal := onDev fetchPoint s
/-- OUT_SEQ_READ_DONE (R162). -/
def execOutSeqReadDone (v : Word) (s : State) : Host.Outcome State Fault Refusal := onDev (outSeqReadDone v) s
/-- FETCH_COMPLETE (R150). -/
def execFetchComplete (image : Bytes) (s : State) : Host.Outcome State Fault Refusal := onDev (fetchComplete image) s
/-- SNAPSHOT_CONFIRMED (R165). -/
def execSnapshotConfirmed (c : Nat) (s : State) : Host.Outcome State Fault Refusal := onDev (snapshotConfirmed c) s
/-- HANDOVER_TRANSFER_FAIL (R168). -/
def execHandoverTransferFail (snapshot : Bool) (a : Word) (f : TransferFault) (s : State) : Host.Outcome State Fault Refusal :=
  onDev (handoverTransferFail snapshot a f.isMeta f.cause) s
/-- TENDER_READ_COMPLETE (R461); on channel 0 it brings bytes of the host image (R454). -/
def execTenderReadComplete (c : Nat) (dst : Bool) (o : Nat) (b : Bytes) (s : State) :
    Host.Outcome State Fault Refusal :=
  onDev (fun d => if hostChan c then tenderReadComplete c dst o b d else if c = 0 ∧ dst = false then fetchArrive o b d
    else d) s
/-- TENDER_READ_ERROR (R465); on channels 0 and 1 it is a failed access of Cargo (R454). -/
def execTenderReadError (c : Nat) (w : TenderReadKind) (cause : Nat) (s : State) : Host.Outcome State Fault Refusal :=
  onDev (fun d => if hostChan c then tenderReadError c w cause d else reservedError c w cause d) s
/-- BARRIER_READ_DONE (R462); the confirming read of a snapshot is SNAPSHOT_CONFIRMED's. -/
def execBarrierReadDone (c : Nat) (s : State) : Host.Outcome State Fault Refusal :=
  onDev (fun d => if hostChan c then barrierReadDone c d else d) s
/-- ATTACH (R160): in the same write as DETACH, DETACH governs. -/
def execAttach (alsoDetach : Bool) (s : State) : Host.Outcome State Fault Refusal :=
  onHost (fun d => { d with cargo.attachReq := some (!alsoDetach) }) s
/-- DETACH (R160). -/
def execDetach (s : State) : Host.Outcome State Fault Refusal :=
  onHost (fun d => { d with cargo.attachReq := some false }) s
/-- REARM (R154). -/
def execRearm (b : Nat) (s : State) : Host.Outcome State Fault Refusal := onHost (rearm b) s

end Sys2Proof.Machine
end

