-- ==== Sys2Proof/Machine/Crossing.lean ====
section
/-!
DEFINITION. The crossing engine (chapter 04): berths as sent, ferry and skiff frames, launches, returned copies and their
merge, the skiff decision, the input deadline with input rotation, ACYCLIC frames, and the spare-berth commands.
The choices it makes stand under notes/assumptions: 14 (DESIGN CHOICE), 28 (DESIGN CHOICE), 57 (DEDUCED), 60
(DEDUCED), 61 (DEDUCED), 62 (DEDUCED), 63 (DEDUCED), 64 (DEDUCED).
-/

namespace Sys2Proof.Machine

/-- COUNT offset of crossing counter `k` of branch `b` (Table 04-8). -/
def crossCnt (b k : Nat) : Nat := 0x20000 + 0x100 * b + k
/-- COUNT offset of Garvane counter `k` of port `p` (Table 03-15). -/
def gvCnt (p k : Nat) : Nat := 0x10000 + 0x100 * p + k

/-- The bits of CROSS_BR_STATUS and CROSS_BR_EVT_EN, bit 0 first (Table 04-17). -/
def brBits : List (Fld × Fld) := [
  (F.CROSS_BR_STATUS_READY_LATE, F.CROSS_BR_EVT_EN_READY_LATE),
  (F.CROSS_BR_STATUS_UNLAUNCHED, F.CROSS_BR_EVT_EN_UNLAUNCHED),
  (F.CROSS_BR_STATUS_SKIFF_NO_TIME, F.CROSS_BR_EVT_EN_SKIFF_NO_TIME),
  (F.CROSS_BR_STATUS_SKIFF_OVERFLOW, F.CROSS_BR_EVT_EN_SKIFF_OVERFLOW),
  (F.CROSS_BR_STATUS_LATE_COPY, F.CROSS_BR_EVT_EN_LATE_COPY),
  (F.CROSS_BR_STATUS_NOT_REFRESHED, F.CROSS_BR_EVT_EN_NOT_REFRESHED),
  (F.CROSS_BR_STATUS_TALLY_ILLEGAL, F.CROSS_BR_EVT_EN_TALLY_ILLEGAL),
  (F.CROSS_BR_STATUS_MERGE_LATE, F.CROSS_BR_EVT_EN_MERGE_LATE)]

/-- Bit `k` of CROSS_BR_STATUS is set, with its event at the first setting in a crossing (R142). -/
def brStatus (b k : Nat) (d : Device) : Device :=
  let x := d.branch b
  let d := d.ru (bitPair brBits k).1 1 b
  if bit x.raised k then d
  else evRaiseIf (d.rb (bitPair brBits k).2 b) (128 + b) (d.setBranch b { x with raised := x.raised + 2 ^ k })

/-- `brStatus` when the condition holds. -/
def brStatusIf (c : Bool) (b k : Nat) (d : Device) : Device := if c then brStatus b k d else d

/-- The run of branch `b` for crossing `n`. -/
def Device.runOf (d : Device) (b n : Nat) : Option Run := d.cross.runs.find? fun r => r.branch == b && r.crossing == n

/-- A run replaced. -/
def Device.putRun (d : Device) (r : Run) : Device :=
  { d with cross.runs := d.cross.runs.map fun x => if x.branch = r.branch ∧ x.crossing = r.crossing then r else x }

/-- The first run of branch `b`, oldest first, that a test picks. -/
def Device.runWith (d : Device) (b : Nat) (pick : Run → Bool) : Option Run :=
  d.cross.runs.find? fun r => r.branch == b && pick r

/-- Wire time on branch `b`. -/
def branchWire (b len : Nat) (d : Device) : Nat := d.wire (d.rg F.CROSS_BR_CFG_PORT_A b) len

/-- The margins of CROSS_MARGINS as times. -/
def readyMargin (d : Device) : Int := nsT (d.rg F.CROSS_MARGINS_READY_MARGIN)
/-- MERGE_MARGIN. -/
def mergeMargin (d : Device) : Int := nsT (d.rg F.CROSS_MARGINS_MERGE_MARGIN)
/-- ACCEPT_WINDOW of the branch arms. -/
def acceptWindow (d : Device) : Int := nsT (d.rg F.PILOT_CFG_ACCEPT_WINDOW)

/-! ### Berths as sent (R119, R120, R138, R153) -/

/-- The chart's safe values of a berth (Table 17-7). -/
def safeValues (e : BerthEntry) (d : Device) : Bytes :=
  match e.safeKind with
  | 1 => (List.range e.outLen).map fun i => (d.chart.pool[e.safeRef + i]?).getD 0
  | 2 => List.replicate e.outLen (BitVec.ofNat 8 e.safeRef)
  | _ => List.replicate e.outLen 0

/-- Whether muster marked a node of branch `b` absent. -/
def nodeAbsent (b node : Nat) (d : Device) : Bool := (tabGet [] d.muster.absent b).contains node

/-- What Table 05-4 sends in a berth that is not an unclaimed spare: safe values or not, and STALE. -/
def outputRule (i b : Nat) (d : Device) : Bool × Bool :=
  let age := outAge i d
  let limit := d.rg F.CARGO_BR_POLICY_AGE_LIMIT b
  if d.cargo.outErr.contains i then (true, false)
  else if d.rb F.CARGO_BR_POLICY_LATCHED b then (true, false)
  else if age = 0 then (false, false)
  else if d.rg F.CARGO_BR_POLICY_POLICY b = 1 ∧ limit < age then (true, false)
  else (false, true)

/-- Berth `i` as the ferry of this crossing carries it. -/
def berthRun (i : Nat) (e : BerthEntry) (d : Device) : BerthRun :=
  let spare := unclaimedSpare i e d
  let id := (tabGet none d.cross.claims i).getD (e.node, e.bidx)
  let rule := if spare then (false, false) else outputRule i e.branch d
  let out := if spare then List.replicate e.outLen 0
    else if rule.1 then safeValues e d else memSlice 0 d.cargo.send.mem e.outOff e.outLen
  let node := if spare then 0 else id.1
  { idx := i, frame := e.frame, pos := e.pos, sent := berthBytes node id.2 (berthFlags spare rule.1 rule.2) e.inLen out,
    spare := spare, absent := !spare && nodeAbsent e.branch node d, safe := rule.1, stale := rule.2,
    outAge := outAge i d }

/-! ### The run of an active crossing (R111, R115, R183) -/

/-- The frames of a train from its berths, the first launching at `t`. -/
def trainFrames (b : Nat) (bs : List BerthRun) (d : Device) : Nat → Nat → Int → List FrameRun
  | 0, _, _ => []
  | n + 1, k, t =>
    let mine := bs.filter fun x => x.frame == k
    let pdu := mine.foldl (fun m x => m + x.sent.length) 20
    let f : FrameRun := { len := armFrameLen pdu, pduLen := pdu, first := (mine.head?.map (·.idx)).getD 0,
                          count := mine.length, launchAt := t }
    f :: trainFrames b bs d n (k + 1) (t + nsT (branchWire b f.len d))

/-- The run of branch `b` for crossing `n`, with assembly from the SEND buffer. -/
def newRun (b n : Nat) (d : Device) : Run :=
  let bs := (branchBerths b d).map fun e => berthRun e.1 e.2 d
  let s := boundaryT n d
  { branch := b, crossing := n, start := s, deadline := s + nsT (d.rg F.CROSS_BR_DEADLINE_INPUT_DEADLINE b),
    test := d.st == .test, last := d.rg F.CROSS_BR_CFG_TRAIN_LAST b, submult := d.rg F.CROSS_BR_CFG_SUBMULT b,
    berths := bs,
    frames := trainFrames b bs d (d.rg F.CROSS_BR_CFG_TRAIN_LAST b + 1) 0
      (s + nsT (d.rg F.CROSS_BR_LAUNCH_LAUNCH_OFFSET b)) }

/-- The return windows of a run's train, and the UP windows of its branch. -/
def runWindows (r : Run) (d : Device) : Device :=
  let ps := pathsOf r.branch d
  let d := r.frames.zipIdx.foldl (fun d f =>
    ps.foldl (fun d p => p.backs.foldl (fun d back =>
      windowAt back.1 .ferry (f.1.launchAt + back.2) (d.wire back.1 f.1.len) r.crossing r.branch f.2 p.chan false d) d) d) d
  match r.frames.getLast? with
  | none => d
  | some l =>
    (List.range 4).foldl (fun d w =>
      if d.rb F.PILOT_ACY_CFG_ENABLE r.branch w && !d.rb F.PILOT_ACY_CFG_DIR r.branch w then
        ps.foldl (fun d p => p.backs.foldl (fun d back =>
          windowAt back.1 .nodeAcyclic
            (l.launchAt + back.2 + nsT (d.wire back.1 l.len + d.rg F.PILOT_ACY_GAP_GAP_NS r.branch w))
            (d.wire back.1 (armFrameLen (24 + d.rg F.PILOT_ACY_CFG_MAX_DATA r.branch w))) r.crossing r.branch w p.chan
            true d) d) d
      else d) d

/-- CARGO_SAFE_ENTERED of a branch, judged at the boundary of an active crossing (R155). -/
def safeEntered (r : Run) (d : Device) : Device :=
  let x := d.branch r.branch
  let safe := r.berths.any (·.safe)
  let host := decide (1 ≤ d.cargo.send.img) && r.berths.any fun y => !y.spare && !y.safe && beField y.sent 4 2 != 0
  let d := d.setBranch r.branch { x with hostSent := (x.hostSent && !safe) || host }
  evRaiseIf (safe && x.hostSent) 444 d

/-- Branch `b` begins its active crossing `n`. -/
def runStart (b n : Nat) (d : Device) : Device :=
  let r := newRun b n d
  let d := { d with cross.runs := d.cross.runs ++ [r],
                    cargo.outErr := d.cargo.outErr.filter fun i => !r.berths.any (fun x => x.idx == i) }
  safeEntered r (runWindows r (d.count (crossCnt b 0)))

/-! ### The merge and the skiff decision (R121 to R132) -/

/-- Whether a copy's stamp is first, channel A before B on equal stamps (R121). -/
def copyFirst (new old : Winner) : Bool :=
  decide (stampUnits new.stamp < stampUnits old.stamp)
    || (stampUnits new.stamp == stampUnits old.stamp && new.chan != 1 && old.chan == 1)

/-- A usable copy that supplies inputs meets the winner so far (R121, R122). -/
def mergeCopy (x : BerthRun) (w : Winner) : BerthRun :=
  match x.win with
  | none => { x with win := some w }
  | some o =>
    if w.complete then
      if !o.complete then { x with win := some w, prior := some o }
      else if copyFirst w o then { x with win := some w } else x
    else if !o.complete && copyFirst w o then { x with win := some w }
    else x

/-- Time at which the last of one channel's copies of a frame is accounted for (R116), from its windows. -/
def copyDone (t0 : Int) (ws : List Window) : Option Int :=
  match ws.filterMap (fun w => if w.used then w.doneAt else none) with
  | t :: ts => some (ts.foldl min t)
  | [] => if ws.all (·.doneAt.isSome) then some (ws.foldl (fun m w => max m (w.doneAt.getD 0)) t0) else none

/-- Time at which every launched copy of frame or skiff `k` is accounted for; `t0` is a lower bound. -/
def frameDone (kind : WinKind) (b n k : Nat) (t0 : Int) (d : Device) : Option Int :=
  [0, 1, 2].foldl (fun acc c =>
    match d.pilot.windows.filter fun w =>
        w.kind == kind && w.branch == b && w.crossing == n && w.idx == k && w.chan == c && w.live with
    | [] => acc
    | ws =>
      match acc, copyDone t0 ws with
      | some a, some t => some (max a t)
      | _, _ => none) (some t0)

/-- The decision time that a run has reached: D_b, or that of the skiff sent last (R116, R132). -/
def decisionTime (r : Run) (d : Device) : Option Int :=
  if r.decisions = 0 then
    if r.frames.any (fun f => f.st == .waiting) then none
    else
      let t0 := r.frames.foldl (fun m f => max m f.launchAt) r.start
      r.frames.zipIdx.foldl (fun acc f =>
        match acc, frameDone .ferry r.branch r.crossing f.2 t0 d with
        | some a, some t => some (max a t)
        | _, _ => none) (some t0)
  else
    match r.skiffs[r.decisions - 1]? with
    | some s => if s.st = .launched then frameDone .skiff r.branch r.crossing (r.decisions - 1) s.launchAt d else none
    | none => none

/-- The candidate set of a run (R129). A berth whose ferry frame an uncorrectable error took from Hold is none, since a
skiff takes its bytes from there (R151). -/
def candidates (r : Run) : List BerthRun :=
  r.berths.filter fun x =>
    x.win.isNone && !x.illegal && !x.spare && !x.absent
      && ((r.frames[x.frame]?).map (fun f => f.st == .launched && !f.lost)).getD false

/-- The berths that a skiff carries, and those it leaves out for want of room (R131). -/
def skiffTake : Nat → Nat → List BerthRun → List BerthRun × List BerthRun
  | _, _, [] => ([], [])
  | cnt, pdu, x :: xs =>
    if cnt = 256 ∨ 16334 < pdu + x.sent.length then ([], x :: xs)
    else
      let r := skiffTake (cnt + 1) (pdu + x.sent.length) xs
      (x :: r.1, r.2)

/-- No further skiff can be sent: what overflow candidates remain are counted (R131). -/
def skiffStop (r : Run) (d : Device) : Device :=
  let still := r.overflow.filter fun i => (candidates r).any fun x => x.idx == i
  let d := d.putRun { r with closed := true }
  if still = [] then d else brStatus r.branch 3 (d.countN (crossCnt r.branch 0x50) still.length)

/-- The skiff decision of a run at time `t` (R130, R131). -/
def skiffDecide (r : Run) (t : Int) (d : Device) : Device :=
  let b := r.branch
  let r := { r with decisions := r.decisions + 1 }
  let cands := candidates r
  if cands = [] then skiffStop r d
  else if d.rg F.CROSS_BR_CFG_SKIFF_MAX b ≤ r.skiffs.length then skiffStop r d
  else
    let take := skiffTake 0 20 cands
    let pdu := take.1.foldl (fun m x => m + x.sent.length) 20
    let len := armFrameLen pdu
    let ts := t + nsT (d.rg F.CROSS_MARGINS_SKIFF_LEAD)
    let ps := pathsOf b d
    if ts + nsT (branchWire b len d) + longestRtt ps + acceptWindow d ≤ r.deadline - mergeMargin d then
      let s : SkiffRun := { len := len, pduLen := pdu, berths := take.1.map (·.idx), launchAt := ts }
      let left := take.2.map (·.idx)
      let k := r.skiffs.length
      let d := d.putRun { r with skiffs := r.skiffs ++ [s],
                                 overflow := r.overflow ++ left.filter fun i => !r.overflow.contains i }
      ps.foldl (fun d p => p.backs.foldl (fun d back =>
        windowAt back.1 .skiff (ts + back.2) (d.wire back.1 len) r.crossing b k p.chan false d) d) d
    else skiffStop r (brStatus b 2 (d.count (crossCnt b 0x48)))

/-- BRANCH_MERGED of a run, once (R134). -/
def mergedCheck (b n : Nat) (d : Device) : Device :=
  match d.runOf b n with
  | none => d
  | some r =>
    let all := r.berths.all fun x => match x.win with | some w => w.complete | none => false
    if !r.merged && (r.closed || all) then cpCondition 4 n b (d.putRun { r with merged := true }) else d

/-- A run moves on when its decision time has come and no returned copy of it waits to be merged. -/
def runDecide (b n : Nat) (d : Device) : Device :=
  match d.runOf b n with
  | none => d
  | some r =>
    let waits := d.pilot.handed.any fun h =>
      match h.win with
      | some w => w.branch == b && w.crossing == n && (w.kind == .ferry || w.kind == .skiff)
      | none => false
    if r.closed || waits then mergedCheck b n d
    else
      match decisionTime r d with
      | none => mergedCheck b n d
      | some t => mergedCheck b n (skiffDecide r t d)

/-! ### Assembly and launch (R111 to R113, R131) -/

/-- Whether frame `k` of a run has yet to be whole. -/
def frameWaiting (k : Nat) (r : Run) : Bool :=
  match r.frames[k]? with
  | some f => !f.whole
  | none => false

/-- Whether the launch time of frame `k` of a run has come by `x`. -/
def frameDue (k : Nat) (x : Int) (r : Run) : Bool :=
  match r.frames[k]? with
  | some f => f.st == .waiting && decide (f.launchAt ≤ x)
  | none => false

/-- Whether the launch time of the skiff that a run decided last has come by `x`. -/
def skiffDue (x : Int) (r : Run) : Bool :=
  match r.skiffs.getLast? with
  | some s => s.st == .waiting && decide (s.launchAt ≤ x)
  | none => false

/-- FERRY_ASSEMBLED: frame `k` is whole in its launch register; one that is whole only after its launch time is not
launched (R113), and its slack is logged all the same (R384).  SAFE_SENDS and STALE_SENDS of R172 count a berth once
for the assembled frame, whether one channel or two then send it, and never again for a skiff: DESIGN CHOICE (log entry
64), as the spec says 'berth sends' and no more. -/
def ferryAssembled (b k : Nat) (d : Device) : Device :=
  match d.runWith b (frameWaiting k) with
  | none => d
  | some r =>
    match r.frames[k]? with
    | none => d
    | some f =>
      let limit := f.launchAt - readyMargin d
      let x := d.xNow
      let d := logSlack 0 (slackX limit d.raw d) d
      if f.launchAt ≤ x then d.putRun { r with frames := r.frames.set k { f with whole := true } }
      else
        let late := decide (limit < x)
        let d := d.putRun { r with frames := r.frames.set k { f with whole := true, ready := true } }
        let d := brStatusIf late b 0 (d.countIf late (crossCnt b 0x60))
        let mine := r.berths.filter fun y => y.frame == k
        (d.countN (cargoCnt 0x30) (mine.filter (·.safe)).length).countN (cargoCnt 0x38) (mine.filter (·.stale)).length

/-- The header fields that a ferry and a skiff share (Table 04-3). -/
def trainCommon (kind : Nat) (r : Run) (chan pduLen : Nat) (d : Device) : GvHeader :=
  { kind := kind, test := r.test, chan := chan, dev := d.rg F.GLOBAL_ID_DEVICE_ID, branch := r.branch,
    crossing := r.crossing, pduLen := pduLen }

/-- A FERRY or SKIFF header with HCRC, as sent on channel code `chan`. -/
def ferryHeader (r : Run) (k : Nat) (f : FrameRun) (chan : Nat) (d : Device) : Bytes :=
  trainHeader (trainCommon 1 r chan f.pduLen d) r.last k r.submult f.count f.first
/-- The header of skiff `k`. -/
def skiffHeader (r : Run) (k : Nat) (s : SkiffRun) (chan : Nat) (d : Device) : Bytes :=
  trainHeader (trainCommon 2 r chan s.pduLen d) 0 k r.submult s.berths.length (s.berths.headD 0)

/-- Destination address of the frames of branch `b` (Table 03-1). -/
def branchAddr (b : Nat) (c : NetCfg) : Nat := tabGet (0x034A58000000 + b) c.branchAddr b

/-- A frame on a branch arm from its PDU (R70, Table 03-1). -/
def armFrame (b : Nat) (pdu : Bytes) (d : Device) : Bytes :=
  garvaneFrame (branchAddr b d.netCfg) (d.rg F.GLOBAL_MAC_ADDRESS) d.netCfg.etherType [] pdu

/-- The berths of a run with the given indices. -/
def berthsOf (r : Run) (l : List Nat) : List BerthRun := r.berths.filter fun x => l.contains x.idx

/-- A frame or skiff planned for clock-X time `t` leaves on every channel whose port is in RUN and takes its length
(R274): counted, stamped as R233 says, and its windows await its copies. -/
def trainSend (kind : WinKind) (cnt : Nat) (r : Run) (k : Nat) (t : Int) (frame : Nat → Bytes) (d : Device) :
    Bool × Device :=
  (pathsOf r.branch d).foldl (fun a p =>
    let d := a.2
    let mine := fun (w : Window) =>
      w.kind == kind && w.branch == r.branch && w.crossing == r.crossing && w.idx == k && w.chan == p.chan
    let ok := d.portRun p.port && decide ((frame p.chan).length ≤ d.rg F.PORT_FRAME_MAX_FRAME p.port)
    let s := launchStamp (launchUnits .x t d) d
    let d := (ownSend p.port (frame p.chan) s.1 none s.2).countIf ok cnt
    let d := if ok then windowsMap mine (fun w => { w with live := true }) d
      else { d with pilot.windows := d.pilot.windows.filter fun w => !mine w }
    (a.1 || ok, d)) (false, d)

/-- A frame or skiff that is not whole at its time, on a branch with a path in use (R113). -/
def unlaunched (kind : WinKind) (r : Run) (k : Nat) (d : Device) : Device :=
  let d := windowsDrop kind r.branch r.crossing k d
  if pathsOf r.branch d = [] then d else brStatus r.branch 1 (d.count (crossCnt r.branch 0x68))

/-- FERRY_LAUNCH: the launch time of frame `k` has come. -/
def ferryLaunch (b k : Nat) (d : Device) : Device :=
  match d.runWith b (frameDue k d.xNow) with
  | none => d
  | some r =>
    match r.frames[k]? with
    | none => d
    | some f =>
      let body := (berthsOf r ((r.berths.filter fun y => y.frame == k).map (·.idx))).map (·.sent)
      let sent := if f.ready then
          trainSend .ferry (crossCnt b 8) r k f.launchAt (fun c => armFrame b (ferryHeader r k f c d ++ body.flatten) d) d
        else (false, unlaunched .ferry r k d)
      let st := if sent.1 then LaunchState.launched else .unlaunched
      runDecide b r.crossing (sent.2.putRun { r with frames := r.frames.set k { f with st := st } })

/-- Whether a skiff carries a berth whose ferry frame was lost from Hold. -/
def skiffLost (r : Run) (s : SkiffRun) : Bool :=
  (berthsOf r s.berths).any fun x => ((r.frames[x.frame]?).map (·.lost)).getD false

/-- SKIFF_LAUNCH: the launch time of the skiff decided last has come; `ready` is the raw count at which it was whole. -/
def skiffLaunch (b : Nat) (ready : Option Word) (d : Device) : Device :=
  match d.runWith b (skiffDue d.xNow) with
  | none => d
  | some r =>
    match r.skiffs.getLast? with
    | none => d
    | some s =>
      let k := r.skiffs.length - 1
      let limit := s.launchAt - readyMargin d
      let d := match ready with
        | some w => logSlack 1 (slackX limit w d) d
        | none => d
      let whole := match ready with
        | some w => decide (d.timeAt .x { count := w } < s.launchAt) && !skiffLost r s
        | none => false
      let late := match ready with
        | some w => whole && decide (limit < d.timeAt .x { count := w })
        | none => false
      let d := brStatusIf late b 0 (d.countIf late (crossCnt b 0x60))
      let body := (berthsOf r s.berths).map (·.sent)
      let sent := if whole then
          trainSend .skiff (crossCnt b 0x10) r k s.launchAt (fun c => armFrame b (skiffHeader r k s c d ++ body.flatten) d) d
        else (false, unlaunched .skiff r k d)
      let st := if sent.1 then LaunchState.launched else .unlaunched
      let r := { r with skiffs := r.skiffs.set k { s with st := st } }
      if sent.1 then runDecide b r.crossing (sent.2.putRun r)
      else mergedCheck b r.crossing (skiffStop r (sent.2.putRun r))

/-! ### Returned copies (R85, R86, R96, R121 to R124) -/

/-- The first frame handed on at port `p` that a test picks, with the device without it. -/
def takeHanded (p : Nat) (pick : Handed → Bool) (d : Device) : Option (Handed × Device) :=
  match d.pilot.handed.find? fun h => h.port == p && pick h with
  | none => none
  | some h => some (h, { d with pilot.handed := d.pilot.handed.erase h })

/-- Whether a handed frame came through a window of kind `k`. -/
def handedKind (k : WinKind) (h : Handed) : Bool := match h.win with | some w => w.kind == k | none => false

/-- One copy of a berth, at PDU offset `pos` of a returned frame: counted, classed and merged. DEDUCED: a late copy of an
unclaimed spare sets LATE_COPY as every late copy does (R124), and one that came back changed counts under SPARE_TOUCHED
alone (R86). -/
def berthCopy (h : Handed) (r : Run) (skiff : Option Nat) (x : BerthRun) (pos : Nat) (d : Device) : BerthRun × Device :=
  let pdu := h.bytes.drop h.off
  let got := slice pdu pos x.sent.length
  let p := h.port
  let stamp := byteEnd h.stamp (h.off + pos + x.sent.length - 1) (d.rate p)
  let late := got.length == x.sent.length && decide (r.deadline - mergeMargin d ≤ d.timeAt .x stamp)
  if x.spare then
    let same := spareUntouched x.sent got
    let d := d.countIf (!same) (gvCnt p 0x68)
    (x, brStatusIf late r.branch 4 (d.countIf (late && same) (crossCnt r.branch 0x58)))
  else
    let cls := copyClass x.sent got
    let chan := (gvParse pdu).chan
    let usable := !late && (d.arm p).st != .probation
    let good := match cls with | .failedCrc | .failedField => false | _ => true
    let d := match cls with
      | .failedCrc => d.count (gvCnt p 0x50)
      | .failedField => d.count (gvCnt p 0x58)
      | .illegal => brStatus r.branch 6 (d.count (gvCnt p 0x60))
      | _ => d
    let d := d.countIf (good && copyReserved got) (gvCnt p 0x48)
    let d := brStatusIf late r.branch 4 (d.countIf late (crossCnt r.branch 0x58))
    let w : Winner :=
      { code := (match skiff with | some k => 3 + k | none => if chan = 1 then 2 else 1), complete := cls == .complete,
        stamp := stamp, chan := chan, inputs := copyInputs got, mbx := copyMbx got, fault := copyFault got }
    let x := { x with illegal := x.illegal || cls == .illegal }
    let x := if usable && (cls == .complete || cls == .outputsOnly) then { x with delivered := true } else x
    (if usable && (cls == .complete || cls == .inputsOnly) then mergeCopy x w else x, d)

/-- Every berth of a returned frame, by its positions. -/
def frameCopies (h : Handed) (r : Run) (skiff : Option Nat) (l : List (Nat × Nat)) (d : Device) : Device :=
  l.foldl (fun d e =>
    match d.runOf r.branch r.crossing with
    | none => d
    | some r =>
      match r.berths.find? fun x => x.idx == e.1 with
      | none => d
      | some x =>
        let y := berthCopy h r skiff x e.2 d
        y.2.putRun { r with berths := r.berths.map fun z => if z.idx = e.1 then y.1 else z }) d

/-- The berths of a skiff with their PDU offsets (R82). -/
def skiffLayout : Nat → List BerthRun → List (Nat × Nat)
  | _, [] => []
  | pos, x :: xs => (x.idx, pos) :: skiffLayout (pos + x.sent.length) xs

/-- FERRY_RETURN: a handed ferry copy of port `p` is classed and merged. -/
def ferryReturn (p : Nat) (d : Device) : Device :=
  match takeHanded p (handedKind .ferry) d with
  | none => d
  | some (h, d) =>
    match h.win with
    | none => d
    | some w =>
      match d.runOf w.branch w.crossing with
      | none => d
      | some r =>
        let l := (r.berths.filter fun x => x.frame == w.idx).map fun x => (x.idx, x.pos)
        runDecide w.branch w.crossing (frameCopies h r none l d)

/-- SKIFF_RETURN: a handed skiff copy of port `p` is classed and merged with the ferry copies. -/
def skiffReturn (p : Nat) (d : Device) : Device :=
  match takeHanded p (handedKind .skiff) d with
  | none => d
  | some (h, d) =>
    match h.win with
    | none => d
    | some w =>
      match d.runOf w.branch w.crossing with
      | none => d
      | some r =>
        let bs := match r.skiffs[w.idx]? with | some s => berthsOf r s.berths | none => []
        runDecide w.branch w.crossing (frameCopies h r (some w.idx) (skiffLayout 20 bs) d)

/-- RETURN_WINDOW_CLOSE: window `id` has closed without its copy (R116). -/
def returnWindowClose (id : Nat) (d : Device) : Device :=
  match d.pilot.windows.find? fun w => w.id == id with
  | none => d
  | some w =>
    if w.kind = .muster ∨ w.used = true ∨ w.doneAt.isSome = true ∨ d.xNow < w.close then d
    else runDecide w.branch w.crossing (windowDone id w.close d)

/-! ### The input deadline (R123 to R128, R148, R157, R158) -/

/-- The berth status entry of Table 05-2. -/
def statusEntry (n : Nat) (x : BerthRun) (age : Nat) (mbx fault : Bool) : Nat :=
  let code := match x.win with | some w => w.code | none => 0
  let refused := match x.win with | some w => !w.complete | none => false
  age * 2 ^ 56 + x.outAge * 2 ^ 48 + n % 2 ^ 16 * 2 ^ 32 + code * 2 ^ 16 + flagBit x.delivered 15 + flagBit refused 14
    + flagBit x.illegal 13 + flagBit x.absent 12 + flagBit mbx 11 + flagBit fault 10 + flagBit x.safe 9
    + flagBit x.stale 8 + flagBit x.spare 7

/-- A berth's winner after what reached Cargo too late (R125), or was damaged there (Table 01-5): the berth and whether
R125 applied. The inputs-only copy that a discarded complete one replaced stands, unless it had not reached Cargo
either. -/
def lateMerge (x : BerthRun) (late : Option LateMerge) (err : Bool) : BerthRun × Bool :=
  let y := match late with
    | some l => { x with win := if l.priorLate || x.win.isNone then none else x.prior, prior := none }
    | none => x
  (if err then { y with win := none } else y, late.isSome && x.win.isSome)

/-- Whether a claim or release has given a berth another owner since its run began (R138). -/
def ownerChanged (x : BerthRun) (e : BerthEntry) (d : Device) : Bool :=
  let id := (tabGet none d.cross.claims x.idx).getD (e.node, e.bidx)
  unclaimedSpare x.idx e d != x.spare || (!x.spare && slice x.sent 0 2 != beBytes 2 (id.1 * 4 + id.2))

/-- One berth at DL_b: age, inputs and status entry in FILL, and its counters. DESIGN CHOICE: a berth that was claimed or
released since its run began, at the boundary at which its input deadline falls too, keeps what R138 gave it: the run's
result is counted and reaches no buffer. -/
def berthFinal (n b : Nat) (x : BerthRun) (d : Device) : Device :=
  let e := (d.chart.berths[x.idx]?).getD {}
  let keep := ownerChanged x e d
  let old := leNat (memSlice 0 d.cargo.inFill (8 * x.idx) 8)
  let age := match x.win with | some _ => 0 | none => min (inAge x.idx d + 1) 255
  let mbx := match x.win with | some w => w.mbx | none => bit old 11
  let fault := match x.win with | some w => w.fault | none => bit old 10
  let m := match x.win with
    | some w => memPatch 0 d.cargo.inFill (d.rg F.CARGO_LAYOUT_IN_DATA_BASE + e.inOff) w.inputs
    | none => d.cargo.inFill
  let d := if keep then d else
    { d with cross.inAge := tabSet 255 d.cross.inAge x.idx age,
             cargo.inFill := memPatch 0 m (8 * x.idx) (leBytes 8 (statusEntry n x age mbx fault)) }
  match x.win with
  | some w => ((d.count (crossCnt b 0x18)).count (crossCnt b (if w.code ≤ 2 then 0x20 + 8 * w.code else 0x38))).countIf
      (!w.complete) (crossCnt b 0x40)
  | none => d.countIf (!x.absent && !x.spare) (crossCnt b 0x20)

/-- The FILL buffer becomes STABLE, the SPARE becomes FILL and takes its contents, and the snapshot starts; a buffer
that a snapshot still writes is held until it ends (R158). -/
def inputsStable (m : Nat) (d : Device) : Device :=
  let c := d.cargo
  let busy := match c.snap with | some s => s.held | none => false
  let d := { d with cargo := { c with inStable := c.inFill, inSpare := if busy then c.inSpare else c.inStable,
                                      snap := c.snap.map (fun (s : Snapshot) => { s with held := true }), stableValid := true } }
  snapshotStart m (d.ru F.CARGO_STATUS_STABLE_CROSSING m)

/-- Crossing in which a time falls. -/
def crossingOf (t : Int) (d : Device) : Nat := (t / periodT d).toNat

/-- BRANCH_DEADLINE: DL_b of the oldest run that is not final. -/
def branchDeadline (b : Nat) (mergeDone : Word) (lateMerges : List LateMerge) (d : Device) : Device :=
  match d.runWith b (fun r => !r.final) with
  | none => d
  | some r =>
    let m := crossingOf r.deadline d
    if d.xNow < r.deadline ∨ d.crossingNo < m then d
    else
      let d := logSlack 2 (slackX r.deadline mergeDone d) d
      let l := r.berths.map fun x => lateMerge x (lateMerges.find? fun m => m.berth == x.idx) (d.cargo.inErr.contains x.idx)
      let n := (l.filter (·.2)).length
      let bs := l.map (·.1)
      let d := brStatusIf (n != 0) b 7 (d.countN (crossCnt b 0x70) n)
      let d := { d with cargo.inErr := d.cargo.inErr.filter fun i => !bs.any (fun x => x.idx == i) }
      let d := bs.foldl (fun d x => berthFinal r.crossing b x d) d
      let missed := bs.any fun x => x.win.isNone && !x.absent && !x.spare
      let d := (brStatusIf missed b 5 d).ru F.CROSS_BR_LAST_CROSSING r.crossing b
      let d := d.putRun { r with berths := bs, final := true }
      if d.cross.runs.any fun x => !x.final && crossingOf x.deadline d == m then d else inputsStable m d

/-! ### ACYCLIC frames (R140, R185, R88, R89, R433) -/

/-- Time from the stamp point of a frame of `len` bytes on branch `b` until its last bit has left: no preamble comes
after the stamp point, and the gap is no part of the frame. In units of 2^-56 ns, rounded up. -/
def lastBitT (b len : Nat) (d : Device) : Int :=
  let r := d.rate (d.rg F.CROSS_BR_CFG_PORT_A b)
  ((nsT (len * 8) + r - 1) / r)

/-- The head of a branch's own ACYCLIC queue, with DOWN window `w` open and room for the frame in it. -/
def acyclicLaunch (b w : Nat) (d : Device) : Device :=
  let x := d.branch b
  match x.acyQueue, (d.cross.runs.filter fun r => r.branch == b).getLast? with
  | a :: rest, some r =>
    let chans := pathsOf b d
    let open_ := r.start + nsT (d.rg F.PILOT_ACY_GAP_GAP_NS b w)
    let close := open_ + nsT (branchWire b (armFrameLen (24 + d.rg F.PILOT_ACY_CFG_MAX_DATA b w)) d) + acceptWindow d
    let len := armFrameLen (24 + a.data.length)
    let now := d.xNow
    let idle := chans.all fun p => match (d.port p.port).own with | some o => decide (o.stop.toNat ≤ d.raw.toNat) | none => true
    if !violating d.st || chans = [] || !d.rb F.PILOT_ACY_CFG_ENABLE b w || !d.rb F.PILOT_ACY_CFG_DIR b w || !idle
        || decide (now < open_) || decide (close ≤ now + lastBitT b len d) then d
    else
      let dev := d.rg F.GLOBAL_ID_DEVICE_ID
      let n := d.crossingNo
      let j := jobNew a.entry chans.length (some a.seq) (d.setBranch b { x with acyQueue := rest })
      let d := windowsBack .ownAcyclic chans now (branchWire b len d) n b w true j.2
      chans.foldl (fun d p =>
        let s := launchStamp (launchUnits .x now d) d
        ownSend p.port (armFrame b (acyclicPdu p.chan dev b n (dev * 16384 + a.node) a.mbx a.seq w a.data) d) s.1
          (some j.1) s.2) d
  | _, _ => d

/-- SUBMULT of the run of branch `b` for crossing `n`. -/
def submultOf (b n : Nat) (d : Device) : Nat :=
  match d.runOf b n with
  | some r => r.submult
  | none => d.rg F.CROSS_BR_CFG_SUBMULT b

/-- The owner of UP window `w` of branch `b` in the active crossing `n` (R185). -/
def windowOwner (b w n : Nat) (d : Device) : Nat :=
  d.rg F.PILOT_ROTA_NODE (d.rg F.PILOT_ACY_CFG_ROTA_BASE b w
    + n / 2 ^ submultOf b n d % d.rg F.PILOT_ACY_CFG_ROTA_LEN b w)

/-- NODE_ACYCLIC_RX: the owner, WINDOW and duplicate tests, then delivery (R185, R88, R431). -/
def nodeAcyclicRx (p : Nat) (d : Device) : Device :=
  match takeHanded p (handedKind .nodeAcyclic) d with
  | none => d
  | some (h, d) =>
    match h.win with
    | none => d
    | some w =>
      let pdu := h.bytes.drop h.off
      let addr := beField pdu 12 3 % 2 ^ 20
      let key := (addr, beField pdu 15 1, beField pdu 16 1)
      if addr % 2 ^ 14 ≠ windowOwner w.branch w.idx w.crossing d then
        violation p 3 (deviationOf (d.timeAt .x h.stamp - w.expect)) d
      else if beField pdu 17 1 % 4 ≠ w.idx then d.count (gvCnt p 0x78)
      else if d.cross.acySeen.contains key then d.count (gvCnt p 0x70)
      else
        let d := { d with cross.acySeen := key :: d.cross.acySeen }
        if d.rb F.QUEUE_ACY_CFG_ENABLE then
          rxDeliver (d.rg F.QUEUE_ACY_CFG_RXQ) (h.bytes.take (h.bytes.length - 4))
            (h.rxStatus * 2 ^ 48 + p * 2 ^ 32 + 2 ^ 29) h.stamp d
        else d.count 0xB0030

/-- OWN_ACYCLIC_RETURN: the device's own frame is discarded, uncounted (R89). -/
def ownAcyclicReturn (p : Nat) (d : Device) : Device :=
  match takeHanded p (handedKind .ownAcyclic) d with
  | none => d
  | some (_, d) => d

/-- Reserved bits and encodings of an ACYCLIC_SEND entry (R433). -/
def acyclicReserved (b : Bytes) : Bool :=
  let mbx := bits (leWord b 0) 12 5
  word0Reserved b || entryUnits b != 1 || wordHas b 0 31 || wordHas b 2 (2 ^ 64 - 2 ^ 11) || wordHas b 3 (2 ^ 64 - 1)
    || mbx == 0 || decide (4 < mbx)

/-- The DOWN windows of branch `b` in use. -/
def downWindows (b : Nat) (d : Device) : List Nat :=
  (List.range 4).filter fun w => d.rb F.PILOT_ACY_CFG_ENABLE b w && d.rb F.PILOT_ACY_CFG_DIR b w

/-- ACYCLIC_SEND: the entry's tests, then a frame for the branch's DOWN windows; `data` is what the data read returned. An
entry waits while no tag is free for that read. -/
def acyclicSend (q : Nat) (data : HostRead) (d : Device) : Device :=
  if !d.bme || !queueTag d then d
  else entryStep q 3 acyclicReserved (fun e d =>
    let w0 := leWord e.bytes 0
    let b := bits w0 31 27
    let node := bits w0 26 13
    let n := leWord e.bytes 2 % 2 ^ 11
    let downs := downWindows b d
    if d.rb F.CROSS_BR_CFG_ENABLE b = false ∨ d.rg F.FIX_MUSTER_BR_RESULT b = 3 ∨ pathsOf b d = [] then
      entryNow q e 0 0x0F {} d
    else if downs = [] then entryNow q e 0 0x0A {} d
    else if downs.all fun w => decide (d.rg F.PILOT_ACY_CFG_MAX_DATA b w < n) then entryNow q e 0 0x05 {} d
    else
      let go := fun (bs : Bytes) (d : Device) =>
        let r := entryStart q e 0 d
        let seq := tabGet 0 r.2.cross.acySeq node
        let a : AcyOut := { node := node, mbx := bits w0 12 5, seq := seq, data := bs, entry := r.1 }
        let d := { r.2 with cross.acySeq := tabSet 0 r.2.cross.acySeq node ((seq + 1) % 256) }
        fetchAll (d.setBranch b { d.branch b with acyQueue := (d.branch b).acyQueue ++ [a] })
      if n = 0 then go [] d
      else
        let d := d.emitRead (leWord e.bytes 1) n
        match data with
        | .failed _ => entryNow q e 0 0x09 {} d
        | .ok bs => if bs.length = n then go bs d else d) d

/-! ### Spare berths (R137, R138) -/

/-- The claims as they will stand once every accepted command has taken effect. -/
def futureClaims (d : Device) : Tab (Option (Nat × Nat)) :=
  d.cross.claimReqs.foldl (fun t c => tabSet none t c.1 c.2) d.cross.claims

/-- Device states in which spare commands are accepted. -/
def sparesOpen (st : DevState) : Bool := liveState st

/-- CLAIM_SPARE. -/
def claimSpare (d : Device) : Device :=
  adminStep 0x05 false (fun _ => false) (fun b d =>
    let i := leWord b 0 % 2 ^ 16
    let v := leWord b 1 % 2 ^ 16
    let id := (v / 4, v % 4)
    let fut := futureClaims d
    let e := (d.chart.berths[i]?).getD {}
    let st := if !sparesOpen d.st then 0x46
      else if !e.spare then 0x49
      else if (tabGet none fut i).isSome then 0x4A
      else if d.chart.berths.any (fun x => !x.spare && x.node == id.1 && x.bidx == id.2)
          || fut.any (fun c => c.2 == some id) then 0x4B
      else if !(tabGet [] d.muster.found e.branch).contains id.1 then 0x4C
      else 0
    (st, {}, if st = 0 then { d with cross.claimReqs := d.cross.claimReqs ++ [(i, some id)] } else d)) d

/-- RELEASE_SPARE. -/
def releaseSpare (d : Device) : Device :=
  adminStep 0x06 false (fun _ => false) (fun b d =>
    let i := leWord b 0 % 2 ^ 16
    let st := if !sparesOpen d.st then 0x46 else if (tabGet none (futureClaims d) i).isNone then 0x4D else 0
    (st, {}, if st = 0 then { d with cross.claimReqs := d.cross.claimReqs ++ [(i, none)] } else d)) d

/-- One spare berth takes the state that the last accepted command gives it, in an active crossing of its branch. -/
def spareApply (i : Nat) (e : BerthEntry) (new : Option (Nat × Nat)) (d : Device) : Device :=
  if tabGet none d.cross.claims i = new then d
  else
    let d := { d with cross.claims := tabSet none d.cross.claims i new, cross.inAge := tabSet 255 d.cross.inAge i 255,
                      cross.outAge := tabSet 255 d.cross.outAge i 255 }
    let zero := List.replicate e.inLen (0 : Byte)
    let d := if new.isNone then
        { d with cargo.inFill := memPatch 0 d.cargo.inFill (d.rg F.CARGO_LAYOUT_IN_DATA_BASE + e.inOff) zero }
      else d
    evRaise 448 (d.ru F.CROSS_SPARE_SPARE_CLAIMED (d.cross.claims.filter fun c => c.2.isSome).length)

/-- The accepted claims and releases of branch `b` take effect (R138). -/
def sparesApply (b : Nat) (d : Device) : Device :=
  let mine := (branchBerths b d).filter fun e => d.cross.claimReqs.any fun c => c.1 == e.1
  let reqs := d.cross.claimReqs
  let d := { d with cross.claimReqs := reqs.filter fun c => !mine.any fun e => e.1 == c.1 }
  mine.foldl (fun d e =>
    match (reqs.filter fun c => c.1 == e.1).getLast? with
    | some c => spareApply e.1 e.2 c.2 d
    | none => d) d

/-! ### Meanings -/

/-- FERRY_ASSEMBLED (R119). -/
def execFerryAssembled (b k : Nat) (s : State) : Host.Outcome State Fault Refusal := onDev (ferryAssembled b k) s
/-- FERRY_LAUNCH (R111). -/
def execFerryLaunch (b k : Nat) (s : State) : Host.Outcome State Fault Refusal := onDev (ferryLaunch b k) s
/-- FERRY_RETURN (R121). -/
def execFerryReturn (p : Nat) (s : State) : Host.Outcome State Fault Refusal := onDev (ferryReturn p) s
/-- SKIFF_RETURN (R132). -/
def execSkiffReturn (p : Nat) (s : State) : Host.Outcome State Fault Refusal := onDev (skiffReturn p) s
/-- RETURN_WINDOW_CLOSE (R116). -/
def execReturnWindowClose (id : Nat) (s : State) : Host.Outcome State Fault Refusal := onDev (returnWindowClose id) s
/-- SKIFF_LAUNCH (R131). -/
def execSkiffLaunch (b : Nat) (ready : Option Word) (s : State) : Host.Outcome State Fault Refusal :=
  onDev (skiffLaunch b ready) s
/-- BRANCH_DEADLINE (R126). -/
def execBranchDeadline (b : Nat) (w : Word) (l : List LateMerge) (s : State) : Host.Outcome State Fault Refusal :=
  onDev (branchDeadline b w l) s
/-- CLAIM_SPARE (R137). -/
def execClaimSpare (s : State) : Host.Outcome State Fault Refusal := onDev claimSpare s
/-- RELEASE_SPARE (R137). -/
def execReleaseSpare (s : State) : Host.Outcome State Fault Refusal := onDev releaseSpare s
/-- ACYCLIC_LAUNCH (R140). -/
def execAcyclicLaunch (b w : Nat) (s : State) : Host.Outcome State Fault Refusal := onDev (acyclicLaunch b w) s
/-- NODE_ACYCLIC_RX (R88). -/
def execNodeAcyclicRx (p : Nat) (s : State) : Host.Outcome State Fault Refusal := onDev (nodeAcyclicRx p) s
/-- OWN_ACYCLIC_RETURN (R89). -/
def execOwnAcyclicReturn (p : Nat) (s : State) : Host.Outcome State Fault Refusal := onDev (ownAcyclicReturn p) s
/-- ACYCLIC_SEND (R433). -/
def execAcyclicSend (q : Nat) (data : HostRead) (s : State) : Host.Outcome State Fault Refusal :=
  onDev (acyclicSend q data) s

end Sys2Proof.Machine
end

