-- ==== Sys2Proof/Machine/Reckon.lean ====
section
/-!
DEFINITION. The Reckoner (chapter 02): folds, parameter writes, holdover, the primary domain, snapshots, PPS_IN,
REFCLK_TIME and PTM. The conversions of R36 and R37 are in Time.lean.
The choices it makes stand under notes/assumptions: 15 (DEDUCED), 38 (DEDUCED), 39 (PRESUMED).
-/

namespace Sys2Proof.Machine

/-- Index of a domain in the RECKON_d registers. -/
def domIx : Dom → Nat
  | .a => 0
  | .b => 1
  | .x => 2

/-- BASE at tick `k` under a set, in units of 2^-40 ns. -/
def ParamSet.baseAt (p : ParamSet) (k : Word) : Int := p.base + p.incr * ((k.toNat : Int) - p.rawAt.toNat)

/-- The set after a fold at tick `k` that applies one parameter change (R47). -/
def foldSet (p : ParamSet) (k : Word) : ParamWrite → ParamSet
  | .incr v => { base := p.baseAt k, rawAt := k, incr := v }
  | .step t => { base := p.baseAt k + t * 2 ^ 24, rawAt := k, incr := p.incr }
  | .set t => { base := t * 2 ^ 24, rawAt := k, incr := p.incr }

/-- A fold of timebase `m` at tick `k` to the set `new`: the set in force becomes the previous one, FOLDS advances. -/
def reckonFoldTo (m : Dom) (k : Word) (new : ParamSet) (d : Device) : Device :=
  let dm := d.dom m
  (d.setDom m { dm with cur := new, prev := dm.cur, older := dm.prev :: dm.older, lastFold := some k }).radd
    F.RECKON_D_CTRL_FOLDS 1 (domIx m)

/-- A fold of timebase `m` at tick `k` that applies one parameter change (R47). -/
def reckonFold (m : Dom) (k : Word) (w : ParamWrite) (d : Device) : Device :=
  reckonFoldTo m k (foldSet (d.dom m).cur k w) d

/-- A parameter write of A or B takes effect: it folds, and the domain tracks with its timer restarted (Table 02-5). -/
def reckonEffect (m : Dom) (k : Word) (w : ParamWrite) (d : Device) : Device :=
  let d := reckonFold m k w d
  d.setDom m { d.dom m with st := .tracking, holdStart := k, pend := none }

/-- A parameter write is rejected (R52). -/
def reckonReject (m : Dom) (d : Device) : Device :=
  evRaise 35 (d.ru F.RECKON_D_CTRL_REJECT 1 (domIx m))

/-- The STEP test of Table 02-4 at its fold tick. -/
def stepAllowed (dm : Domain) (k : Word) : ParamWrite → Bool
  | .step t => decide (0 ≤ dm.cur.baseAt k + t * 2 ^ 24)
  | _ => true

/-- A judged write is applied or, for a STEP that fails at its fold tick, rejected. -/
def reckonApply (m : Dom) (k : Word) (w : ParamWrite) (d : Device) : Device :=
  if stepAllowed (d.dom m) k w then reckonEffect m k w d
  else reckonReject m (d.setDom m { d.dom m with pend := none })

/-- The tick at which a write that arrives now takes effect (R50). -/
def foldTick (dm : Domain) (now : Word) : Word :=
  match dm.lastFold with
  | none => now
  | some l => if (now - l).toNat ≥ 1600 then now else l + 1600

/-- A write of A or B that passed its checks at the tick W (R50). -/
def reckonSubmit (m : Dom) (w : ParamWrite) (d : Device) : Device :=
  let k := foldTick (d.dom m) d.raw
  if k = d.raw then reckonApply m k w d else d.setDom m { d.dom m with pend := some (w, k) }

/-- A parameter write to A or B: rejected while PENDING (R51), or when `ok` is false (Table 02-4); X ignores it (R60). -/
def reckonWrite (m : Dom) (ok : Bool) (w : ParamWrite) (d : Device) : Device :=
  if m = .x then d
  else if (d.dom m).pend.isSome || !ok then reckonReject m d
  else reckonSubmit m w d

/-- INCR range: 500 ppm about nominal, in units of 2^-40 ns per tick. -/
def incrInRange (v : Nat) : Bool :=
  decide (1249375 * 2 ^ 40 ≤ v * 1000000 ∧ v * 1000000 ≤ 1250625 * 2 ^ 40)

/-- A write of RECKON_d_INCR: the register reads back the last value accepted. -/
def reckonIncrWrite (m : Dom) (v : Word) (d : Device) : Device :=
  let n := v.toNat % 2 ^ 48
  let ok := incrInRange n
  let d' := reckonWrite m ok (.incr n) d
  if m ≠ .x ∧ ok ∧ (d.dom m).pend.isNone then d'.ru F.RECKON_D_INCR_INCR n (domIx m) else d'

/-- The value of a STEP word in units of 2^-16 ns: signed nanoseconds plus an unsigned fraction. -/
def stepOf (v : Word) : Int := signedOf 48 (v.toNat / 2 ^ 16) * 2 ^ 16 + (v.toNat % 2 ^ 16 : Nat)

/-- A write of RECKON_d_STEP. -/
def reckonStepWrite (m : Dom) (v : Word) (d : Device) : Device := reckonWrite m true (.step (stepOf v)) d

/-- A write of RECKON_d_SET_HI stages seconds (R49). DESIGN CHOICE: also while PENDING is 1, since Table 02-4 says that it
is never rejected, where R51 rejects a parameter write. -/
def reckonSetHiWrite (m : Dom) (v : Word) (d : Device) : Device :=
  if m = .x then d else d.setDom m { d.dom m with staged := v.toNat % 2 ^ 48 }

/-- A write of RECKON_d_SET_LO: the staged seconds with the written nanoseconds and fraction. -/
def reckonSetLoWrite (m : Dom) (v : Word) (d : Device) : Device :=
  let ns := bits v.toNat 47 16
  reckonWrite m (ns ≤ 999999999)
    (.set ((((d.dom m).staged * 1000000000 + ns) * 2 ^ 16 + bits v.toNat 15 0 : Nat) : Int)) d

/-- The fold tick of a pending write is reached (R50, R52). -/
def deferredFold (m : Dom) (d : Device) : Device :=
  match (d.dom m).pend with
  | none => d
  | some (w, k) => if k.toNat ≤ d.raw.toNat then reckonApply m k w d else d

/-- SERVO_ALIVE (Table 02-5); ignored for X. -/
def servoAlive (m : Dom) (d : Device) : Device :=
  if m = .x ∨ (d.dom m).st = .unset then d
  else d.setDom m { d.dom m with st := .tracking, holdStart := d.raw }

/-- The primary domain moves to `m`; the event only when it changed (R57). -/
def setPrimary (m : Dom) (d : Device) : Device :=
  if d.rg F.RECKON_PRIMARY_PRIMARY = domIx m then d
  else evRaise 34 ({ d with reckon.switchedAt := some d.raw }.ru F.RECKON_PRIMARY_PRIMARY (domIx m))

/-- Whether the holdover timer of `m` has reached its timeout (Table 02-5). -/
def holdoverDue (m : Dom) (d : Device) : Bool :=
  m != .x && (d.dom m).st == .tracking && d.rg F.RECKON_D_HOLDOVER_TIMEOUT_TIMEOUT_MS (domIx m) != 0
    && d.passedNs (d.dom m).holdStart (d.rg F.RECKON_D_HOLDOVER_TIMEOUT_TIMEOUT_MS (domIx m) * 1000000)

/-- The holdover timer reaches its timeout, with the automatic switch of R58. -/
def holdoverTimeout (m : Dom) (d : Device) : Device :=
  if holdoverDue m d then
    let d := evRaise (32 + domIx m) (d.setDom m { d.dom m with st := .holdover })
    if d.rb F.RECKON_PRIMARY_AUTO && d.rg F.RECKON_PRIMARY_PRIMARY == domIx m && (d.dom (otherDom m)).st == .tracking
    then setPrimary (otherDom m) (d.ru F.RECKON_PRIMARY_ARM 0)
    else d
  else d

/-- A write of RECKON_PRIMARY. -/
def primaryWrite (arm target auto : Bool) (d : Device) : Device :=
  ((d.rub F.RECKON_PRIMARY_TARGET target).rub F.RECKON_PRIMARY_AUTO auto).rub F.RECKON_PRIMARY_ARM arm

/-- The automatic switch of R58 is due: the primary domain's holdover timer has run out, AUTO is 1 and the other domain
tracks. -/
def autoSwitchDue (d : Device) : Bool :=
  let m : Dom := if d.rb F.RECKON_PRIMARY_PRIMARY then .b else .a
  d.rb F.RECKON_PRIMARY_AUTO && holdoverDue m d && (d.dom (otherDom m)).st == .tracking

/-- The armed switch takes place when the raw count has reached SWITCH_AT (R57), unless the automatic switch is due, which
prevails (R58). -/
def primarySwitch (d : Device) : Device :=
  if d.rb F.RECKON_PRIMARY_ARM && decide (d.rg F.RECKON_SWITCH_AT_VALUE ≤ d.raw.toNat) && !autoSwitchDue d then
    setPrimary (if d.rb F.RECKON_PRIMARY_TARGET then .b else .a) (d.ru F.RECKON_PRIMARY_ARM 0)
  else d

/-- One snapshot register pair. -/
def snapTime (hiS loN loF : Fld) (t : Int) (d : Device) : Device :=
  ((d.ru hiS (timeSecs t)).ru loN (timeNanos t)).ru loF (timeFrac t)

/-- A snapshot (R44). -/
def snapshotTake (d : Device) : Device :=
  let t := d.nowStamp
  let d1 := (d.ru F.RECKON_SNAP_RAW_VALUE d.raw.toNat).radd F.RECKON_SNAP_CTRL_SEQ 1
  let d2 := snapTime F.RECKON_SNAP_A_HI_SECONDS F.RECKON_SNAP_A_LO_NANOSECONDS F.RECKON_SNAP_A_LO_FRACTION
    (d.timeAt .a t) d1
  let d3 := snapTime F.RECKON_SNAP_B_HI_SECONDS F.RECKON_SNAP_B_LO_NANOSECONDS F.RECKON_SNAP_B_LO_FRACTION
    (d.timeAt .b t) d2
  snapTime F.RECKON_SNAP_X_HI_SECONDS F.RECKON_SNAP_X_LO_NANOSECONDS F.RECKON_SNAP_X_LO_FRACTION
    (d.timeAt .x t) d3

/-- REFCLK_TIME is lost (R63). -/
def refclkTimeLost (d : Device) : Device :=
  evRaise 39 ((d.ru F.RECKON_STATUS_REF_LOST 1).ru F.RECKON_STATUS_REF_LOST_SEEN 1)

/-- A rising edge of PPS_IN (R64). -/
def ppsInEdge (d : Device) : Device := evRaise 38 (d.ru F.RECKON_PPS_RAW_VALUE d.raw.toNat)

/-- One PTM dialog is started, when PTM is enabled (R65). -/
def ptmStart (d : Device) : Device :=
  if d.pcie.pf0.ptmEnable && d.pcie.linkUp then
    ({ d with reckon.ptmDialogs := d.reckon.ptmDialogs ++ [d.raw] }).emit .ptmRequest
  else d

/-- The automatic interval expires (R65). -/
def ptmAutoInterval (d : Device) : Device :=
  if d.rb F.RECKON_PTM_CTRL_AUTO
      && d.passedNs d.reckon.ptmAutoFrom (d.rg F.RECKON_PTM_CTRL_INTERVAL_MS * 1000000) then
    ptmStart { d with reckon.ptmAutoFrom := d.raw }
  else d

/-- The raw stamp at which the master time held that a dialog reports (R66): the request's stamp plus the link delay, half
of what the round trip took beyond the `turn` nanoseconds from the request's arrival at the root port to the response's
departure. PRESUMED: the PCI Express PTM rules, applied to the stamps of this dialog; the half is truncated towards the
lower value at 2^-16 tick. -/
def ptmStamp (req : Word) (resp : Stamp) (turn : Nat) : Stamp :=
  let trip : Int := ((resp.count.toNat : Int) - req.toNat) * 2 ^ 16 + resp.frac.toNat
  stampShift { count := req } ((trip * 5 - (turn * 4 * 2 ^ 16 : Nat)) / 10)

/-- A dialog completes (R66): `resp` is the stamp of its response, which came within 100 µs (R67), and `turn` the ns that
the response reports from t2 to t3. -/
def ptmDialogDone (master : Word) (resp : Stamp) (turn : Nat) (d : Device) : Device :=
  match d.reckon.ptmDialogs with
  | [] => d
  | req :: rest =>
    if d.passedNs req 100000 then d
    else
    let t := ptmStamp req resp turn
    let d := { d with reckon.ptmDialogs := rest }
    let d := ((d.ru F.RECKON_PTM_MASTER_VALUE master.toNat).ru F.RECKON_PTM_RAW_VALUE t.count.toNat).ru
      F.RECKON_PTM_STATUS_RAW_FRACTION t.frac.toNat
    evRaise 36 ((d.ru F.RECKON_PTM_STATUS_VALID 1).radd F.RECKON_PTM_STATUS_SEQ 1)

/-- A dialog got no response within 100 µs (R67). -/
def ptmTimeout (d : Device) : Device :=
  match d.reckon.ptmDialogs with
  | [] => d
  | t :: rest =>
    if d.passedNs t 100000 then
      evRaise 37 (({ d with reckon.ptmDialogs := rest }).ru F.RECKON_PTM_STATUS_FAIL 1)
    else d

/-- The chart's INCR of domain `m` is folded at the entry into MUSTER, leaving the domain's state (R55). DESIGN CHOICE: at
that tick also where a host's fold is less than 1,600 ticks old, and a host write that waits keeps its fold tick. -/
def reckonChartIncr (m : Dom) (v : Nat) (d : Device) : Device :=
  (reckonFold m d.raw (.incr v) d).ru F.RECKON_D_INCR_INCR v (domIx m)

/-! ### Meanings -/

/-- SNAPSHOT_TAKE (R44). -/
def execSnapshotTake (s : State) : Host.Outcome State Fault Refusal := onHost snapshotTake s
/-- RECKON_INCR_WRITE (R48). -/
def execReckonIncrWrite (m : Dom) (v : Word) (s : State) : Host.Outcome State Fault Refusal :=
  onHost (reckonIncrWrite m v) s
/-- RECKON_STEP_WRITE (R48). -/
def execReckonStepWrite (m : Dom) (v : Word) (s : State) : Host.Outcome State Fault Refusal :=
  onHost (reckonStepWrite m v) s
/-- RECKON_SET_HI_WRITE (R49). -/
def execReckonSetHiWrite (m : Dom) (v : Word) (s : State) : Host.Outcome State Fault Refusal :=
  onHost (reckonSetHiWrite m v) s
/-- RECKON_SET_LO_WRITE (R48). -/
def execReckonSetLoWrite (m : Dom) (v : Word) (s : State) : Host.Outcome State Fault Refusal :=
  onHost (reckonSetLoWrite m v) s
/-- DEFERRED_FOLD (R50). -/
def execDeferredFold (m : Dom) (s : State) : Host.Outcome State Fault Refusal := onDev (deferredFold m) s
/-- SERVO_ALIVE (R53). -/
def execServoAlive (m : Dom) (s : State) : Host.Outcome State Fault Refusal := onHost (servoAlive m) s
/-- HOLDOVER_TIMEOUT (R53). -/
def execHoldoverTimeout (m : Dom) (s : State) : Host.Outcome State Fault Refusal := onDev (holdoverTimeout m) s
/-- PRIMARY_ARM (R57). -/
def execPrimaryArm (target auto : Bool) (s : State) : Host.Outcome State Fault Refusal :=
  onHost (primaryWrite true target auto) s
/-- PRIMARY_DISARM (R57). -/
def execPrimaryDisarm (target auto : Bool) (s : State) : Host.Outcome State Fault Refusal :=
  onHost (primaryWrite false target auto) s
/-- PRIMARY_SWITCH (R57). -/
def execPrimarySwitch (s : State) : Host.Outcome State Fault Refusal := onDev primarySwitch s
/-- REFCLK_TIME_LOST (R63). -/
def execRefclkTimeLost (s : State) : Host.Outcome State Fault Refusal := onDev refclkTimeLost s
/-- REFCLK_TIME_RETURN (R63): REF_LOST clears, the raw counter takes no step. -/
def execRefclkTimeReturn (s : State) : Host.Outcome State Fault Refusal :=
  onDev (fun d => d.ru F.RECKON_STATUS_REF_LOST 0) s
/-- PPS_IN_EDGE (R64). -/
def execPpsInEdge (s : State) : Host.Outcome State Fault Refusal := onDev ppsInEdge s
/-- PTM_TRIGGER (R65). -/
def execPtmTrigger (s : State) : Host.Outcome State Fault Refusal := onHost ptmStart s
/-- PTM_AUTO_INTERVAL (R65). -/
def execPtmAutoInterval (s : State) : Host.Outcome State Fault Refusal := onDev ptmAutoInterval s
/-- PTM_DIALOG_DONE (R66). -/
def execPtmDialogDone (master : Word) (r : PtmResponse) (s : State) : Host.Outcome State Fault Refusal :=
  onDev (ptmDialogDone master r.stamp r.turn) s
/-- PTM_TIMEOUT (R67). -/
def execPtmTimeout (s : State) : Host.Outcome State Fault Refusal := onDev ptmTimeout s

end Sys2Proof.Machine
end

