-- ==== Sys2Proof/Machine/Fix.lean ====
section
/-!
DEFINITION. Fix and first crossing (chapter 07): the state machine of Table 07-2, measurements, the fault-tolerant
average with its limits and the steering term, and the FIX and COLDSTART frames sent and received.
The choices it makes stand under notes/assumptions: 15 (DEDUCED), 67 (DEDUCED), 68 (DEDUCED).
-/

namespace Sys2Proof.Machine

/-- COUNT offset of Fix counter `k` (Table 07-6). -/
def fixCnt (k : Nat) : Nat := 0x50000 + k

/-- STATUS of a FIX frame for a Fix state (Table 03-12); none where no frame is sent. -/
def fixStatus (st : FixSt) : Option Nat :=
  match st with
  | .integrating => some 0
  | .synchronised => some 1
  | .coldstarting => some 2
  | .lostFix => some 3
  | .idle | .listen | .backoff => none

/-- States in which the crossing clock has an epoch (R200). -/
def fixRunning (st : FixSt) : Bool := (fixStatus st).isSome

/-- States in which Fix measures sources (R204, R205). -/
def fixMeasures (st : FixSt) : Bool :=
  match st with
  | .integrating | .synchronised | .lostFix => true
  | .idle | .listen | .coldstarting | .backoff => false

/-! ### Timers and the epoch (R212 to R217) -/

/-- Fix enters LISTEN, or restarts its listen timer. -/
def fixListen (d : Device) : Device := { d with fix.st := .listen, fix.timerFrom := d.raw }

/-- Whether the kind of a handed frame is `k`. -/
def handedGv (k : Nat) (h : Handed) : Bool := (gvParse (h.bytes.drop h.off)).kind == k

/-- Whether a handed frame is one for Fix: FIX or COLDSTART. -/
def handedFix (h : Handed) : Bool := handedGv 3 h || handedGv 4 h

/-- The crossing engine stops: no epoch, no runs, no windows, no cycle points due. What Pilot admitted for Fix still waits
for it (R204). -/
def engineStop (d : Device) : Device :=
  violsClear { d with cross.epoch := false, cross.current := none, cross.runs := [], cross.due := [],
                      pilot.windows := [], pilot.handed := d.pilot.handed.filter handedFix }

/-- Fix enters SYNCHRONISED. -/
def fixSync (d : Device) : Device := evRaise 41 { d with fix.st := .synchronised }

/-- A quotient rounded to the nearest. -/
def divNear (a b : Int) : Int := (2 * a + b) / (2 * b)

/-- FIX_RATE as RC and SIGMA stand (Table 07-15). -/
def fixRates (d : Device) : Device :=
  let per : Int := 2 ^ 48 * (d.rg F.CROSS_PERIOD_PERIOD_NS : Nat)
  (d.ru F.FIX_RATE_STEER_PPB (unsignedOf 32 (divNear d.fix.sigma per))).ru F.FIX_RATE_RATE_PPB
    (unsignedOf 32 (divNear (d.fix.rc + d.fix.sigma) per))

/-- The crossing clock is folded with a SET to the BASE `base` at this tick, with what every epoch SET puts back (R214,
R217). DESIGN CHOICE: SIGMA becomes 0 with RC, and R211 computes it anew at the next odd boundary. -/
def epochSet (base : Int) (d : Device) : Device :=
  let d := reckonFoldTo .x d.raw { base := base, rawAt := d.raw, incr := (d.dom .x).cur.incr } (engineStop d)
  let d := d.setDom .x { d.dom .x with st := .tracking }
  fixRates { d with cross.epoch := true, fix.setAt := d.raw, fix.rc := 0, fix.sigma := 0, fix.cPrev := 0, fix.meas := [],
                    fix.prev := [], fix.last := [], fix.csDue := [], fix.sent := [], fix.missed := 0 }

/-! ### What R217 integrates on (R92, R213, R215) -/

/-- Whether R92 ignores a FIX or COLDSTART PDU. -/
def fixRejects (pdu : Bytes) (d : Device) : Bool :=
  let h := gvParse pdu
  let nanos := if h.kind = 3 then [beField pdu 24 4, beField pdu 36 4] else [beField pdu 24 4]
  h.dev == d.rg F.GLOBAL_ID_DEVICE_ID || beField pdu 14 4 != d.rg F.CROSS_PERIOD_PERIOD_NS
    || nanos.any (fun n => 999999999 < n) || gvReservedSet pdu || (h.kind == 3 && decide (3 < beField pdu 13 1))
    || h.chan != 2

/-- The enabled source of device `dev`, on port `p` when `any` is false. -/
def sourceOf (dev p : Nat) (any : Bool) (d : Device) : Option Nat :=
  (fixSources d).find? fun j => d.rg F.FIX_SRC_DEV j == dev && (any || d.rg F.FIX_SRC_PORT j == p)

/-- The valid slots of FIX_PEERS as (DEV, RANK). -/
def fixPeers (d : Device) : List (Nat × Nat) :=
  [(F.FIX_PEERS_VALID0, F.FIX_PEERS_DEV0, F.FIX_PEERS_RANK0), (F.FIX_PEERS_VALID1, F.FIX_PEERS_DEV1, F.FIX_PEERS_RANK1),
   (F.FIX_PEERS_VALID2, F.FIX_PEERS_DEV2, F.FIX_PEERS_RANK2), (F.FIX_PEERS_VALID3, F.FIX_PEERS_DEV3, F.FIX_PEERS_RANK3)]
    |>.filterMap fun f => if d.rb f.1 then some (d.rg f.2.1, d.rg f.2.2) else none

/-- RANK of a listed peer that sent a COLDSTART PDU. -/
def peerRank (pdu : Bytes) (d : Device) : Option Nat :=
  ((fixPeers d).find? fun e => e.1 == (gvParse pdu).dev).map (·.2)

/-- What a received COLDSTART of a listed peer is to a COLDSTARTING device (R215). -/
inductive Coldstart where
  | early | collision | lower | ignored
  deriving DecidableEq, Repr

/-- The case of R215 for a COLDSTART with receive stamp `r` from a peer of rank `rank`. -/
def coldstartCase (r : Stamp) (rank : Nat) (d : Device) : Coldstart :=
  if r.count.toNat < d.fix.setAt.toNat then .early
  else if d.timeAt .x r < nsT (d.rg F.FIX_CFG_TX_OFFSET + d.rg F.FIX_CS_WINDOW_COLLISION_WINDOW) then .collision
  else if rank < d.rg F.FIX_CFG_RANK then .lower
  else .ignored

/-- The clock time, in units of 2^-16 ns, that a handed frame gives at its first-bit stamp when R217 names it in the
present Fix state: DEPARTURE + DELAY_j. -/
def fixOffer (h : Handed) (d : Device) : Option Int :=
  let pdu := h.bytes.drop h.off
  let dev := (gvParse pdu).dev
  if !handedFix h || fixRejects pdu d then none
  else if handedGv 3 h then
    let status := beField pdu 13 1
    let may : Bool := match d.fix.st with
      | .listen | .backoff => status == 1 || status == 2
      | .coldstarting => status == 1
      | .idle | .integrating | .synchronised | .lostFix => false
    if may then (sourceOf dev h.port false d).map fun j => time96Of pdu 30 + srcDelay j d else none
  else
    match peerRank pdu d with
    | none => none
    | some rank =>
      let may : Bool := match d.fix.st with
        | .listen | .backoff => true
        | .coldstarting => coldstartCase h.stamp rank d == .lower
        | .idle | .integrating | .synchronised | .lostFix => false
      if may then (sourceOf dev h.port true d).map fun j => time96Of pdu 18 + srcDelay j d else none

/-- Whether a handed frame is a collision for a COLDSTARTING device (R215). -/
def fixCollides (h : Handed) (d : Device) : Bool :=
  let pdu := h.bytes.drop h.off
  d.fix.st == .coldstarting && handedGv 4 h && !fixRejects pdu d
    && match peerRank pdu d with
      | some rank => coldstartCase h.stamp rank d == .collision
      | none => false

/-- Whether an admitted frame waits that R219 puts before a timer or a confirmation: one that R217 names, or a
collision. -/
def fixWaits (d : Device) : Bool := d.pilot.handed.any fun h => (fixOffer h d).isSome || fixCollides h d

/-- The handed frame that R217 integrates on: the one with the earliest first-bit stamp. -/
def fixGoverns (d : Device) : Option (Handed × Int) :=
  d.pilot.handed.foldl (fun b h =>
    match fixOffer h d, b with
    | none, b => b
    | some t, none => some (h, t)
    | some t, some c => if stampUnits h.stamp < stampUnits c.1.stamp then some (h, t) else some c) none

/-- Fix states in which a COLDSTART of a listed peer that Fix does not take is counted (R215). -/
def fixMeets (st : FixSt) : Bool :=
  match st with
  | .listen | .backoff | .coldstarting | .synchronised | .lostFix => true
  | .idle | .integrating => false

/-- The handed frames that Fix does not integrate on when it sets or adopts an epoch: R92, FIX_NOT_MEASURING and
CS_IGNORED count them. -/
def fixDrain (d : Device) : Device :=
  let d := (d.pilot.handed.filter handedFix).foldl (fun d h =>
    let pdu := h.bytes.drop h.off
    if fixRejects pdu d then d.count (gvCnt h.port 0x88)
    else if handedGv 3 h then d.count (fixCnt 0x50)
    else d.countIf ((peerRank pdu d).isNone || (fixMeets d.fix.st && (fixOffer h d).isNone)) (fixCnt 0x40)) d
  { d with pilot.handed := d.pilot.handed.filter fun h => !handedFix h }

/-- The device sets its epoch: the clock reads 0 now, crossing 0 begins, and COLDSTART is due (R214). -/
def fixOwnEpoch (st : FixSt) (d : Device) : Device :=
  let d := epochSet 0 (fixDrain d)
  let d := d.ru F.FIX_STATUS_ATTEMPT (d.rg F.FIX_STATUS_ATTEMPT % 255 + 1)
  evRaise 40 { d with fix.st := st, fix.csDue := (List.range 32).filter fun p => bit (d.rg F.FIX_TX_PORTS) p,
                      fix.from_ := 1 }

/-- The device adopts an epoch: at the first-bit stamp `r` the clock would have read `t`, in units of 2^-16 ns (R217);
BASE keeps its 40 fractional bits (R36). -/
def fixAdopt (r : Stamp) (t : Int) (d : Device) : Device :=
  let x := (d.dom .x).cur
  let since : Int := ((d.raw.toNat : Int) - r.count.toNat) * 2 ^ 16 - r.frac.toNat
  let d := epochSet ((ofU16 t + x.incr * since) / 2 ^ 16) (fixDrain d)
  let n := crossingOf d.xNow d
  evRaise 40 ({ d with fix.st := .integrating, fix.from_ := n + 1, cross.current := some n }.ru F.FIX_STATUS_REGAIN 0)

/-- Fix at the entry into FIRST_CROSSING: a flotilla of one sets its epoch at once (Table 07-2). -/
def fixFirst (d : Device) : Device :=
  if fixSources d = [] then evRaise 41 (fixOwnEpoch .synchronised d) else fixListen d

/-- LISTEN_TIMEOUT: the listen timer expires; an admitted frame that R217 names goes first (R219). -/
def listenTimeout (d : Device) : Device :=
  if fixWaits d then d
  else if d.fix.st = .listen ∧ d.passedNs d.fix.timerFrom (d.rg F.FIX_COLDSTART_LISTEN_TIMEOUT * 1000) = true then
    if d.rb F.FIX_CFG_CS_CAPABLE then fixOwnEpoch .coldstarting d else fixListen d
  else d

/-- BACKOFF_TIMEOUT: the backoff timer expires; an admitted frame that R217 names goes first (R219). -/
def backoffTimeout (d : Device) : Device :=
  if fixWaits d then d
  else if d.fix.st = .backoff ∧ d.passedNs d.fix.timerFrom
      (d.rg F.FIX_COLDSTART_BACKOFF_BASE * (1 + d.rg F.FIX_CFG_RANK) * 1000) = true then fixListen d
  else d

/-! ### Counts (R209, R210, R218) -/

/-- CONFIRM_CROSSINGS whole crossings have ended since the epoch; `n` have. A collision and a frame to integrate on go
first (R219, Table 07-2). -/
def fixConfirm (n : Nat) (d : Device) : Device :=
  if d.fix.st = .coldstarting ∧ fixWaits d = false ∧ d.rg F.FIX_COLDSTART_CONFIRM_CROSSINGS ≤ n ∧ 0 < n then fixSync d else d

/-- INTEGRATE_CROSSINGS consecutive good crossings. -/
def fixIntegrate (d : Device) : Device :=
  if d.fix.st = .integrating ∧ d.rg F.FIX_COLDSTART_INTEGRATE_CROSSINGS ≤ d.rg F.FIX_STATUS_REGAIN
      ∧ 0 < d.rg F.FIX_STATUS_REGAIN then fixSync d
  else d

/-- Whether `n` crossings in a row without a measured source reach SOURCE_LOSS_LIMIT. -/
def sourcesLost (n : Nat) (d : Device) : Bool :=
  decide (fixSources d ≠ [] ∧ d.rg F.FIX_LIMITS_SOURCE_LOSS_LIMIT ≤ n ∧ 0 < n)

/-- SOURCE_LOSS_LIMIT crossings in a row have measured no source: SOURCE_LOSS says so for a SYNCHRONISED device (R209),
and the crossings since the epoch was adopted for an INTEGRATING one (Table 07-2). -/
def fixSourceLoss (d : Device) : Device :=
  match d.fix.st with
  | .integrating => if sourcesLost d.fix.missed d then fixListen (engineStop d) else d
  | .synchronised => if sourcesLost (d.rg F.FIX_STATUS_SOURCE_LOSS) d then fixLost d else d
  | .idle | .listen | .coldstarting | .backoff | .lostFix => d

/-- REGAIN_CROSSINGS consecutive good crossings. -/
def fixRegain (d : Device) : Device :=
  if d.fix.st = .lostFix ∧ d.rg F.FIX_LIMITS_REGAIN_CROSSINGS ≤ d.rg F.FIX_STATUS_REGAIN
      ∧ 0 < d.rg F.FIX_STATUS_REGAIN then fixSync d
  else d

/-! ### The average and the fold (R207, R208, R211) -/

/-- Discard count of Table 07-3. -/
def discardCount (n : Nat) : Nat := if n ≤ 2 then 0 else if n ≤ 6 then 1 else 2

/-- A value put in its place in a rising list. -/
def insertInt (x : Int) : List Int → List Int
  | [] => [x]
  | y :: ys => if x ≤ y then x :: y :: ys else y :: insertInt x ys

/-- A list in rising order. -/
def sortInt (l : List Int) : List Int := l.foldr insertInt []

/-- The measurements that an average uses. -/
def ftaUsed (v : List Int) : List Int :=
  let k := discardCount v.length
  ((sortInt v).drop k).take (v.length - 2 * k)

/-- The fault-tolerant average, truncated towards 0 at 2^-16 ns; 0 of nothing. -/
def fta (v : List Int) : Int := (ftaUsed v).foldl (· + ·) 0 |>.tdiv (ftaUsed v).length

/-- A value held to `lo` to `hi`. -/
def clampInt (lo hi x : Int) : Int := max lo (min hi x)

/-- Units of RC and SIGMA per unit of rate: 2^48 × 10^9 × PERIOD. -/
def rateUnit (d : Device) : Int := 2 ^ 48 * 1000000000 * (d.rg F.CROSS_PERIOD_PERIOD_NS : Nat)

/-- SIGMA at an odd boundary (R211). -/
def steering (d : Device) : Int :=
  if d.rgf F.FIX_STEER_COUPLING = 0 then 0
  else
    let m := d.tb (d.rgf F.FIX_STEER_DOMAIN)
    if (d.dom m).st = .unset then 0
    else
      let p := periodT d
      let e := (d.now m - nsT (d.rgf F.FIX_STEER_PHASE_NS)) % p
      let e := if p ≤ 2 * e then e - p else e
      let lim : Int := (d.rgf F.FIX_STEER_LIMIT_PPB : Nat) * 2 ^ 48 * (d.rg F.CROSS_PERIOD_PERIOD_NS : Nat)
      clampInt (-lim) lim ((e * 1000000000).tdiv (2 ^ (9 + d.rgf F.FIX_STEER_SHIFT)))

/-- INCR for a rate in the units of RC, rounded to the nearest unit of 2^-40 ns. -/
def incrOf (rate : Int) (d : Device) : Nat := (0x14000000000 + divNear (0x14000000000 * rate) (rateUnit d)).toNat

/-- The fold of the crossing clock at this tick: step `c` and the new INCR together; none when neither changes (R208). -/
def fixFold (c : Int) (incr : Nat) (d : Device) : Device :=
  let x := d.dom .x
  if c = 0 ∧ incr = x.cur.incr then d
  else
    let new : ParamSet := { base := x.cur.baseAt d.raw + c * 2 ^ 24, rawAt := d.raw, incr := incr }
    reckonFoldTo .x d.raw new d

/-- FIX_OFFSET and FIX_RATE after a correction. -/
def fixReport (c : Int) (d : Device) : Device :=
  let u := unsignedOf 64 c
  fixRates ((d.ru F.FIX_OFFSET_NANOSECONDS (u / 2 ^ 16)).ru F.FIX_OFFSET_FRACTION (u % 2 ^ 16))

/-- MEASURED and USED, the sources' MEASURED bits, and the change of the measured set. -/
def fixMeasured (vals : List Int) (d : Device) : Device :=
  let meas := d.fix.meas.map (·.1)
  let prev := d.fix.prev.map (·.1)
  let d := (d.ru F.FIX_STATUS_MEASURED vals.length).ru F.FIX_STATUS_USED (ftaUsed vals).length
  let d := (List.range 15).foldl (fun d j => d.rub F.FIX_SRC_DEV_MEASURED (meas.contains j) j) d
  evRaiseIf (meas.any (fun j => !prev.contains j) || prev.any (fun j => !meas.contains j)) 44 d

/-- The differences that the rate is derived from over the double crossing (R207). -/
def rateDiffs (d : Device) : List Int :=
  d.fix.meas.filterMap fun e => (d.fix.prev.find? fun f => f.1 == e.1).map fun f => e.2 - f.2 - d.fix.cPrev

/-- The corrections at S(m + 1) for crossing `m`, the limits, the fold and the counts (R207 to R210). -/
def fixCorrect (m : Nat) (d : Device) : Device :=
  let cold := d.fix.st == .coldstarting
  let self : List Int := if d.rb F.FIX_CFG_SELF then [0] else []
  let vals := d.fix.meas.map (·.2) ++ self
  let c := if cold then 0 else -fta vals
  let q := rateDiffs d ++ self
  let odd := m % 2 == 1
  let rc := if odd && !q.isEmpty then d.fix.rc - fta q * (2 ^ 32 * 1000000000) else d.fix.rc
  let sigma := if odd then steering d else d.fix.sigma
  let offLim : Int := (d.rg F.FIX_LIMITS_OFFSET_LIMIT : Nat) * 2 ^ 16
  let rateLim : Int := (d.rg F.FIX_LIMITS_RATE_LIMIT_PPM : Nat) * 1000 * 2 ^ 48 * (d.rg F.CROSS_PERIOD_PERIOD_NS : Nat)
  let cOut := decide (offLim < c.natAbs)
  let rOut := decide (rateLim < (rc + sigma).natAbs)
  let out := cOut || rOut
  let c := clampInt (-offLim) offLim c
  let rc := if rOut then clampInt (-rateLim) rateLim (rc + sigma) - sigma else rc
  let good := !d.fix.meas.isEmpty && !out
  let counts := !(fixSources d).isEmpty
  let d := fixFold c (incrOf (rc + sigma) d) d
  let d := fixReport c { d with fix.rc := rc, fix.sigma := sigma }
  let d := fixMeasured vals d
  let last : Tab Int := d.fix.last.map fun e => (e.1, e.2 + c)
  let d : Device := { d with fix.last := last, fix.cPrev := c, fix.prev := d.fix.meas, fix.meas := [] }
  let d := d.countIf out (fixCnt 0x28)
  let d : Device := { d with fix.missed := if d.fix.prev.isEmpty then d.fix.missed + 1 else 0 }
  let d := if !counts then d
    else if d.fix.prev.isEmpty then d.rsat F.FIX_STATUS_SOURCE_LOSS 1
    else d.ru F.FIX_STATUS_SOURCE_LOSS 0
  match d.fix.st with
  | .synchronised =>
    let d := d.ru F.FIX_STATUS_REGAIN 0
    if out then fixLost d else fixSourceLoss d
  | .integrating =>
    let d := if good then d.rsat F.FIX_STATUS_REGAIN 1 else d.ru F.FIX_STATUS_REGAIN 0
    let e := fixIntegrate d
    if e.fix.st = .integrating then fixSourceLoss e else e
  | .lostFix => fixRegain (if good then d.rsat F.FIX_STATUS_REGAIN 1 else d.ru F.FIX_STATUS_REGAIN 0)
  | .coldstarting => fixConfirm (m + 1) (d.ru F.FIX_STATUS_REGAIN 0)
  | .idle | .listen | .backoff => d

/-- Fix at the boundary that ends crossing `m`; within 1,600 ticks of an epoch SET it makes no fold and the crossing
counts for nothing (R217). -/
def fixBoundary (m : Nat) (d : Device) : Device :=
  if !fixRunning d.fix.st then d
  else
    let d := { d with fix.csDue := [] }
    if d.since d.fix.setAt < 1600 then
      fixReport 0 (fixMeasured [] { d with fix.cPrev := 0, fix.meas := [], fix.prev := [] })
    else fixCorrect m d

/-! ### Received frames (R92, R204, R213 to R217) -/

/-- A frame is measured against source `j`: its deviation replaces an earlier one of the crossing. -/
def fixMeasure (j : Nat) (dev : Int) (d : Device) : Device :=
  let d := d.count (fixCnt 0)
  let v := unsignedOf 48 (clampInt (-(2 ^ 47)) (2 ^ 47 - 1) dev)
  let d := (d.ru F.FIX_SRC_DEV_NANOSECONDS (v / 2 ^ 16) j).ru F.FIX_SRC_DEV_FRACTION (v % 2 ^ 16) j
  { d with fix.meas := (d.fix.meas.filter fun e => e.1 != j) ++ [(j, dev)], fix.last := tabPut dev d.fix.last j }

/-- The tests of R204 on a FIX frame of device `dev` received at `p` with stamp `r`. DESIGN CHOICE (log entry 67): a
frame that fails several is counted under the first in the order unknown, skew, late, unusable; the spec gives no order.
-/
def fixJudge (p dev status : Nat) (planned departure : Int) (r : Stamp) (d : Device) : Device :=
  match sourceOf dev p false d with
  | none => d.count (fixCnt 8)
  | some j =>
    let x := d.timeAt .x r
    let n := d.crossingNo
    if 16 * 2 ^ 16 < (departure - planned).natAbs then d.count (fixCnt 0x10)
    else if x < boundaryT n d ∨ boundaryT (n + 1) d - readyMargin d ≤ x then d.count (fixCnt 0x18)
    else if status ≠ 1 ∧ status ≠ 2 then d.count (fixCnt 0x20)
    else fixMeasure j (timeU16 x - srcDelay j d - departure) d

/-- A collision (R215). -/
def fixCollide (d : Device) : Device :=
  let d := evRaise 43 (d.count (fixCnt 0x38))
  engineStop { d with fix.st := .backoff, fix.timerFrom := d.raw, fix.csDue := [] }

/-- A collision that waits comes before the row of R217 (Table 07-2). -/
def fixCollisions (d : Device) : Device :=
  match d.pilot.handed.find? fun h => fixCollides h d with
  | some h => fixCollide { d with pilot.handed := d.pilot.handed.erase h }
  | none => d

/-- Fix integrates on the waiting frame with the earliest stamp among those that R217 names (R217). -/
def fixIntegrateOn (d : Device) : Device :=
  let d := fixCollisions d
  match fixGoverns d with
  | none => d
  | some (h, t) => fixAdopt h.stamp t { d with pilot.handed := d.pilot.handed.erase h }

/-- FIX_RX: a FIX frame that Pilot admitted at port `p`. -/
def fixRx (p : Nat) (d : Device) : Device :=
  match takeHanded p (handedGv 3) d with
  | none => d
  | some (h, rest) =>
    let pdu := h.bytes.drop h.off
    if fixRejects pdu d then rest.count (gvCnt p 0x88)
    else if fixMeasures d.fix.st then
      fixJudge p (gvParse pdu).dev (beField pdu 13 1) (time96Of pdu 18) (time96Of pdu 30) h.stamp rest
    else if (fixOffer h d).isSome then fixIntegrateOn d
    else rest.count (fixCnt 0x50)

/-- COLDSTART_RX: a COLDSTART frame that Pilot admitted at port `p`. -/
def coldstartRx (p : Nat) (d : Device) : Device :=
  match takeHanded p (handedGv 4) d with
  | none => d
  | some (h, rest) =>
    let pdu := h.bytes.drop h.off
    if fixRejects pdu d then rest.count (gvCnt p 0x88)
    else if (peerRank pdu d).isNone then rest.count (fixCnt 0x40)
    else if fixCollides h d then fixCollide rest
    else if (fixOffer h d).isSome then fixIntegrateOn d
    else rest.countIf (fixMeets d.fix.st) (fixCnt 0x40)

/-! ### Sent frames (R201, R214); Table 08-4 counts each under ONESTEP_INSERTS -/

/-- A FIX or COLDSTART PDU in its frame for uplink `p`. -/
def uplinkFrame (p : Nat) (pdu : Bytes) (d : Device) : Bytes :=
  garvaneFrame d.netCfg.groupAddr (d.rg F.GLOBAL_MAC_ADDRESS) d.netCfg.etherType (tabGet [] d.netCfg.uplinkTags p) pdu

/-- FIX_FRAME_SEND: the stamp point of this crossing's FIX frame leaves port `p`, planned for S(n) + TX_OFFSET; its stamp
falls within 2 ns of that time (R233). -/
def fixFrameSend (p skew : Nat) (d : Device) : Device :=
  match d.cross.current, fixStatus d.fix.st with
  | some n, some status =>
    let planned := boundaryT n d + nsT (d.rg F.FIX_CFG_TX_OFFSET)
    if !fixSends p d || decide (n < d.fix.from_) || tabGet none d.fix.sent p == some n || decide (d.xNow < planned) then d
    else
      let r := launchAt skew (launchUnits .x planned d)
      let pdu := fixPdu (d.rg F.GLOBAL_ID_DEVICE_ID) n (d.rg F.FIX_CFG_RANK) status (d.rg F.CROSS_PERIOD_PERIOD_NS)
        planned (d.timeAt .x r)
      ownSend p (uplinkFrame p pdu d) r none
        ({ d with fix.sent := tabSet none d.fix.sent p (some n) }.countIf (d.portRun p) (stampCnt p 0))
  | _, _ => d

/-- COLDSTART_SEND: the stamp point of the COLDSTART of crossing 0 leaves port `p`. -/
def coldstartSend (p skew : Nat) (d : Device) : Device :=
  if !fixSends p d || !d.fix.csDue.contains p || decide (d.xNow < nsT (d.rg F.FIX_CFG_TX_OFFSET)) then d
  else
    let r := launchAt skew (launchUnits .x (nsT (d.rg F.FIX_CFG_TX_OFFSET)) d)
    let pdu := coldstartPdu (d.rg F.GLOBAL_ID_DEVICE_ID) 0 (d.rg F.FIX_CFG_RANK) (d.rg F.FIX_STATUS_ATTEMPT)
      (d.rg F.CROSS_PERIOD_PERIOD_NS) (d.timeAt .x r)
    let d := { d with fix.csDue := d.fix.csDue.filter fun q => q != p }
    ownSend p (uplinkFrame p pdu d) r none
      ((d.countIf (d.portRun p) (fixCnt 0x30)).countIf (d.portRun p) (stampCnt p 0))

/-! ### Meanings -/

/-- FIX_FRAME_SEND (R201). -/
def execFixFrameSend (p skew : Nat) (s : State) : Host.Outcome State Fault Refusal := onDev (fixFrameSend p skew) s
/-- FIX_RX (R204). -/
def execFixRx (p : Nat) (s : State) : Host.Outcome State Fault Refusal := onDev (fixRx p) s
/-- COLDSTART_RX (R215, R217). -/
def execColdstartRx (p : Nat) (s : State) : Host.Outcome State Fault Refusal := onDev (coldstartRx p) s
/-- LISTEN_TIMEOUT (R212). -/
def execListenTimeout (s : State) : Host.Outcome State Fault Refusal := onDev listenTimeout s
/-- COLDSTART_SEND (R214). -/
def execColdstartSend (p skew : Nat) (s : State) : Host.Outcome State Fault Refusal := onDev (coldstartSend p skew) s
/-- BACKOFF_TIMEOUT (R215). -/
def execBackoffTimeout (s : State) : Host.Outcome State Fault Refusal := onDev backoffTimeout s
/-- CONFIRM_COUNT_REACHED (R218): as many crossings have ended as the number of the one in progress. -/
def execConfirmCountReached (s : State) : Host.Outcome State Fault Refusal :=
  onDev (fun d => fixConfirm d.crossingNo d) s
/-- INTEGRATE_COUNT_REACHED (R218). -/
def execIntegrateCountReached (s : State) : Host.Outcome State Fault Refusal := onDev fixIntegrate s
/-- SOURCE_LOSS_LIMIT_REACHED (R209). -/
def execSourceLossLimitReached (s : State) : Host.Outcome State Fault Refusal := onDev fixSourceLoss s
/-- REGAIN_COUNT_REACHED (R210). -/
def execRegainCountReached (s : State) : Host.Outcome State Fault Refusal := onDev fixRegain s

end Sys2Proof.Machine
end

