-- ==== Sys2Proof/Machine/Muster.lean ====
section
/-!
DEFINITION. Muster (chapter 07): the DISCOVER and ECHO frames of each channel, the line measurements, the comparison with
the chart's node table, the results of the branches, and the end of device state MUSTER.
The choices it makes stand under notes/assumptions: 69 (DEDUCED).
-/

namespace Sys2Proof.Machine

/-- Muster of the channel that port `p` launches. -/
def Device.mch (d : Device) (p : Nat) : MusterCh := tabGet {} d.muster.chans p
/-- That channel replaced. -/
def Device.setMch (d : Device) (p : Nat) (x : MusterCh) : Device :=
  { d with muster.chans := tabSet {} d.muster.chans p x }
/-- The branches that the chart enables. -/
def enabledBranches (d : Device) : List Nat := (List.range 32).filter fun b => d.rb F.CROSS_BR_CFG_ENABLE b
/-! ### Sending (R90, R195, R220) -/

/-- The channel that port `p` launches in its branch's present stage: CHAN, return port and round-trip limit. -/
def musterPath (b p : Nat) (d : Device) : Option (Nat × Nat × Nat) :=
  let ring := d.rg F.CROSS_BR_RTT_LIMIT_RING_LIMIT_NS b
  let line := d.rg F.CROSS_BR_RTT_LIMIT_LINE_LIMIT_NS b
  let a := portA b d
  let z := portB b d
  if !d.rb F.CROSS_BR_CFG_DUAL b then if p = a then some (2, a, ring) else none
  else if d.mstage b = 0 then if p = a then some (0, z, ring) else if p = z then some (1, a, ring) else none
  else if d.mstage b = 1 then if p = a then some (0, a, line) else none
  else if d.mstage b = 2 then if p = z then some (1, z, line) else none
  else none

/-- The port of branch `b` that launches the channel of code `chan` (Table 03-2). -/
def musterPort (b chan : Nat) (d : Device) : Nat := if chan = 1 then portB b d else portA b d

/-- Whether branch `b` has a channel of code `chan`. -/
def chanRuns (b chan : Nat) (d : Device) : Bool := if d.rb F.CROSS_BR_CFG_DUAL b then decide (chan < 2) else chan == 2

/-- ENTRY_MAX of a DISCOVER frame on port `p` (R220). -/
def entryMax (p : Nat) (d : Device) : Nat := min 1019 ((d.rg F.PORT_FRAME_MAX_FRAME p - 42) / 16)

/-- The next MUSTER frame of the channel that port `p` launches, once the port is in RUN and no frame is in flight. -/
def musterSend (p : Nat) (d : Device) : Device :=
  let b := d.rg F.PILOT_ARM_CFG_BRANCH p
  let x := d.mch p
  if d.st ≠ .muster ∨ d.isArm p = false ∨ d.rb F.CROSS_BR_CFG_ENABLE b = false ∨ d.judged b = true
      ∨ d.portRun p = false ∨ x.sent.isSome = true ∨ x.step = .done then d
  else
    match musterPath b p d with
    | none => d
    | some (chan, back, limit) =>
      let op := if x.step = .discover then 1 else 2
      let em := if x.step = .discover then entryMax p d else 1
      let skip := if x.step = .discover then x.skip else 0
      let pdu := musterPdu chan (d.rg F.GLOBAL_ID_DEVICE_ID) b x.count skip em op
      let frame := armFrame b pdu d
      let now := d.xNow
      let acc := now + nsT limit + acceptWindow d
      let w : Window := { id := 0, port := back, kind := .muster, expect := now, accLo := now, accHi := acc,
                          close := acc + nsT (d.wire back frame.length), crossing := x.count, branch := b, idx := p,
                          chan := chan, live := true }
      let st := launchStamp (launchUnits .x now d) d
      let d := st.2
      let s : MusterSent := { crossing := x.count, op := op, skip := skip, entryMax := em, stamp := st.1,
                              window := d.pilot.nextId }
      ownSend p frame st.1 none
        (windowAdd w (d.setMch p { x with count := (x.count + 1) % 2 ^ 48, sent := some s }))

/-- A change of branch `b`'s muster, with what the transmitters of its ports then send; a port in START that is held
idle no longer negotiates now. -/
def lineChange (b : Nat) (f : Device → Device) (d : Device) : Device :=
  let e := f d
  [portA b d, portB b d].foldl (fun x p =>
    if transmitter p e = transmitter p d then x
    else
      let x := x.emit (.transmitter p (transmitter p e))
      if (e.port p).st == .start then negotiate p x else x) e

/-- Branch `b` goes on to stage `n`: a line measurement holds the far port's transmitter idle (R195); its port state moves
only as Table 09-4 says. -/
def musterStage (b n : Nat) (d : Device) : Device :=
  let d := lineChange b (fun d => { d with muster.stage := tabSet 0 d.muster.stage b n }) d
  let p := if n = 1 then portA b d else portB b d
  musterSend p (d.setMch p { d.mch p with step := .echo, echoes := [], primed := false, sent := none })

/-! ### Judging (R221, R222, R545) -/

/-- The channels of a branch: launch ports, channel A first. -/
def musterPorts (b : Nat) (d : Device) : List Nat :=
  if d.rb F.CROSS_BR_CFG_DUAL b then [portA b d, portB b d] else [portA b d]

/-- The valid entries of a channel. -/
def validEntries (x : MusterCh) : List MusterEntry := x.entries.filter (·.valid)

/-- The same list without repeats, first occurrences kept. -/
def distinct (l : List Nat) : List Nat := l.foldl (fun a n => if a.contains n then a else a ++ [n]) []

/-- The IDs that occur more than once in a list. -/
def repeated (l : List Nat) : List Nat := distinct (l.filter fun n => 1 < l.count n)

/-- The nodes of the rotas of branch `b`'s UP windows. -/
def rotaNodes (b : Nat) (d : Device) : List Nat :=
  (List.range 4).flatMap fun w =>
    if d.rb F.PILOT_ACY_CFG_ENABLE b w && !d.rb F.PILOT_ACY_CFG_DIR b w then
      (List.range (d.rg F.PILOT_ACY_CFG_ROTA_LEN b w)).map fun i =>
        d.rg F.PILOT_ROTA_NODE (d.rg F.PILOT_ACY_CFG_ROTA_BASE b w + i)
    else []

/-- Whether an entry falls short of what the chart's node needs (CAPACITY). -/
def capacityShort (b id : Nat) (n : NodeEntry) (e : MusterEntry) (d : Device) : Bool :=
  let berths := (n.berths.take n.nberth).filterMap fun i => d.chart.berths[i]?
  decide (e.nberth < n.nberth) || berths.any (fun x => decide (e.outMax < x.outLen ∨ e.inMax < x.inLen))
    || (!bit e.flags 2 && (rotaNodes b d).contains id) || (d.rb F.CROSS_BR_CFG_DUAL b && !bit e.flags 0)

/-- CHANNEL: channel B's node order is not channel A's reversed (R545). -/
def channelDiffers (x y : MusterCh) : Bool :=
  match x.nodes, y.nodes with
  | some na, some nb =>
    let badA := (x.entries.filter fun e => !e.valid).map (·.pos)
    let badB := (y.entries.filter fun e => !e.valid).map fun e => na + 1 - e.pos
    let out := fun (pos : Nat) => (badA ++ badB).contains pos
    let ids := ((validEntries x).filter fun e => !out e.pos).map (·.node)
    let idsB := ((validEntries y).filter fun e => !out (na + 1 - e.pos)).map (·.node)
    na != nb || idsB != ids.reverse
  | _, _ => false

/-- What muster of a branch found: the reason bits of Table 07-5 (bit 0 of REASON is bit 49), and the node lists. -/
structure MusterFinding where
  reason : Nat
  found : List Nat
  /-- FOUND: distinct node IDs of a dual-channel branch (R545), valid entries of a single-channel one (Table 07-16) -/
  count : Nat
  extra : List Nat
  tolerant : List Nat
  deriving DecidableEq, Repr

/-- The comparison of branch `b` with the chart. -/
def musterCompare (b : Nat) (timedOut : Bool) (d : Device) : MusterFinding :=
  let chans := (musterPorts b d).map d.mch
  let all := chans.flatMap validEntries
  let found := distinct (all.map (·.node))
  let mine := d.chart.nodes.filter fun n => n.2.valid && n.2.branch == b
  let hits := fun (id : Nat) => all.filter fun e => e.node == id
  let ids := fun (p : Nat × NodeEntry → Bool) => (mine.filter p).map (·.1)
  let missing := ids fun n => !found.contains n.1
  let part := ids fun n => (hits n.1).any fun e => e.part != n.2.part
  let cap := ids fun n => (hits n.1).any fun e => capacityShort b n.1 n.2 e d
  let dup := distinct (chans.flatMap fun x => repeated ((validEntries x).map (·.node)))
  let extra := found.filter fun id => !mine.any fun n => n.1 == id
  let first := validEntries (d.mch (portA b d))
  let order := mine.any fun n => match first.find? fun e => e.node == n.1 with
    | some e => e.pos != n.2.position
    | none => false
  let dual := d.rb F.CROSS_BR_CFG_DUAL b
  let above := fun (t : Int) (f : Fld) => decide (nsT (d.rg f b) < t)
  let rtt := above (rttA b d) F.CROSS_BR_RTT_LIMIT_RING_LIMIT_NS
    || (dual && above (rttB b d) F.CROSS_BR_RTT_LIMIT_RING_LIMIT_NS)
  let line := dual && (above (rttLine (portA b d) d) F.CROSS_BR_RTT_LIMIT_LINE_LIMIT_NS
    || above (rttLine (portB b d) d) F.CROSS_BR_RTT_LIMIT_LINE_LIMIT_NS)
  let channel := dual && channelDiffers (d.mch (portA b d)) (d.mch (portB b d))
  let invalid := chans.any fun x => x.entries.any fun e => !e.valid
  { reason := flagBit timedOut 10 + flagBit rtt 9 + flagBit line 8 + flagBit channel 7 + flagBit (missing != []) 6
      + flagBit (part != []) 5 + flagBit (cap != []) 4 + flagBit (dup != []) 3 + flagBit (extra != []) 2
      + flagBit order 1 + flagBit invalid 0,
    found := found, count := if dual then found.length else all.length, extra := extra,
    tolerant := distinct (missing ++ part ++ cap ++ dup) }

/-- RESULT for the reasons of a branch (R222): 1 MATCH, 2 DEGRADED, 3 HELD. -/
def musterResult (b reason : Nat) (d : Device) : Nat :=
  if reason = 0 then 1
  else if !d.rb F.FIX_MUSTER_BR_POLICY b || decide (2 ^ 7 ≤ reason) then 3
  else 2

/-- Branch `b` enters service with the nodes `absent` marked ABSENT. -/
def branchServe (b : Nat) (absent : List Nat) (d : Device) : Device :=
  let d := { d with muster.absent := tabSet [] d.muster.absent b absent }
  (d.setBranch b { d.branch b with inService := true }).ru F.FIX_MUSTER_BR_ABSENT (min absent.length 65535) b

/-- Branch `b` takes its result. -/
def musterJudge (b : Nat) (timedOut : Bool) (d : Device) : Device :=
  let f := musterCompare b timedOut d
  let result := musterResult b f.reason d
  let d := { d with muster.judged := tabSet false d.muster.judged b true,
                    muster.found := tabSet [] d.muster.found b f.found,
                    muster.tolerant := tabSet [] d.muster.tolerant b f.tolerant,
                    pilot.windows := d.pilot.windows.filter fun (w : Window) =>
                      !(w.kind == WinKind.muster && w.branch == b) }
  let d := ((d.ru F.FIX_MUSTER_BR_RESULT result b).ru F.FIX_MUSTER_BR_REASON f.reason b).ru F.FIX_MUSTER_BR_EXTRA
    (min f.extra.length 65535) b
  let d := d.ru F.FIX_MUSTER_BR_FOUND (min f.count 65535) b
  if result = 3 then evRaise 450 d else branchServe b (if result = 2 then f.tolerant else []) d

/-- Every branch has a result: the device enters FIRST_CROSSING (Table 01-7, Table 07-2). -/
def musterEnd (d : Device) : Device :=
  if d.st = .muster ∧ (enabledBranches d).all d.judged = true then fixFirst (devGo .firstCrossing (evRaise 449 d))
  else d

/-- The device enters MUSTER: muster of every enabled branch begins (R220). -/
def musterStart (d : Device) : Device := { d with muster := { from_ := d.raw } }

/-! ### Returned frames (R91, R114, R195) -/

/-- An entry of a returned MUSTER frame at position `pos`. -/
def musterEntry (pos : Nat) (bs : Bytes) : MusterEntry :=
  let valid := crc16 (bs.take 14) == beField bs 14 2 && beField bs 0 2 < 2 ^ 14 && beField bs 5 1 < 8
    && 1 ≤ beField bs 4 1 && beField bs 4 1 ≤ 4 && beField bs 10 2 ≤ 1024 && beField bs 12 2 ≤ 1024
  { pos := pos, valid := valid, node := beField bs 0 2 % 2 ^ 14, part := beField bs 2 2, nberth := beField bs 4 1,
    flags := beField bs 5 1 % 8, outMax := beField bs 10 2, inMax := beField bs 12 2 }

/-- The entries of a DISCOVER frame, counted when invalid. -/
def musterDiscover (p q : Nat) (s : MusterSent) (pdu : Bytes) (d : Device) : Device :=
  let es := (List.range (beField pdu 18 2)).map fun j => musterEntry (s.skip + j + 1) (slice pdu (24 + 16 * j) 16)
  let x := d.mch q
  let count := beField pdu 12 2
  let next := s.skip + s.entryMax
  let d := d.countN (gvCnt p 0x80) (es.filter fun e => !e.valid).length
  d.setMch q { x with sent := none, entries := x.entries ++ es, nodes := some (max count (x.nodes.getD 0)), skip := next,
                      step := if next < count then .discover else .echo }

/-- The mean of 16 round trips is reported where the channel's stage puts it (R114, R195). -/
def musterReport (b q : Nat) (mean : Nat) (d : Device) : Device :=
  let ns := mean / 65536
  let fr := mean % 65536
  if d.mstage b ≠ 0 then (d.ru F.PILOT_ARM_RTT_LINE_NANOSECONDS ns q).ru F.PILOT_ARM_RTT_LINE_FRACTION fr q
  else if q = portA b d then (d.ru F.CROSS_BR_RTT_A_NANOSECONDS ns b).ru F.CROSS_BR_RTT_A_FRACTION fr b
  else (d.ru F.CROSS_BR_RTT_B_NANOSECONDS ns b).ru F.CROSS_BR_RTT_B_FRACTION fr b

/-- Whether branch `b` has an arm whose FENCE_EN is set. -/
def branchFences (b : Nat) (d : Device) : Bool := (musterPorts b d).any fun p => d.rb F.PILOT_ARM_CFG_FENCE_EN p

/-- A channel is done: the branch goes on to its next stage, or is judged. -/
def musterNext (b : Nat) (d : Device) : Device :=
  let n := d.mstage b
  let doneAt := fun (p : Nat) => (d.mch p).step == .done
  let ready := match n with
    | 0 => (musterPorts b d).all doneAt
    | 1 => doneAt (portA b d)
    | _ => doneAt (portB b d)
  if !ready then d
  else if n < 2 && d.rb F.CROSS_BR_CFG_DUAL b && branchFences b d then musterStage b (n + 1) d
  else musterEnd (lineChange b (musterJudge b false) d)

/-- A returned ECHO frame with receive stamp `r`. DESIGN CHOICE (log entry 69): the round trip and the mean of 16 are
cut to 2^-16 ns towards the lower value; R114 states no rounding. -/
def musterEcho (b q : Nat) (s : MusterSent) (r : Stamp) (d : Device) : Device :=
  let x := { d.mch q with sent := none }
  if d.mstage b ≠ 0 ∧ x.primed = false then musterSend q (d.setMch q { x with primed := true })
  else
    let trip : Int := ((stampUnits r : Int) - stampUnits s.stamp) * 5 / 4
    let l := x.echoes ++ [trip]
    if l.length < 16 then musterSend q (d.setMch q { x with echoes := l })
    else
      let d := d.setMch q { x with echoes := l, step := .done }
      musterNext b (musterReport b q (l.foldl (· + ·) 0 / 16).toNat d)

/-- MUSTER_RETURN: a MUSTER frame that came back at port `p`. CHAN tells which channel's copy it is, whichever port it
came back at (R77). The window that admitted another channel's copy stays, used, until that channel's frame is accounted
for. -/
def musterReturn (p : Nat) (d : Device) : Device :=
  match takeHanded p (handedKind .muster) d with
  | none => d
  | some (h, d) =>
    match h.win with
    | none => d
    | some w =>
      let pdu := h.bytes.drop h.off
      let q := musterPort w.branch (gvParse pdu).chan d
      match (d.mch q).sent with
      | none => d
      | some s =>
        let stale := match (d.mch w.idx).sent with | some v => v.window != w.id | none => true
        if d.st ≠ .muster ∨ s.crossing ≠ (gvParse pdu).crossing then d
        else if s.entryMax < beField pdu 18 2 then d.count (gvCnt p 0x30)
        else if d.mstage w.branch ≠ 0 ∧ (gvParse pdu).ret = false then d
        else
          let d := if q = w.idx ∨ stale = true then
              { d with pilot.windows := d.pilot.windows.filter fun v => v.id != w.id }
            else d
          if s.op = 1 then musterSend q (musterDiscover p q s pdu d) else musterEcho w.branch q s h.stamp d

/-- MUSTER_WINDOW_EXPIRE: a muster window of port `p` has closed and its frame was not taken; it is sent again. -/
def musterWindowExpire (p : Nat) (d : Device) : Device :=
  let waits := d.pilot.handed.any fun h => h.port == p && handedKind .muster h
  match d.pilot.windows.find? fun w => w.port == p && w.kind == .muster && decide (w.close ≤ d.xNow) with
  | none => d
  | some w =>
    if waits then d
    else
      let d := { d with pilot.windows := d.pilot.windows.filter fun v => v.id != w.id }
      match (d.mch w.idx).sent with
      | some s => if s.window = w.id then musterSend w.idx (d.setMch w.idx { d.mch w.idx with sent := none }) else d
      | none => d

/-- MUSTER_TIMEOUT (R220). -/
def musterTimeout (d : Device) : Device :=
  if d.st = .muster ∧ d.passedNs d.muster.from_ (d.rg F.FIX_MUSTER_CFG_MUSTER_TIMEOUT_MS * 1000000) = true then
    musterEnd ((enabledBranches d).foldl (fun d b => if d.judged b then d else lineChange b (musterJudge b true) d) d)
  else d

/-! ### ACCEPT (R224) -/

/-- MUSTER_ACCEPT: a write of 1 to ACCEPT of branch `b`. -/
def musterAccept (b : Nat) (d : Device) : Device :=
  if liveState d.st && d.rg F.FIX_MUSTER_BR_RESULT b == 3 && decide (d.rg F.FIX_MUSTER_BR_REASON b < 2 ^ 7) then
    { d with muster.accept := tabSet false d.muster.accept b true }
  else d

/-- The accepted branches enter service at a boundary. -/
def musterAccepts (d : Device) : Device :=
  d.muster.accept.foldl (fun d e =>
    branchServe e.1 (tabGet [] d.muster.tolerant e.1) (d.ru F.FIX_MUSTER_BR_RESULT 2 e.1))
    { d with muster.accept := [] }

/-! ### Meanings -/

/-- MUSTER_RETURN (R220). -/
def execMusterReturn (p : Nat) (s : State) : Host.Outcome State Fault Refusal := onDev (musterReturn p) s
/-- MUSTER_WINDOW_EXPIRE (R220). -/
def execMusterWindowExpire (p : Nat) (s : State) : Host.Outcome State Fault Refusal := onDev (musterWindowExpire p) s
/-- MUSTER_TIMEOUT (R220). -/
def execMusterTimeout (s : State) : Host.Outcome State Fault Refusal := onDev musterTimeout s
/-- MUSTER_ACCEPT (R224). -/
def execMusterAccept (b : Nat) (s : State) : Host.Outcome State Fault Refusal := onHost (musterAccept b) s

end Sys2Proof.Machine
end

