-- ==== Sys2Proof/Machine/Boundary.lean ====
section
/-!
DEFINITION. The crossing boundary (R106): what takes effect at S(n), in one order, for every block that acts there.
The choices it makes stand under notes/assumptions: 63 (DEDUCED), 66 (DEDUCED), 71 (DEDUCED), 80 (DEDUCED).
-/

namespace Sys2Proof.Machine

/-- The RWA fields of the map with their number of indices (Table 00-3). -/
def rwaFields : List (Fld × Nat) := [
  (F.FIX_STEER_COUPLING, 1), (F.FIX_STEER_DOMAIN, 1), (F.FIX_STEER_SHIFT, 1), (F.FIX_STEER_LIMIT_PPB, 1),
  (F.FIX_STEER_PHASE_NS, 1), (F.CROSS_CP_CFG_ENABLE, 64), (F.CROSS_CP_CFG_MILESTONE, 64), (F.CROSS_CP_CFG_BRANCH, 64),
  (F.CROSS_CP_CFG_EVERY, 64), (F.CROSS_CP_CFG_PHASE, 64), (F.CROSS_CP_CFG_OFFSET, 64)]

/-- The RWA fields take the values last written (R7). -/
def rwaTake (d : Device) : Device :=
  { d with inforce := rwaFields.foldl (fun t f => (List.range f.2).foldl (fun t i =>
      tabSet (d.unset f.1) t (f.1.key i 0) (d.rg f.1 i)) t) d.inforce }

/-- Device states in which the crossing engine runs crossings (R107). -/
def crossingState (st : DevState) : Bool := violating st

/-- Whether branch `b` is active in crossing `n` (R108). -/
def branchActive (b n : Nat) (d : Device) : Bool :=
  (d.branch b).inService && n % 2 ^ d.rg F.CROSS_BR_CFG_SUBMULT b == d.rg F.CROSS_BR_CFG_PHASE b

/-- The branches active in crossing `n`. -/
def activeBranches (n : Nat) (d : Device) : List Nat := (List.range 32).filter fun b => branchActive b n d

/-- What one TEST_TIMELINE record names takes its test value, or its REG_INIT value again (R543). -/
def testTimeline (test : Bool) (d : Device) : Device :=
  rwaTake (d.chart.testFields.foldl (fun d f => d.ru f.fld (if test then f.test else f.init) f.i f.j) d)

/-- The device enters RUN; at the first entry with a BUMP_SVN chart the fused SVN is programmed up (R502). -/
def enterRun (fuseOk : Bool) (n : NonVol) (d : Device) : NonVol × Device :=
  let d := devGo .run d
  if d.chart.bumpSvn && !d.chart.bumpDone && decide (n.fusedSvn < d.chart.svn) then
    let d := { d with chart.bumpDone := true }
    if fuseOk then ({ n with fusedSvn := d.chart.svn }, d) else (n, d.ru F.CHART_STATUS_FUSE_ERROR 1)
  else (n, d)

/-- A pending H7 whose device has left RUN at this boundary is refused (R27, R399). -/
def h7Refuse (d : Device) : Device :=
  if d.trim.pend = some 7 then trimEvent 6 { d with trim.pend := none } else d

/-- The device-state transitions of a boundary in the order of R27; `whole` says that a crossing has ended. -/
def boundaryMove (whole fuseOk : Bool) (n : NonVol) (d : Device) : NonVol × Device :=
  let req := d.hq.testReq.map (·.1)
  match d.st with
  | .run =>
    if d.fix.st = .lostFix then (n, h7Refuse (testAnswer 0x46 (devGo .recovery d)))
    else if d.trim.pend = some 7 then (n, dormantEnter (testAnswer 0x46 { d with cross.due := [] }))
    else if req = some true then (n, testTimeline true (testAnswer 0 (devGo .test d)))
    else (n, d)
  | .test => if req = some false then (n, testTimeline false (testAnswer 0 (devGo .recovery d))) else (n, d)
  | .firstCrossing => if d.fix.st = .synchronised ∧ whole = true then enterRun fuseOk n d else (n, d)
  | .recovery => if d.fix.st = .synchronised then enterRun fuseOk n d else (n, d)
  | .off | .reset | .wipe | .load | .muster | .dormant | .halt => (n, d)

/-- A new crossing begins for what is counted once in a crossing (R88, R142). DESIGN CHOICE: the crossing of R88 is the
one in progress when the frame is judged. -/
def crossingReset (d : Device) : Device :=
  (List.range 32).foldl (fun d b => d.setBranch b { d.branch b with raised := 0 }) { d with cross.acySeen := [] }

/-- The output side of a boundary: rotation, ages, latches (R149, R152, R154). -/
def outputsTurn (active : List Nat) (d : Device) : Device :=
  let d := active.foldl (fun d b => outAges b d) (outRotate d)
  (List.range 32).foldl (fun d b => safeLatch b d) d

/-- The latest input deadline that falls in crossing `n`. -/
def lastDeadline (n : Nat) (d : Device) : Option Int :=
  d.cross.runs.foldl (fun m r =>
    if !r.final && crossingOf r.deadline d == n then
      match m with
      | none => some r.deadline
      | some t => some (max t r.deadline)
    else m) none

/-- Runs that nothing awaits any more go; the newest of each branch stays. -/
def runsPrune (n : Nat) (d : Device) : Device :=
  { d with cross.runs := d.cross.runs.filter fun r =>
      !r.final || !r.closed || decide (n ≤ r.crossing + 1)
        || !d.cross.runs.any (fun x => x.branch == r.branch && decide (r.crossing < x.crossing)) }

/-- The crossing engine at S(n): spares, outputs, runs and cycle points. -/
def boundaryRuns (n : Nat) (d : Device) : Device :=
  let active := activeBranches n d
  let d := active.foldl (fun d b => sparesApply b d) { d with trim.resume := none }
  let d := outputsTurn active d
  let d := cpForce n (active.foldl (fun d b => runStart b n d) d)
  cpPlan n (lastDeadline n d) (d.cross.runs.filter fun r => r.crossing == n) d

/-- The crossings themselves at S(n): Cargo, the crossing engine unless it still waits for the voltage of the heading that
ended DORMANT (R392), and Fix's windows. -/
def boundaryWork (n : Nat) (d : Device) : Device :=
  let d := cargoBoundary (musterAccepts (if d.trim.soon then d else headingDue d))
  let d := if settledAt d.trim.resume d then boundaryRuns n d else d
  windowsPrune n (runsPrune n (windowsFix n d))

/-- Fix at a boundary, with its sentinel (Table 13-2). -/
def boundaryFix (n : Nat) (fixDone : Word) (d : Device) : Device :=
  match d.cross.current with
  | none => d
  | some m => fixBoundary m (logSlack 4 (slackX (boundaryT n d) fixDone d) d)

/-- The number of the crossing that begins next. -/
def nextCrossing (d : Device) : Nat :=
  match d.cross.current with
  | none => 0
  | some m => m + 1

/-- CROSSING_BOUNDARY: the crossing clock has reached S(n) of the next crossing. Pilot's ports move at it whatever else it
brings, be it DORMANT or the end of the epoch (R190). -/
def crossingBoundary (fixDone : Word) (fuseOk : Bool) (nv : NonVol) (d : Device) : NonVol × Device :=
  let n := nextCrossing d
  if crossingState d.st = false ∨ d.cross.epoch = false ∨ d.xNow < boundaryT n d then (nv, d)
  else if d.wipeDue then (nv, wipeCommit (testAnswer 0x46 d))
  else
    let whole := d.cross.current.isSome
    let d := fenceAll (boundaryFix n fixDone (rwaTake d))
    if !d.cross.epoch then (nv, d)
    else
      let r := boundaryMove whole fuseOk nv (crossingReset { d with cross.current := some n })
      if r.2.st = .dormant then r else (r.1, boundaryWork n r.2)

/-- CROSSING_BOUNDARY (R106). -/
def execCrossingBoundary (fixDone : Word) (fuseOk : Bool) (s : State) : Host.Outcome State Fault Refusal :=
  onAll (crossingBoundary fixDone fuseOk) s

end Sys2Proof.Machine
end

