-- ==== Sys2Proof/Machine/PortCmds.lean ====
section
/-!
DEFINITION. The port state machine's commands (Table 09-4, R260 to R269), the wake detector (R285 to R287), the pattern
checker, and the timers of flow control (R281, R282).
The choices it makes stand under notes/assumptions: 44 (DEDUCED), 46 (DEDUCED).
-/

namespace Sys2Proof.Machine

/-- The network reference of port `p` (R260). -/
def portRef (p : Nat) : Nat := if p < 16 then 0 else 1
/-- Whether the reference of port `p` is absent. -/
def refLost (p : Nat) (d : Device) : Bool := tabGet false d.net.refLost (portRef p)

/-- Whether port `p` is in START or RECOVERY. -/
def portSeeks (p : Nat) (d : Device) : Bool := (d.port p).st == .start || (d.port p).st == .recovery

/-- PORT_LOCK_ACQUIRED: the lock conditions of R267 have held for 100 µs; muster of the port's channel goes on (R220). -/
def portLockAcquired (p : Nat) (trained : Bool) (d : Device) : Device :=
  if !portSeeks p d || refLost p d then d
  else
    let d := d.setPort p { d.port p with recoverFrom := none }
    let d := (d.ru F.PORT_STATE_SIGNAL 1 p).ru F.PORT_STATE_PCS_LOCK 1 p
    let d := (d.rub F.PORT_STATE_FEC_LOCK (d.rg F.PORT_MODE_FEC p != 0) p).ru F.PORT_STATE_HI_BER 0 p
    let an := d.rb F.PORT_MODE_AN_EN p
    let d := (d.rub F.PORT_STATE_AN_DONE an p).rub F.PORT_STATE_TRAINED (an && trained) p
    musterSend p (peInitial p (portTo p .run d))

/-- The link of port `p` in RUN is lost: RECOVERY, whose 10 ms run while the reference is present. After a restart of
negotiation by the partner, `training` holds. -/
def portLinkLost (p : Nat) (training : Bool) (d : Device) : Device :=
  if !d.portRun p then d
  else
    let d := d.setPort p { d.port p with training := training }
    let d := (portTo p .recovery d).count (portCnt p 0xF0)
    let d := d.setPort p { d.port p with recoverFrom := if refLost p d then none else some d.raw }
    portStatus p 1 d

/-- PORT_LINK_FAULT: the link is lost for one of the causes of Table 09-4. -/
def portLinkFault (p : Nat) (cause : LinkLoss) (d : Device) : Device :=
  if !d.portRun p then d
  else
    let unlock := fun (d : Device) => (d.ru F.PORT_STATE_PCS_LOCK 0 p).ru F.PORT_STATE_FEC_LOCK 0 p
    match cause with
    | .lossOfSignal => portLinkLost p false (unlock (d.ru F.PORT_STATE_SIGNAL 0 p))
    | .lossOfLock => portLinkLost p false (unlock d)
    | .highBer => portLinkLost p false (portStatus p 3 (d.ru F.PORT_STATE_HI_BER 1 p))
    | .partnerRestart => portLinkLost p true (unlock ((d.ru F.PORT_STATE_AN_DONE 0 p).ru F.PORT_STATE_TRAINED 0 p))

/-- PORT_RECOVERY_TIMEOUT: 10 ms in RECOVERY have passed. -/
def portRecoveryTimeout (p : Nat) (d : Device) : Device :=
  match (d.port p).st, (d.port p).recoverFrom with
  | .recovery, some t =>
    if d.passedNs t 10000000 then portTo p .start (d.setPort p { d.port p with recoverFrom := none }) else d
  | _, _ => d

/-- AN_FAIL: negotiation resolved another mode or FEC, and restarts (R262). -/
def anFail (p : Nat) (d : Device) : Device :=
  if portSeeks p d && d.rb F.PORT_MODE_AN_EN p then negotiate p (portStatus p 6 (d.count (portCnt p 0xF8))) else d

/-- The ports that take reference `r`. -/
def refPorts (r : Nat) : List Nat := (List.range 32).filter fun p => portRef p == r

/-- REFCLK_NET_LOST: reference `r` is absent (R260). -/
def refclkNetLost (r : Nat) (d : Device) : Device :=
  let d := { d with net.refLost := tabSet false d.net.refLost r true }
  (refPorts r).foldl (fun d p =>
    if (d.port p).st = .recovery then d.setPort p { d.port p with recoverFrom := none } else portLinkLost p false d) d

/-- REFCLK_NET_RETURN: reference `r` is back, and the 10 ms of its ports start. -/
def refclkNetReturn (r : Nat) (d : Device) : Device :=
  if !tabGet false d.net.refLost r then d
  else
    let d := { d with net.refLost := tabSet false d.net.refLost r false }
    (refPorts r).foldl (fun d p =>
      if (d.port p).st = .recovery then d.setPort p { d.port p with recoverFrom := some d.raw } else d) d

/-- PORT_RESTART: a write of RESTART. -/
def portRestart (p : Nat) (d : Device) : Device :=
  if portSeeks p d || d.portRun p then portTo p .start (d.setPort p { d.port p with recoverFrom := none }) else d

/-- Whether TEST_START may act on port `p`. -/
def portTestOk (p : Nat) (d : Device) : Bool :=
  (portSeeks p d || d.portRun p || (d.port p).st == .idle) && !d.rb F.PORT_MODE_ABSORBED p
    && (d.st == .test || d.rg F.PILOT_ARM_CFG_ROLE p == 0)

/-- PORT_TEST_START: a write of TEST_START. -/
def portTestStart (p : Nat) (d : Device) : Device :=
  if portTestOk p d then portTo p .test (d.setPort p { d.port p with recoverFrom := none }) else d

/-- PORT_TEST_STOP: a write of TEST_STOP. -/
def portTestStop (p : Nat) (d : Device) : Device :=
  if (d.port p).st ≠ .test then d
  else if d.rg F.PILOT_ARM_CFG_ROLE p = 0 then portTo p .idle d
  else portTo p .start d

/-- Whether R269 permits host software to put port `p` into SLEEP. -/
def sleepPermitted (p : Nat) (d : Device) : Bool :=
  d.rg F.PILOT_ARM_CFG_ROLE p != 1 && !bit (d.rg F.FIX_TX_PORTS) p
    && !(fixSources d).any (fun j => d.rg F.FIX_SRC_PORT j == p)

/-- PORT_SLEEP: a write of SLEEP (R269). -/
def portSleep (p : Nat) (d : Device) : Device :=
  if !d.portRun p then d
  else if sleepPermitted p d then portTo p .sleep d
  else portStatus p 7 d

/-- PORT_WAKE: a write of WAKE. -/
def portWake (p : Nat) (d : Device) : Device := if (d.port p).st = .sleep then portTo p .start d else d

/-! ### The wake detector -/

/-- The bytes of a frame that pattern `k` selects. -/
def wakeBytes (p k : Nat) (frame : Bytes) (d : Device) : Bytes :=
  let mask := d.rg F.PORT_WAKE_MASK_LO_MASK p k + d.rg F.PORT_WAKE_MASK_HI_MASK p k * 2 ^ 64
  (List.range (d.rg F.PORT_WAKE_CFG_LEN p k)).filterMap fun i => if bit mask i then frame[i]? else none

/-- Whether a frame matches pattern `k` (R285). -/
def wakeMatches (p k : Nat) (frame : Bytes) (d : Device) : Bool :=
  let len := d.rg F.PORT_WAKE_CFG_LEN p k
  let sel := wakeBytes p k frame d
  d.rb F.PORT_WAKE_CFG_ENABLE p k && decide (1 ≤ len ∧ len ≤ 128 ∧ len ≤ frame.length) && fcsOk frame && sel != []
    && crc32 sel == d.rg F.PORT_WAKE_CFG_CHECK p k

/-- A wake of port `p` (R287). -/
def portWakes (p : Nat) (d : Device) : Device :=
  let d := portStatus p 2 (d.count (portCnt p 0x100))
  if d.st = .dormant then dormantLeave (d.rg F.TRIM_HEADING_PREVIOUS) d else portTo p .start d

/-- WAKE_PATTERN_MATCH: a frame reaches the wake detector; the lowest pattern that matches is recorded. -/
def wakePatternMatch (p : Nat) (frame : Bytes) (d : Device) : Device :=
  if (d.port p).st ≠ .sleep ∨ wakesByPattern p d = false then d
  else
    match (List.range 8).find? fun k => wakeMatches p k frame d with
    | none => d
    | some k => portWakes p ((d.ru F.PORT_WAKE_CTRL_LAST_SIGNAL 0 p).ru F.PORT_WAKE_CTRL_LAST_PATTERN k p)

/-- WAKE_SIGNAL: signal has been present for 100 µs on a sleeping port. -/
def wakeSignal (p : Nat) (d : Device) : Device :=
  if (d.port p).st ≠ .sleep ∨ wakesByPattern p d = true ∨ d.rb F.PORT_WAKE_CTRL_WAKE_ON_SIGNAL p = false then d
  else portWakes p (d.ru F.PORT_WAKE_CTRL_LAST_SIGNAL 1 p)

/-- PATTERN_LOCK: what the pattern checker of a port in TEST reports. -/
def patternLock (p : Nat) (locked : Bool) (errors : Nat) (d : Device) : Device :=
  if (d.port p).st = .test then (d.rub F.PORT_STATE_PATTERN_LOCK locked p).rsat F.PORT_TEST_ERRORS_ERRORS errors p else d

/-! ### Flow-control timers -/

/-- PAUSE_TIMER_EXPIRE: the pause of class `c` has run out. -/
def pauseTimerExpire (p c : Nat) (d : Device) : Device :=
  match tabGet none (d.port p).pauseEnd c with
  | none => d
  | some t =>
    if t.toNat ≤ d.raw.toNat then
      helmRetry (d.setPort p { d.port p with pauseEnd := tabSet none (d.port p).pauseEnd c none })
    else d

/-- Ticks of `q` pause quanta at the rate of port `p`, rounded up. -/
def quantaTicks (p q : Nat) (d : Device) : Nat := (q * 512 * 4 + 5 * d.rate p - 1) / (5 * d.rate p)

/-- XOFF_REPEAT: priorities in XOFF for floor(PAUSE_QUANTA ÷ 2) quanta since their last frame get another. -/
def xoffRepeat (p : Nat) (d : Device) : Device :=
  let q := d.rg F.PORT_FLOW_PAUSE_QUANTA p
  let on := d.rg F.PORT_FLOW_STATUS_XOFF p
  let x := d.port p
  let due := (List.range 8).filter fun k =>
    bit on k && decide (quantaTicks p (q / 2) d ≤ d.since (tabGet 0 x.xoffAt k))
  if due = [] then d
  else
    let d := d.setPort p { x with xoffAt := due.foldl (fun t k => tabPut d.raw t k) x.xoffAt }
    let mask := due.foldl (fun m k => m + 2 ^ k) 0
    ctrlSend p (if d.rg F.PORT_FLOW_MODE p = 1 then pauseFrame q d else pfcFrame mask mask q d) d

/-! ### Meanings -/

/-- PORT_LOCK_ACQUIRED (R267). -/
def execPortLockAcquired (p : Nat) (trained : Bool) (s : State) : Host.Outcome State Fault Refusal :=
  onDev (portLockAcquired p trained) s
/-- PORT_LINK_FAULT (R266). -/
def execPortLinkFault (p : Nat) (cause : LinkLoss) (s : State) : Host.Outcome State Fault Refusal :=
  onDev (portLinkFault p cause) s
/-- PORT_RECOVERY_TIMEOUT (R266). -/
def execPortRecoveryTimeout (p : Nat) (s : State) : Host.Outcome State Fault Refusal := onDev (portRecoveryTimeout p) s
/-- AN_FAIL (R262). -/
def execAnFail (p : Nat) (s : State) : Host.Outcome State Fault Refusal := onDev (anFail p) s
/-- REFCLK_NET_LOST (R260). -/
def execRefclkNetLost (r : Nat) (s : State) : Host.Outcome State Fault Refusal := onDev (refclkNetLost r) s
/-- REFCLK_NET_RETURN (R260). -/
def execRefclkNetReturn (r : Nat) (s : State) : Host.Outcome State Fault Refusal := onDev (refclkNetReturn r) s
/-- PORT_RESTART (R266). -/
def execPortRestart (p : Nat) (s : State) : Host.Outcome State Fault Refusal := onHost (portRestart p) s
/-- PORT_TEST_START (R266). -/
def execPortTestStart (p : Nat) (s : State) : Host.Outcome State Fault Refusal := onHost (portTestStart p) s
/-- PORT_TEST_STOP (R266). -/
def execPortTestStop (p : Nat) (s : State) : Host.Outcome State Fault Refusal := onHost (portTestStop p) s
/-- PORT_SLEEP (R269). -/
def execPortSleep (p : Nat) (s : State) : Host.Outcome State Fault Refusal := onHost (portSleep p) s
/-- PORT_WAKE (R266). -/
def execPortWake (p : Nat) (s : State) : Host.Outcome State Fault Refusal := onHost (portWake p) s
/-- WAKE_PATTERN_MATCH (R285). -/
def execWakePatternMatch (p : Nat) (frame : Bytes) (s : State) : Host.Outcome State Fault Refusal :=
  onDev (wakePatternMatch p frame) s
/-- WAKE_SIGNAL (R286). -/
def execWakeSignal (p : Nat) (s : State) : Host.Outcome State Fault Refusal := onDev (wakeSignal p) s
/-- PATTERN_LOCK (Table 09-11, Table 09-16). -/
def execPatternLock (p : Nat) (locked : Bool) (errors : Nat) (s : State) : Host.Outcome State Fault Refusal :=
  onDev (patternLock p locked errors) s
/-- PAUSE_TIMER_EXPIRE (R282). -/
def execPauseTimerExpire (p c : Nat) (s : State) : Host.Outcome State Fault Refusal := onDev (pauseTimerExpire p c) s
/-- XOFF_REPEAT (R281). -/
def execXoffRepeat (p : Nat) (s : State) : Host.Outcome State Fault Refusal := onDev (xoffRepeat p) s

end Sys2Proof.Machine
end

