-- ==== Sys2Proof/Machine/Persist.lean ====
section
/-!
DEFINITION. The chart flash and its persistent region (R490 to R493, R510 to R512, R514): layout, the flash header, and
records with their ring of sectors.
The choices it makes stand under notes/assumptions: 75 (DESIGN CHOICE).
-/

namespace Sys2Proof.Machine

/-! ### Flash -/

/-- The `n` bytes of flash from address `a`; an erased byte reads 0xFF. -/
def flashRead (m : Mem) (a n : Nat) : Bytes := memSlice 0xFF m a n
/-- The little-endian number of `n` bytes at flash address `a`. -/
def flashNat (m : Mem) (a n : Nat) : Nat := leNat (flashRead m a n)
/-- Bytes programmed from address `a`. -/
def flashProgram (m : Mem) (a : Nat) (bs : Bytes) : Mem := memPatch 0xFF m a bs
/-- The `n` bytes from address `a` erased. -/
def flashErase (m : Mem) (a n : Nat) : Mem := m.filter fun c => decide (c.1 < a ∨ a + n ≤ c.1)
/-- Bytes of an erase sector. -/
def sectorBytes : Nat := 65536

/-- Whether `bs` is erased. -/
def erased (bs : Bytes) : Bool := bs.all (· == 0xFF)

/-- Whether `bs` is zero. -/
def allZero (bs : Bytes) : Bool := bs.all (· == 0)

/-- What the loader takes from the flash header (Table 17-3): the copy in use, SLOT_SIZE in bytes, MODE, CLOCK_MHZ and
DUMMY. -/
structure FlashHeader where
  copy : Nat
  slotSize : Nat
  mode : Nat
  clock : Nat
  dummy : Nat
  deriving DecidableEq, Repr

/-- Base of chart slot `s` (Table 17-2). -/
def slotBase (size s : Nat) : Nat := 0x100000 + s * size

/-- Base of the persistent region. -/
def persistBase (size : Nat) : Nat := 0x100000 + 2 * size

/-- Header copy `k`, when it is valid in a flash of 2^`sizeLog2` bytes. -/
def headerCopy (m : Mem) (sizeLog2 k : Nat) : Option FlashHeader :=
  let b := flashRead m (0x10000 * k) 64
  let size := leNat (slice b 6 2)
  let mode := leNat (slice b 8 1)
  let mhz := leNat (slice b 9 1)
  let speedOk := match mode with
    | 0 => true
    | 1 => decide (25 ≤ mhz ∧ mhz ≤ 133)
    | 2 => decide (25 ≤ mhz ∧ mhz ≤ 200)
    | _ => false
  if leNat (slice b 0 4) = 0x9640F1A5 ∧ leNat (slice b 4 2) = 1 ∧ 1 ≤ size ∧ size ≤ 127 ∧ speedOk = true
      ∧ allZero (slice b 11 49) = true ∧ leNat (slice b 60 4) = crc32 (b.take 60)
      ∧ persistBase (size * 2 ^ 20) + 2 ^ 20 ≤ 2 ^ sizeLog2 then
    some { copy := k, slotSize := size * 2 ^ 20, mode := mode, clock := if mode = 0 then 25 else mhz,
           dummy := leNat (slice b 10 1) }
  else none

/-- The flash header in use (R493). -/
def flashHeader (m : Mem) (sizeLog2 : Nat) : Option FlashHeader :=
  match headerCopy m sizeLog2 0 with
  | some h => some h
  | none => headerCopy m sizeLog2 1

/-! ### Records (R510) -/

/-- A record of the persistent region: its sector, its bytes from its header on, and whether it is valid. -/
structure PRec where
  sector : Nat
  key : Nat
  gen : Nat
  bytes : Bytes
  payload : Bytes
  valid : Bool
  deriving DecidableEq, Repr

/-- `n` rounded up to a multiple of 16. -/
def up16 (n : Nat) : Nat := (n + 15) / 16 * 16

/-- The bytes of a record, with COMMIT programmed or not. -/
def recordBytes (key gen : Nat) (payload : Bytes) (commit : Bool) : Bytes :=
  let head := leBytes 2 key ++ leBytes 2 payload.length ++ leBytes 4 gen
  head ++ leBytes 4 (crc32 (head ++ payload)) ++ (if commit then leBytes 4 0 else List.replicate 4 0xFF) ++ payload
    ++ List.replicate (up16 payload.length - payload.length) 0xFF

/-- The records of a sector's record area from `bs` on, and the bytes they take; `fuel` bounds their number. -/
def recordsFrom (sector : Nat) : Nat → Bytes → List PRec × Nat
  | 0, _ => ([], 0)
  | fuel + 1, bs =>
    let len := leNat (slice bs 2 2)
    let size := 16 + up16 len
    if (bs.drop (size - 1)).isEmpty = true ∨ erased (bs.take 16) = true then ([], 0)
    else
      let payload := slice bs 16 len
      let ok := leNat (slice bs 12 4) == 0 && leNat (slice bs 8 4) == crc32 (bs.take 8 ++ payload)
      let r := recordsFrom sector fuel (bs.drop size)
      ({ sector := sector, key := leNat (slice bs 0 2), gen := leNat (slice bs 4 4), bytes := bs.take size,
         payload := payload, valid := ok } :: r.1, size + r.2)

/-! ### Sectors (R510) -/

/-- What a sector's header says. -/
inductive SectorSt where
  | open_ | free | cutShort
  deriving DecidableEq, Repr

/-- Address of sector `k` of the region at `base`. -/
def sectorAt (base k : Nat) : Nat := base + k * sectorBytes

/-- State of sector `k`. -/
def sectorSt (m : Mem) (base k : Nat) : SectorSt :=
  let b := flashRead m (sectorAt base k) sectorBytes
  if leNat (b.take 4) = 0x96405E57 then .open_
  else if erased (b.take 4) && erased (slice b 8 4) && erased (b.drop 16) then .free
  else .cutShort

/-- ERASES of sector `k`, when it can be read. -/
def sectorErases (m : Mem) (base k : Nat) : Option Nat :=
  let b := flashRead m (sectorAt base k + 4) 4
  if erased b then none else some (leNat b)

/-- SGEN of sector `k`. -/
def sectorGen (m : Mem) (base k : Nat) : Nat := flashNat m (sectorAt base k + 8) 4

/-- Records of sector `k` and the bytes of its record area in use. -/
def sectorRecords (m : Mem) (base k : Nat) : List PRec × Nat :=
  recordsFrom k 4096 (flashRead m (sectorAt base k + 16) (sectorBytes - 16))

/-- The sectors in state `st`. -/
def sectorsIn (st : SectorSt) (m : Mem) (base : Nat) : List Nat :=
  (List.range 16).filter fun k => sectorSt m base k == st

/-- Of the sectors `l`, the first with the least value of `f`. -/
def leastBy (f : Nat → Nat) (l : List Nat) : Option Nat :=
  l.foldl (fun b k => match b with
    | none => some k
    | some c => if f k < f c then some k else some c) none

/-- The head and the tail of the ring (R511). -/
def ringHead (m : Mem) (base : Nat) : Option Nat :=
  leastBy (fun k => 2 ^ 32 - sectorGen m base k) (sectorsIn .open_ m base)
/-- The tail of the ring. -/
def ringTail (m : Mem) (base : Nat) : Option Nat := leastBy (sectorGen m base) (sectorsIn .open_ m base)

/-- Every record of the open sectors. -/
def regionRecords (m : Mem) (base : Nat) : List PRec :=
  (sectorsIn .open_ m base).flatMap fun k => (sectorRecords m base k).1

/-- Highest GEN of a valid record of `key`; 0 without one. -/
def highestGen (key : Nat) (l : List PRec) : Nat :=
  l.foldl (fun n r => if r.valid ∧ r.key = key then max n r.gen else n) 0

/-- The record that governs `key`. -/
def governing (key : Nat) (l : List PRec) : Option PRec :=
  l.find? fun r => r.valid && r.key == key && r.gen == highestGen key l

/-- Bytes of the record that governs `key`, its header among them; 0 without one. -/
def governedBytes (key : Nat) (l : List PRec) : Nat :=
  match governing key l with
  | some r => r.bytes.length
  | none => 0

/-- The keys that have a valid record, ascending. -/
def recordKeys (l : List PRec) : List Nat :=
  (l.foldl (fun (t : Tab Nat) r => if r.valid then tabPut 1 t r.key else t) []).map (·.1)

/-- Every governing record, in key order. -/
def governingAll (l : List PRec) : List PRec := (recordKeys l).filterMap fun k => governing k l

/-- Bytes that the governing records take. -/
def governingBytes (l : List PRec) : Nat := (governingAll l).foldl (fun n r => n + r.bytes.length) 0

/-- 832 KiB (R511). -/
def persistLimit : Nat := 851968

/-! ### Appending, opening, compaction (R511) -/

/-- Sector `k` opened as the head with generation `g`: SGEN, then MAGIC. -/
def sectorOpen (base k g : Nat) (m : Mem) : Mem :=
  flashProgram (flashProgram m (sectorAt base k + 8) (leBytes 4 g)) (sectorAt base k) (leBytes 4 0x96405E57)

/-- Sector `k` erased, with `n` programmed as its ERASES. -/
def sectorErase (base k n : Nat) (m : Mem) : Mem :=
  flashProgram (flashErase m (sectorAt base k) sectorBytes) (sectorAt base k + 4) (leBytes 4 n)

/-- Bytes appended to the record area of sector `k`. -/
def sectorAppend (base k : Nat) (bs : Bytes) (m : Mem) : Mem :=
  flashProgram m (sectorAt base k + 16 + (sectorRecords m base k).2) bs

/-- Whether a record area of sector `k` has room for `n` bytes more. -/
def sectorRoom (m : Mem) (base k n : Nat) : Bool := decide ((sectorRecords m base k).2 + n ≤ sectorBytes - 16)

/-- The records of the tail copied into the head, and the tail erased (steps 2 and 3). -/
def compactInto (base head tail : Nat) (m : Mem) : Mem :=
  let copy := fun (m : Mem) (r : PRec) =>
    let all := regionRecords m base
    let governs := r.valid && r.gen == highestGen r.key all
    let there := all.any fun x => x.valid && x.key == r.key && x.gen == r.gen && x.sector != tail
    let older := all.any fun x => x.key == r.key && decide (x.gen < r.gen) && x.sector != tail
    if governs && !there && (!r.payload.isEmpty || older) then sectorAppend base head r.bytes m else m
  let m := (sectorRecords m base tail).1.foldl copy m
  sectorErase base tail ((sectorErases m base tail).getD 0 + 1) m

/-- A new head is opened, after compacting the tail when that would leave no free sector. -/
def newHead (base : Nat) (m : Mem) : Mem :=
  let free := sectorsIn .free m base
  let g := match ringHead m base with
    | some h => sectorGen m base h + 1
    | none => 1
  match leastBy (fun k => (sectorErases m base k).getD 0) free with
  | none => m
  | some k =>
    let m' := sectorOpen base k g m
    if free.length ≤ 1 then
      match ringTail m base with
      | some t => compactInto base k t m'
      | none => m'
    else m'

/-- New heads until the head has room for `n` bytes; `fuel` bounds the passes. -/
def makeRoom (base n : Nat) : Nat → Mem → Mem
  | 0, m => m
  | fuel + 1, m =>
    let ok := match ringHead m base with
      | some h => sectorRoom m base h n
      | none => false
    if ok then m else makeRoom base n fuel (newHead base m)

/-- A record appended to the region; without COMMIT when its programming fails. -/
def persistPut (base key : Nat) (payload : Bytes) (commit : Bool) (m : Mem) : Mem :=
  let bs := recordBytes key (highestGen key (regionRecords m base) + 1) payload commit
  let m := makeRoom base bs.length 33 m
  match ringHead m base with
  | some h => if sectorRoom m base h bs.length then sectorAppend base h bs m else m
  | none => m

/-! ### Repair (R512) -/

/-- Highest ERASES of any sector. -/
def maxErases (m : Mem) (base : Nat) : Nat :=
  (List.range 16).foldl (fun n k => max n ((sectorErases m base k).getD 0)) 0

/-- Whatever a reset or a loss of power cut short is completed. -/
def persistRepair (base : Nat) (m : Mem) : Mem :=
  let m := (sectorsIn .cutShort m base).foldl (fun m k =>
    sectorErase base k (match sectorErases m base k with
      | some n => n + 1
      | none => maxErases m base) m) m
  if sectorsIn .free m base = [] then
    match ringHead m base, ringTail m base with
    | some h, some t => if h = t then m else compactInto base h t m
    | _, _ => m
  else m

/-- CHART_PERSIST as the region stands. -/
def persistReport (size : Nat) (m : Mem) (d : Device) : Device :=
  if size = 0 then d
  else
    let l := regionRecords m (persistBase size)
    let d := d.ru F.CHART_PERSIST_RECORDS (governingAll l).length
    (d.ru F.CHART_PERSIST_FREE_KIB ((persistLimit - governingBytes l) / 1024)).ru F.CHART_PERSIST_MAX_ERASES
      (maxErases m (persistBase size))

end Sys2Proof.Machine
end

