-- ==== Sys2Proof/Machine/Chart.lean ====
section
/-!
DEFINITION. Chart slots as the loader reads them (R494 to R500): the slot header, the sections, REG_INIT records, the
values of fields that a chart leaves out, and the override records (R501, R513).
The choices it makes stand under notes/assumptions: 8 (DESIGN CHOICE), 9 (DESIGN CHOICE), 73 (DEDUCED), 74 (DESIGN
CHOICE).
-/

namespace Sys2Proof.Machine

/-! ### The slot header (Table 17-4, R498) -/

/-- A slot header, and whether its slot is a candidate. -/
structure SlotHeader where
  seq : Nat
  svn : Nat
  imageLen : Nat
  bump : Bool
  ok : Bool
  deriving DecidableEq, Repr

/-- The header of slot `s`. -/
def slotHeader (n : NonVol) (size s : Nat) : SlotHeader :=
  let b := flashRead n.flash (slotBase size s) 64
  let flags := leNat (slice b 6 2)
  let len := leNat (slice b 16 4)
  let svn := leNat (slice b 12 4)
  { seq := leNat (slice b 8 4), svn := svn, imageLen := len, bump := bit flags 0,
    ok := leNat (slice b 0 4) == 0x9640C4A7 && leNat (slice b 4 2) == 1 && decide (flags < 2)
      && decide (len + 0x120 ≤ size) && leNat (slice b 20 2) == 0x9640
      && decide (leNat (slice b 22 2) ≤ n.revision.toNat) && decide (svn ≤ 64) && allZero (slice b 24 40) }

/-- Whether slot A is tried before slot B (R498). -/
def slotAFirst (a b : SlotHeader) : Bool := decide ((a.seq + 2 ^ 32 - b.seq) % 2 ^ 32 < 2 ^ 31)

/-- The candidates in the order in which they are tried. -/
def slotOrder (n : NonVol) (size : Nat) : List Nat :=
  let a := slotHeader n size 0
  let b := slotHeader n size 1
  let l := if slotAFirst a b then [0, 1] else [1, 0]
  l.filter fun s => if s = 0 then a.ok else b.ok

/-! ### Sections (R494, R496) -/

/-- A section: its TYPE and its payload. -/
structure Section where
  type : Nat
  payload : Bytes
  deriving DecidableEq, Repr

/-- Section types of Table 17-5: 1 REG_INIT, 2 NODE_TABLE, 3 BERTH_MAP, 4 SAFE_POOL, 5 RULES, 6 TEST_TIMELINE. -/
def sectionKnown (t : Nat) : Bool := decide (1 ≤ t ∧ t ≤ 6)

/-- Whether a LENGTH is a whole number of records of a type, and within its region. -/
def sectionSizeOk (t len : Nat) : Bool :=
  match t with
  | 1 | 6 => len % 16 == 0
  | 2 => len % 128 == 0 && decide (len ≤ 128 * 16384)
  | 3 => len % 16 == 0 && decide (len ≤ 16 * 65536)
  | 4 => decide (1 ≤ len ∧ len ≤ 1048576)
  | 5 => len % 160 == 0 && decide (len ≤ 160 * 16384)
  | _ => true

/-- The sections of an area with their indices, END left out, or the index of the section at fault; `seen` lists the types
before it. A type that Table 17-5 does not list is skipped unless it is CRITICAL. -/
def sectionsFrom : Nat → Nat → List Nat → Bytes → Nat ⊕ List (Nat × Section)
  | 0, idx, _, _ => .inl idx
  | fuel + 1, idx, seen, bs =>
    let type := leNat (slice bs 0 2)
    let flags := leNat (slice bs 2 2)
    let len := leNat (slice bs 4 4)
    let size := 16 + up16 len
    if bs.length < 16 ∨ 2 ≤ flags ∨ allZero (slice bs 8 8) = false ∨ bs.length < size then .inl idx
    else if type = 0x7FFF then
      if len = 0 ∧ bs.length = 16 ∧ [1, 2, 3].all seen.contains = true then .inr [] else .inl idx
    else if !sectionKnown type then
      if flags = 1 then .inl idx else sectionsFrom fuel (idx + 1) seen (bs.drop size)
    else if !sectionSizeOk type len || (type != 1 && seen.contains type) then .inl idx
    else
      match sectionsFrom fuel (idx + 1) (type :: seen) (bs.drop size) with
      | .inl k => .inl k
      | .inr l => .inr ((idx, { type := type, payload := slice bs 16 len }) :: l)

/-- The sections of a section area. -/
def sectionsOf (area : Bytes) : Nat ⊕ List (Nat × Section) := sectionsFrom (area.length / 16 + 1) 0 [] area

/-! ### REG_INIT records (R495) -/

/-- Whether field `fd` of index `i` takes its value from the chart: the chart gives the crossing clock no INCR (R55). -/
def chartField (fd : FieldDef) (i : Nat) : Bool := fd.isC && !(fd.fld == F.RECKON_D_INCR_INCR && i == 2)

/-- The fields of the register at `a` that a chart sets, with their indices; none at a reserved offset. -/
def chartFields (a : Nat) : Option (List FieldDef × Nat × Nat) :=
  if a % 8 ≠ 0 then none else (lookupReg a).map fun r => (r.1.fields.filter fun fd => chartField fd r.2.1, r.2.1, r.2.2)

/-- Whether a record that gives the register at `a` the value `v` passes R496. -/
def recordOk (a v : Nat) : Bool :=
  match chartFields a with
  | none => false
  | some (fs, _, _) =>
    let mask := fs.foldl (fun m fd => m + (2 ^ fd.fld.width - 1) * 2 ^ fd.fld.lo) 0
    v &&& mask == v && fs.all fun fd => !fd.isReserved (bits v fd.fld.hi fd.fld.lo)

/-- Whether the value that a record gives the register at `a` keeps every C field in the range its table states. -/
def recordInRange (a v : Nat) : Bool :=
  match chartFields a with
  | none => true
  | some (fs, _, _) => fs.all fun fd => fd.inRange (bits v fd.fld.hi fd.fld.lo)

/-- Field `f` set in a chart's register values. -/
def chartSet (f : Fld) (v i j : Nat) (t : Tab Nat) : Tab Nat := tabSet f.dflt t (f.key i j) (v % 2 ^ f.width)

/-- A record written to the C fields that `pick` chooses. -/
def recordSet (pick : Fld → Bool) (a v : Nat) (t : Tab Nat) : Tab Nat :=
  match chartFields a with
  | none => t
  | some (fs, i, j) =>
    fs.foldl (fun t fd => if pick fd.fld then chartSet fd.fld (bits v fd.fld.hi fd.fld.lo) i j t else t) t

/-- The records of a payload: OFFSET, VALUE, and whether the reserved bytes are 0. -/
def recordsOf (bs : Bytes) : List (Nat × Nat × Bool) :=
  (chunks 16 bs).map fun r => (leNat (slice r 0 4), leNat (slice r 8 8), allZero (slice r 4 4))

/-! ### What each section loads -/

/-- A node table entry, or none when a reserved field is set (Table 17-6). -/
def nodeOf (b : Bytes) : Option NodeEntry :=
  let flags := leNat (slice b 0 1)
  if 2 ≤ flags ∨ allZero (slice b 7 1) = false ∨ allZero (slice b 48 80) = false then none
  else some
    { valid := bit flags 0, branch := leNat (slice b 1 1), position := leNat (slice b 2 2), part := leNat (slice b 4 2),
      nberth := leNat (slice b 6 1), berths := (List.range 4).map fun k => leNat (slice b (8 + 2 * k) 2) }

/-- A berth map entry, or none when a reserved encoding or bit is set (Table 17-7). -/
def berthOf (b : Bytes) : Option BerthEntry :=
  let w := leWord b 0
  let u := leWord b 1
  let kind := w % 4
  let ref := u % 2 ^ 20
  if kind = 3 ∨ (kind = 2 ∧ 256 ≤ ref) ∨ (kind = 0 ∧ ref ≠ 0) then none
  else some
    { node := bits w 63 50, bidx := bits w 49 48, branch := bits w 47 43, frame := bits w 42 39, pos := bits w 38 25,
      outLen := bits w 24 14, inLen := bits w 13 3, spare := bit w 2, safeKind := kind, outOff := bits u 63 42,
      inOff := bits u 41 20, safeRef := ref }

/-- A rule and its index, or none when R496 refuses it; a reserved R2_ANCHOR and a reserved bit of word 1 are refused
(R12, Table 11-4). -/
def ruleOf (b : Bytes) : Option (Nat × RuleEnt) :=
  let i := leNat (slice b 0 2)
  let w1 := leWord (b.drop 144) 1
  if 16383 < i ∨ allZero (slice b 2 14) = false ∨ 2 ≤ bits w1 63 62 ∨ bits w1 43 0 ≠ 0 then none
  else some (i, { value := BitVec.ofNat 512 (beNat (slice b 16 64)), mask := BitVec.ofNat 512 (beNat (slice b 80 64)),
                  act0 := BitVec.ofNat 64 (leWord (b.drop 144) 0), act1 := BitVec.ofNat 64 w1 })

/-- A node table with its index as node ID; an invalid entry is left out. -/
def nodeTable (l : List NodeEntry) : Tab NodeEntry := (l.zipIdx.filter fun e => e.1.valid).map fun e => (e.2, e.1)

/-- One section loaded. -/
def sectionLoad (s : Section) (l : Loading) : Option Loading :=
  match s.type with
  | 1 =>
    let rs := recordsOf s.payload
    if rs.all fun r => r.2.2 && recordOk r.1 r.2.1 then
      some { l with regs := rs.foldl (fun t r => recordSet (fun _ => true) r.1 r.2.1 t) l.regs,
                    named := l.named ++ rs.map (·.1),
                    outOfRange := l.outOfRange || !rs.all fun r => recordInRange r.1 r.2.1 }
    else none
  | 2 => ((chunks 128 s.payload).mapM nodeOf).map fun ns => { l with nodes := nodeTable ns }
  | 3 => ((chunks 16 s.payload).mapM berthOf).map fun bs => { l with berths := bs }
  | 4 => some { l with pool := s.payload }
  | 5 => ((chunks 160 s.payload).mapM ruleOf).map fun rs =>
      { l with rules := rs.foldl (fun t r => tabSet none t r.1 (some r.2)) [] }
  | 6 =>
    let rs := recordsOf s.payload
    if rs.all fun r => r.2.2 && recordOk r.1 r.2.1 && decide (0x100000 ≤ r.1 ∧ r.1 < 0x200000) then
      some { l with timeline := some (rs.map fun r => (r.1, r.2.1)) }
    else none
  | _ => some l

/-- The sections loaded in order, or the index of the one at fault. -/
def sectionsLoad : List (Nat × Section) → Loading → Nat ⊕ Loading
  | [], l => .inr l
  | (i, s) :: rest, l =>
    match sectionLoad s l with
    | none => .inl i
    | some l => sectionsLoad rest l

/-! ### Values a chart leaves out (R495) -/

/-- Rows of Table 13-5: FLOOR_NS, FWD_FLOOR_NS, VMAX_MV, CAP_W, OTHER_W, LADDER_DEPTH, DSP, PIPES, PINNED, SAMPLE_NS. -/
def headingRows : List (List Nat) := [
  [1500, 200, 880, 240, 104, 4, 0, 8, 0, 10000], [1000, 150, 860, 200, 95, 4, 1, 8, 0, 50000],
  [1500, 200, 880, 240, 104, 2, 0, 8, 1, 100000], [500, 100, 820, 150, 70, 4, 2, 6, 0, 100000],
  [750, 300, 880, 240, 104, 1, 0, 8, 0, 50000], [1000, 150, 880, 240, 104, 0, 0, 8, 0, 1000],
  [500, 100, 760, 80, 40, 4, 2, 2, 0, 0], [0, 0, 620, 0, 0, 0, 0, 0, 0, 0]]

/-- The fields of TRIM_HROW_A in the order of `headingRows`. -/
def rowFields : List Fld := [
  F.TRIM_HROW_A_FLOOR_NS, F.TRIM_HROW_A_FWD_FLOOR_NS, F.TRIM_HROW_A_VMAX_MV, F.TRIM_HROW_A_CAP_W, F.TRIM_HROW_A_OTHER_W,
  F.TRIM_HROW_A_LADDER_DEPTH, F.TRIM_HROW_A_DSP, F.TRIM_HROW_A_PIPES, F.TRIM_HROW_A_PINNED]

/-- Whether a chart names the register of field `f` at index `i`. -/
def Loading.names (l : Loading) (f : Fld) (i : Nat) : Bool := l.named.contains (f.addr i)

/-- Field `f` of index `i` set unless the chart names its register. -/
def Loading.fill (l : Loading) (f : Fld) (i v : Nat) : Loading :=
  if l.names f i then l else { l with regs := chartSet f v i 0 l.regs }

/-- The heading rows that a chart leaves out. -/
def fillRows (l : Loading) : Loading :=
  headingRows.zipIdx.foldl (fun l r =>
    let l := (rowFields.zip r.1).foldl (fun (l : Loading) e => l.fill e.1 r.2 e.2) l
    l.fill F.TRIM_HROW_B_SAMPLE_NS r.2 (r.1.getD 9 0)) l

/-- The voltage curve of a chart that sets none. -/
def fillCurve (l : Loading) : Loading :=
  if (List.range 8).any fun i => l.names F.TRIM_CURVE_VALID i then l
  else
    [(unsignedOf 8 (-40), 640), (25, 650), (85, 680), (105, 700)].zipIdx.foldl (fun (l : Loading) e =>
      ((l.fill F.TRIM_CURVE_VALID e.2 1).fill F.TRIM_CURVE_T_C e.2 e.1.1).fill F.TRIM_CURVE_VMIN_MV e.2 e.1.2) l

/-- A device that holds a chart's values, for the loader's own sums. -/
def Loading.dev (l : Loading) (regs : Tab Nat) : Device :=
  { charted := true, regs := regs, chart := { nodes := l.nodes, berths := l.berths, pool := l.pool } }

/-- What the sections themselves give, and the values that rest on other values of the chart. -/
def chartComplete (l : Loading) : Loading :=
  let n := l.berths.length
  let base := (8 * n + 63) / 64 * 64
  let l := { l with regs := chartSet F.GLOBAL_CFG_TEST_PERMITTED (if l.timeline.isSome then 1 else 0) 0 0 l.regs }
  let l := l.fill F.CARGO_LAYOUT_STATUS_ENTRIES 0 n
  let l := l.fill F.CARGO_LAYOUT_IN_DATA_BASE 0 base
  let c := l.dev l.regs
  let l := (List.range 32).foldl (fun l p => if c.isArm p then l.fill F.PORT_FRAME_MAX_FRAME p 16384 else l) l
  let l := l.fill F.FIX_COLDSTART_LISTEN_TIMEOUT 0 (max 20000 ((2 * c.rg F.CROSS_PERIOD_PERIOD_NS + 999) / 1000))
  fillCurve (fillRows l)

/-- The network settings of a chart image, defaults filled in (R70, R71, Table 03-1). -/
def netOf (n : Config.ChartNet) : NetCfg :=
  let c : NetCfg := {}
  { etherType := (n.etherType.map BitVec.toNat).getD c.etherType,
    branchAddr := n.branchAddr.map fun e => (e.1, e.2.toNat),
    groupAddr := (n.groupAddr.map BitVec.toNat).getD c.groupAddr,
    uplinkTags := n.uplinkTags.map fun e => (e.1, (e.2.take 2).map BitVec.toNat), holdAside := n.holdAside, txEq := n.txEq }

/-- Slot `s` as read: the index of the section at fault, or what it loads. -/
def slotLoad (n : NonVol) (size s : Nat) : Nat ⊕ Loading :=
  let h := slotHeader n size s
  let base := slotBase size s
  let image := flashRead n.flash (base + 0x40) h.imageLen
  match sectionsOf image with
  | .inl k => .inl k
  | .inr secs =>
    let l : Loading :=
      { slot := s, seq := h.seq, svn := h.svn, bump := h.bump, net := netOf (Config.chartNet image),
        key := flashRead n.flash (base + 0x40 + h.imageLen) 97, sig := flashRead n.flash (base + 0xC0 + h.imageLen) 96,
        digest := Config.sha384 (flashRead n.flash base (0xC0 + h.imageLen)) }
    match sectionsLoad secs l with
    | .inl k => .inl k
    | .inr l => .inr (chartComplete l)

/-! ### Verification (R499) -/

/-- What Table 17-8 makes of a key, a signature over a digest and an SVN: the fault code, 0 when all pass. -/
def slotVerify (n : NonVol) (key sig : Bytes) (digest : BitVec 384) (svn : Nat) : Nat :=
  let signed := Config.ecdsaP384Verifies key digest sig
  match n.lifecycle with
  | .blank => if signed then 0 else 4
  | .provisioned | .fielded =>
    if Config.sha384 key ≠ n.keyHash then 3 else if !signed then 4 else if svn < n.fusedSvn then 5 else 0
  | .retired => 3

/-! ### Overrides (R501, R513) -/

/-- The fields of the register at `a` that an override may set. -/
def overrideFields (a : Nat) : List Fld :=
  match lookupReg a with
  | none => []
  | some (rd, _, _) =>
    [F.GLOBAL_ID_DEVICE_ID, F.GLOBAL_MAC_ADDRESS, F.PORT_STAMP_BOARD_BOARD_TX, F.PORT_STAMP_BOARD_BOARD_RX,
     F.FIX_SRC_DELAY_NS, F.FIX_SRC_DELAY_FRACTION].filter fun f => rd.addr == f.base

/-- The override records applied in key order to a chart's values, and whether one was ignored. -/
def applyOverrides (m : Mem) (base : Nat) (t : Tab Nat) : Tab Nat × Bool :=
  let l := (governingAll (regionRecords m base)).filter fun r => decide (0xE000 ≤ r.key ∧ r.key ≤ 0xEFFF)
  (l.flatMap fun r => chunks 16 r.payload).foldl (fun x r =>
    let a := leNat (slice r 0 4)
    let fs := overrideFields a
    if fs = [] ∨ a % 8 ≠ 0 ∨ r.length ≠ 16 then (x.1, true)
    else (recordSet (fun f => fs.contains f) a (leNat (slice r 8 8)) x.1, x.2)) (t, false)

end Sys2Proof.Machine
end

