-- ==== Sys2Proof/Machine/ChartCheck.lean ====
section
/-!
DEFINITION. The chart loader's checks (fault CHECK): R497 and the rules of the other chapters in which "the chart loader
rejects". Each check reads a device that holds only the chart's values. Times are whole ns.
The choices it makes stand under notes/assumptions: 9 (DESIGN CHOICE), 49 (DEDUCED), 59 (DEDUCED), 74 (DESIGN
CHOICE).
-/

namespace Sys2Proof.Machine

/-! ### Node table, berth map, images (R497, R81, R73, R147, R146, R170) -/

/-- A valid node's entry: its ranges, and the berths that its NBERTH requires. -/
def nodeOk (id : Nat) (n : NodeEntry) (c : Device) : Bool :=
  decide (n.branch < 32 ∧ 1 ≤ n.position ∧ n.position ≤ 4096 ∧ 1 ≤ n.nberth ∧ n.nberth ≤ 4)
    && (List.range n.nberth).all fun k =>
      match c.chart.berths[n.berths.getD k 0xFFFF]? with
      | some e => !e.spare && e.node == id && e.bidx == k
      | none => false

/-- Berth `i` against its node, its ranges and SAFE_POOL. -/
def berthOk (i : Nat) (e : BerthEntry) (c : Device) : Bool :=
  let n := tabGet {} c.chart.nodes e.node
  decide (e.outLen ≤ 1024 ∧ e.inLen ≤ 1024 ∧ 20 ≤ e.pos)
    && (if e.spare then e.node == 0 else n.valid && n.berths.getD e.bidx 0xFFFF == i && n.branch == e.branch)
    && (e.safeKind != 1 || (!c.chart.pool.isEmpty && decide (e.safeRef + e.outLen ≤ c.chart.pool.length)))

/-- Whether the pairs (start, length), in ascending order of start, do not overlap. -/
def apart : List (Nat × Nat) → Bool
  | [] => true
  | [_] => true
  | (a, n) :: (b, m) :: rest => decide (a + n ≤ b) && apart ((b, m) :: rest)

/-- Pairs sorted by start, empty ones left out. -/
def spans (l : List (Nat × Nat)) : List (Nat × Nat) :=
  pairSort (l.filter fun x => x.2 != 0)

/-- The berths of branch `b`'s frame `k` in ascending index. -/
def frameBerths (b k : Nat) (c : Device) : List BerthEntry := c.chart.berths.filter fun e => e.branch == b && e.frame == k

/-- PDU length of frame `k` of branch `b` (R81). -/
def framePdu (b k : Nat) (c : Device) : Nat :=
  (frameBerths b k c).foldl (fun n e => n + (10 + e.outLen + e.inLen)) 20

/-- A frame of the train: 1 to 1,631 berths back to back from PDU byte 20, and no longer than its ports allow. -/
def frameOk (b k : Nat) (c : Device) : Bool :=
  let l := frameBerths b k c
  let packed := (l.foldl (fun (x : Bool × Nat) e => (x.1 && e.pos == x.2, x.2 + (10 + e.outLen + e.inLen))) (true, 20)).1
  let len := armFrameLen (framePdu b k c)
  decide (1 ≤ l.length ∧ l.length ≤ 1631) && packed && decide (len ≤ 16352)
    && (musterPorts b c).all fun p => decide (len ≤ c.rg F.PORT_FRAME_MAX_FRAME p)

/-- The trains of every branch that has berths. -/
def trainsOk (c : Device) : Bool :=
  (List.range 32).all fun b =>
    !(c.chart.berths.any fun e => e.branch == b)
      || ((List.range (c.rg F.CROSS_BR_CFG_TRAIN_LAST b + 1)).all (fun k => frameOk b k c)
          && c.chart.berths.all fun e => e.branch != b || decide (e.frame ≤ c.rg F.CROSS_BR_CFG_TRAIN_LAST b))

/-- The images (R146, R147, R170). -/
def imagesOk (c : Device) : Bool :=
  let n := c.chart.berths.length
  let base := (8 * n + 63) / 64 * 64
  let out := spans (c.chart.berths.map fun e => (e.outOff, e.outLen))
  let inp := spans (c.chart.berths.map fun e => (base + e.inOff, e.inLen))
  let outSize := c.rg F.CARGO_IMAGE_OUT_SIZE
  let inSize := c.rg F.CARGO_IMAGE_IN_SIZE
  let period := c.rg F.CROSS_PERIOD_PERIOD_NS
  let at_ := c.rg F.CARGO_TIMING_FETCH_AT
  decide (outSize ≤ 4194304 ∧ inSize ≤ 4194304 ∧ c.rg F.CARGO_LAYOUT_STATUS_ENTRIES = n)
    && c.rg F.CARGO_LAYOUT_IN_DATA_BASE == base && apart out && apart inp
    && out.all (fun x => decide (x.1 + x.2 ≤ outSize)) && inp.all (fun x => decide (x.1 + x.2 ≤ inSize))
    && decide ((outSize + 49) / 50 + at_ ≤ period ∧ (inSize + 49) / 50 ≤ period)

/-- Whether no value occurs twice in a list. -/
def noRepeat {α : Type} [DecidableEq α] (l : List α) : Bool := decide l.Nodup

/-- The node table and the berth map. -/
def mapOk (c : Device) : Bool :=
  c.chart.nodes.all (fun e => nodeOk e.1 e.2 c) && c.chart.berths.zipIdx.all (fun e => berthOk e.2 e.1 c)
    && noRepeat (c.chart.nodes.map fun e => (e.2.branch, e.2.position)) && trainsOk c && imagesOk c

/-! ### Branches (R108, R109, R117, R542, R185, R187, R259) -/

/-- Wire times of the frames of branch `b`'s train. -/
def trainWires (b : Nat) (c : Device) : List Nat :=
  (List.range (c.rg F.CROSS_BR_CFG_TRAIN_LAST b + 1)).map fun k => branchWire b (armFrameLen (framePdu b k c)) c

/-- LAUNCH_OFFSET plus the sum of W over the train: the end of its last frame. -/
def trainEnd (b : Nat) (c : Device) : Nat := (trainWires b c).foldl (· + ·) (c.rg F.CROSS_BR_LAUNCH_LAUNCH_OFFSET b)

/-- The derived round-trip limit of branch `b` (R542). -/
def derivedLimit (b : Nat) (c : Device) : Int :=
  (c.rg F.CROSS_BR_DEADLINE_INPUT_DEADLINE b : Int) - c.rg F.CROSS_MARGINS_MERGE_MARGIN - c.rg F.PILOT_CFG_ACCEPT_WINDOW
    - trainEnd b c

/-- A limit of branch `b` in force: what the chart sets, or the derived one. -/
def limitOf (f : Fld) (b : Nat) (c : Device) : Int := if c.rg f b = 0 then derivedLimit b c else c.rg f b

/-- Whether two half-open spans overlap. -/
def meets (x y : Int × Int) : Bool := decide (x.1 < y.2 ∧ y.1 < x.2)

/-- The enabled UP windows of branch `b` at a return port, for a round-trip limit. -/
def upSpans (b : Nat) (rtt : Int) (c : Device) : List (Int × Int) :=
  let aw : Int := c.rg F.PILOT_CFG_ACCEPT_WINDOW
  ((List.range 4).filter fun w => c.rb F.PILOT_ACY_CFG_ENABLE b w && !c.rb F.PILOT_ACY_CFG_DIR b w).map fun w =>
    let e : Int := trainEnd b c + rtt + c.rg F.PILOT_ACY_GAP_GAP_NS b w
    (e - aw, e + branchWire b (armFrameLen (24 + c.rg F.PILOT_ACY_CFG_MAX_DATA b w)) c + aw)

/-- The enabled DOWN windows of branch `b`. -/
def downSpans (b : Nat) (c : Device) : List (Int × Int) :=
  ((List.range 4).filter fun w => c.rb F.PILOT_ACY_CFG_ENABLE b w && c.rb F.PILOT_ACY_CFG_DIR b w).map fun w =>
    let o : Int := c.rg F.PILOT_ACY_GAP_GAP_NS b w
    (o, o + branchWire b (armFrameLen (24 + c.rg F.PILOT_ACY_CFG_MAX_DATA b w)) c + c.rg F.PILOT_CFG_ACCEPT_WINDOW)

/-- Whether no two spans of a list overlap. -/
def noMeet : List (Int × Int) → Bool
  | [] => true
  | x :: l => l.all (fun y => !meets x y) && noMeet l

/-- R187 with one round-trip limit. DEDUCED: spans are half-open, so one that ends at the next launch does not reach it.
-/
def acyclicOk (b : Nat) (rtt : Int) (c : Device) : Bool :=
  let aw : Int := c.rg F.PILOT_CFG_ACCEPT_WINDOW
  let ups := upSpans b rtt c
  let backs := (downSpans b c).map fun x => (x.1 + rtt - aw, x.2 + rtt + aw)
  let next : Int := 2 ^ c.rg F.CROSS_BR_CFG_SUBMULT b * c.rg F.CROSS_PERIOD_PERIOD_NS + c.rg F.CROSS_BR_LAUNCH_LAUNCH_OFFSET b
  noMeet ups && ups.all (fun x => backs.all fun y => !meets x y) && (ups ++ backs).all fun x => decide (x.2 ≤ next)

/-- An enabled branch. -/
def branchOk (b : Nat) (c : Device) : Bool :=
  let period := c.rg F.CROSS_PERIOD_PERIOD_NS
  let sub := c.rg F.CROSS_BR_CFG_SUBMULT b
  let lo := c.rg F.CROSS_BR_LAUNCH_LAUNCH_OFFSET b
  let dl := c.rg F.CROSS_BR_DEADLINE_INPUT_DEADLINE b
  let ring := limitOf F.CROSS_BR_RTT_LIMIT_RING_LIMIT_NS b c
  let line := limitOf F.CROSS_BR_RTT_LIMIT_LINE_LIMIT_NS b c
  let fences := branchFences b c
  let back := fun (rtt : Int) => decide (rtt ≤ derivedLimit b c)
  let train : Int × Int := (lo, dl)
  decide (c.rg F.CROSS_BR_CFG_PHASE b < 2 ^ sub) && decide (lo < period ∧ dl ≤ 2 ^ sub * period)
    && (musterPorts b c).all (fun p => decide (0 < c.rate p))
    && c.chart.berths.any (fun e => e.branch == b)
    && decide (c.rg F.CROSS_MARGINS_READY_MARGIN ≤ lo) && decide (1 ≤ ring) && back ring
    && (!fences || !c.rb F.CROSS_BR_CFG_DUAL b || (decide (1 ≤ line) && back line))
    && (upSpans b ring c ++ downSpans b c).all (fun x => !meets x train)
    && acyclicOk b ring c && (!fences || acyclicOk b line c)
    && (!c.rb F.CROSS_BR_CFG_DUAL b || c.rg F.PORT_MODE_MODE (portA b c) == c.rg F.PORT_MODE_MODE (portB b c))

/-- The rotas of every enabled UP window, whatever its branch, lie within the rota table (R185). -/
def rotasOk (c : Device) : Bool :=
  (List.range 32).all fun b => (List.range 4).all fun w =>
    !c.rb F.PILOT_ACY_CFG_ENABLE b w || c.rb F.PILOT_ACY_CFG_DIR b w
      || decide (c.rg F.PILOT_ACY_CFG_ROTA_BASE b w + c.rg F.PILOT_ACY_CFG_ROTA_LEN b w ≤ 4096)

/-! ### Fix (R203, R212, R213, R216) -/

/-- The sources and the coldstart peers. -/
def fixOk (c : Device) : Bool :=
  let period := c.rg F.CROSS_PERIOD_PERIOD_NS
  let offset := c.rg F.FIX_CFG_TX_OFFSET
  let srcs := fixSources c
  let devs := srcs.map fun j => c.rg F.FIX_SRC_DEV j
  let peers := fixPeers c
  let own := c.rg F.GLOBAL_ID_DEVICE_ID
  let uplinks := (List.range 32).filter fun p => c.isUplink p && c.rate p != 0
  let slow := uplinks.foldl (fun n p => max n (c.wire p 64)) 0
  let delay := srcs.foldl (fun m j => max m (srcDelay j c)) 0
  let cw := c.rg F.FIX_CS_WINDOW_COLLISION_WINDOW
  noRepeat devs && noRepeat (srcs.map fun j => c.rg F.FIX_SRC_PORT j)
    && srcs.all (fun j => c.isUplink (c.rg F.FIX_SRC_PORT j))
    && decide (offset + c.rg F.CROSS_MARGINS_READY_MARGIN < period)
    && decide (srcs.length + c.rg F.FIX_CFG_SELF ≤ 15)
    && decide (2 * period ≤ c.rg F.FIX_COLDSTART_LISTEN_TIMEOUT * 1000)
    && noRepeat (peers.map (·.2)) && peers.all (fun e => e.1 == own || devs.contains e.1)
    && (!c.rb F.FIX_CFG_CS_CAPABLE || peers.contains (own, c.rg F.FIX_CFG_RANK))
    && decide ((offset + slow : Nat) * 65536 + 2 * delay ≤ (cw * 65536 : Nat))
    && decide (2 * cw ≤ c.rg F.FIX_COLDSTART_BACKOFF_BASE * 1000)

/-! ### Ports, Compass, Helm, Trim, cycle points -/

/-- Lanes that port `p` claims (Table 09-1). -/
def portLanes (p : Nat) (c : Device) : Nat :=
  match c.rg F.PORT_MODE_MODE p with
  | 0 => 0
  | 9 => 2
  | 10 => 4
  | _ => 1

/-- Whether another port takes the lane of port `p` (R258). -/
def portAbsorbed (p : Nat) (c : Device) : Bool :=
  (List.range p).any fun q => decide (p < q + portLanes q c)

/-- Whether Table 09-2 permits the FEC of port `p` in its mode. -/
def fecOk (p : Nat) (c : Device) : Bool :=
  let f := c.rg F.PORT_MODE_FEC p
  match c.rg F.PORT_MODE_MODE p with
  | 0 | 1 | 2 => f == 0
  | 3 | 4 => decide (f < 2)
  | _ => f == 2

/-- One port (R259, R284, R291, R355). -/
def portOk (p : Nat) (c : Device) : Bool :=
  let n := portLanes p c
  let role := c.rg F.PILOT_ARM_CFG_ROLE p
  let flow := c.rg F.PORT_FLOW_MODE p
  let high := c.rg F.PORT_FLOW_WM_HIGH_WM p
  (n < 2 || (p % n == 0 && role != 1)) && (!portAbsorbed p c || (n == 0 && role == 0)) && fecOk p c
    && (role != 1 || flow == 0)
    && (flow == 0 || decide (c.rg F.PORT_FLOW_WM_LOW_WM p < high ∧ high < c.rg F.PORT_FLOW_WM_HOLD_LIMIT p))
    && (!c.rb F.REDUN_PE_CFG_ENABLE p || role == 2)
    && (List.range 8).all fun k => decide (c.rg F.HELM_CLASS_CFG_MAX_FRAME p k ≤ c.rg F.PORT_FRAME_MAX_FRAME p)

/-- The parse graph (R325). An extract that is not valid copies nothing, and only the range of its own fields binds it. -/
def parseOk (c : Device) : Bool :=
  let valid := fun k => c.rb F.COMPASS_PG_NODE_VALID k
  let edge := fun k t => !c.rb F.COMPASS_PG_TRANS_VALID k t || valid (c.rg F.COMPASS_PG_TRANS_NEXT k t)
  valid (c.rg F.COMPASS_CFG_START_NODE)
    && (List.range 64).all fun k =>
      (List.range 8).all (edge k) && (!c.rb F.COMPASS_PG_NODE_DEFAULT_VALID k || valid (c.rg F.COMPASS_PG_NODE_DEFAULT_NEXT k))
        && (extracts k c).all fun e => !e.1 || decide (8 ≤ e.2.2.2 ∧ e.2.2.2 + e.2.2.1 ≤ 64)

/-- Whether integers rise strictly. -/
def rises : List Int → Bool
  | [] => true
  | [_] => true
  | a :: b :: l => decide (a < b) && rises (b :: l)

/-- The voltage curve (Table 13-12): at least two points, in ascending T_C. -/
def curveOk (c : Device) : Bool := decide (2 ≤ (curvePoints c).length) && rises ((curvePoints c).map (·.1))

/-- The cycle points (R133). -/
def cyclePointsOk (c : Device) : Bool :=
  (List.range 64).all fun i =>
    !c.rb F.CROSS_CP_CFG_ENABLE i || decide (c.rg F.CROSS_CP_CFG_PHASE i < 2 ^ c.rg F.CROSS_CP_CFG_EVERY i)

/-- An EtherType that a chart may give (R71). -/
def etherOk (t : Nat) : Bool :=
  decide (0x0600 ≤ t) && !([0x0800, 0x0806, 0x86DD, 0x8100, 0x88A8, 0x8808, 0x88F7] : List Nat).contains t

/-! ### Ranges of what a record sets (R497) -/

/-- The ranges that rest on other values of the chart, for the registers at the addresses `named`. -/
def namedOk (named : List Nat) (c : Device) : Bool :=
  let period := c.rg F.CROSS_PERIOD_PERIOD_NS
  let is := fun (f : Fld) (i : Nat) => named.contains (f.addr i)
  (List.range 32).all (fun b =>
      (!is F.CROSS_BR_LAUNCH_LAUNCH_OFFSET b || decide (c.rg F.CROSS_BR_LAUNCH_LAUNCH_OFFSET b < period))
      && (!is F.CROSS_BR_DEADLINE_INPUT_DEADLINE b
        || decide (c.rg F.CROSS_BR_DEADLINE_INPUT_DEADLINE b ≤ 2 ^ c.rg F.CROSS_BR_CFG_SUBMULT b * period)))
    && (!is F.CROSS_MARGINS_SKIFF_LEAD 0
      || decide (c.rg F.CROSS_MARGINS_READY_MARGIN ≤ c.rg F.CROSS_MARGINS_SKIFF_LEAD))
    && (!is F.CARGO_TIMING_FETCH_AT 0 || decide (c.rg F.CARGO_TIMING_FETCH_AT < period))
    && (!is F.FIX_STEER_PHASE_NS 0 || decide (c.rg F.FIX_STEER_PHASE_NS < period))
    && (List.range 32).all (fun p =>
      !is F.HELM_GATE_CYCLE_CYCLE_EXT p
        || decide (c.rg F.HELM_GATE_CYCLE_CYCLE_EXT p ≤ c.rg F.HELM_GATE_CYCLE_CYCLE_NS p))
    && (List.range 64).all (fun i =>
      !is F.CROSS_CP_CFG_PHASE i || decide (c.rg F.CROSS_CP_CFG_PHASE i < 2 ^ c.rg F.CROSS_CP_CFG_EVERY i))
    && (List.range 8).all fun h =>
      let n := c.rg F.TRIM_HROW_B_SAMPLE_NS h
      !is F.TRIM_HROW_B_SAMPLE_NS h || n == 0 || decide (1000 ≤ n ∧ n ≤ 1000000)

/-- The values of the C fields that the records `rs` name. -/
def recordValues (l : Loading) (regs : Tab Nat) : List (Nat × Nat) :=
  l.named.map fun a => match chartFields a with
    | none => (a, 0)
    | some (fs, i, j) => (a, fs.foldl (fun v fd => v + tabGet fd.fld.dflt regs (fd.fld.key i j) * 2 ^ fd.fld.lo) 0)

/-- A chart's values with its TEST_TIMELINE records in place (R543). -/
def timelineRegs (l : Loading) (regs : Tab Nat) : Tab Nat :=
  (l.timeline.getD []).foldl (fun t r => recordSet (fun _ => true) r.1 r.2 t) regs

/-- Every check of the chart loader, with the register values `regs`. Every record is held to its field's range, also one
that a later record or an override replaces; a range that rests on other values is tested on the values that result. -/
def chartCheck (l : Loading) (regs : Tab Nat) : Bool :=
  let c := l.dev regs
  let test := l.timeline.getD []
  !l.outOfRange && (recordValues l regs).all (fun r => recordInRange r.1 r.2) && test.all (fun r => recordInRange r.1 r.2)
    && namedOk l.named c && namedOk (test.map (·.1)) (l.dev (timelineRegs l regs))
    && mapOk c && (enabledBranches c).all (fun b => branchOk b c) && rotasOk c && fixOk c
    && (List.range 32).all (fun p => portOk p c) && parseOk c && curveOk c && cyclePointsOk c && etherOk l.net.etherType

/-- A limit of branch `b` as its register reads it. DESIGN CHOICE: a derived limit above 2^32 − 1 ns, which R542 does not
speak of, reads and acts as 2^32 − 1. -/
def limitRead (f : Fld) (b : Nat) (c : Device) : Nat := (max 0 (min (limitOf f b c) (2 ^ f.width - 1))).toNat

/-- The round-trip limits in force, as the registers read them (R542). -/
def limitsSet (l : Loading) (regs : Tab Nat) : Tab Nat :=
  let c := l.dev regs
  (enabledBranches c).foldl (fun t b =>
    let put := fun (f : Fld) (t : Tab Nat) => chartSet f (limitRead f b c) b 0 t
    put F.CROSS_BR_RTT_LIMIT_LINE_LIMIT_NS (put F.CROSS_BR_RTT_LIMIT_RING_LIMIT_NS t)) regs

end Sys2Proof.Machine
end

