-- ==== Sys2Proof/Machine/Boot.lean ====
section
/-!
DEFINITION. The boot steps within LOAD (R491, R498 to R504), and what a loaded chart puts in force at the entry into MUSTER.
The choices it makes stand under notes/assumptions: 6 (DESIGN CHOICE), 38 (DEDUCED), 49 (DEDUCED), 73 (DEDUCED), 77
(DEDUCED), 80 (DEDUCED).
-/

namespace Sys2Proof.Machine

/-! ### Trying slots -/

/-- FAULT and FAULT_SECTION of CHART_SLOT_A or CHART_SLOT_B (Table 17-20). -/
def slotFault (s fault sec : Nat) (d : Device) : Device :=
  if s = 0 then (d.ru F.CHART_SLOT_A_FAULT fault).ru F.CHART_SLOT_A_FAULT_SECTION sec
  else (d.ru F.CHART_SLOT_B_FAULT fault).ru F.CHART_SLOT_B_FAULT_SECTION sec

/-- SEQ and SVN of both slots, as their headers give them. -/
def slotReport (a b : SlotHeader) (d : Device) : Device :=
  let d := (d.ru F.CHART_SLOT_A_SEQ a.seq).ru F.CHART_SLOT_A_SVN a.svn
  (d.ru F.CHART_SLOT_B_SEQ b.seq).ru F.CHART_SLOT_B_SVN b.svn

/-- The loader takes the next candidate, or faults when none is left (R503). -/
def slotNext (d : Device) : Device :=
  match d.boot.cands with
  | _ :: _ => { d with boot.step := .read, boot.load := none }
  | [] => evRaise 8 ({ d with boot.step := .fault, boot.load := none }.ru F.GLOBAL_STATUS_CHART_FAULT 1)

/-- The slot being tried fails with a fault code; what it loaded is cleared (R499, R500). -/
def slotFail (fault sec : Nat) (d : Device) : Device :=
  match d.boot.cands with
  | [] => slotNext d
  | s :: rest => slotNext (slotFault s fault sec { d with boot.cands := rest })

/-- The mode, clock and dummy cycles in use (R491). -/
def flashMode (h : FlashHeader) (d : Device) : Device :=
  let ok := d.boot.sfdp.modeOk
  ({ d with boot.dummy := if ok then h.dummy else 0 }.ru F.CHART_FLASH_MODE (if ok then h.mode else 0)).ru
    F.CHART_FLASH_CLOCK_MHZ (if ok then h.clock else 25)

/-- FLASH_HEADER_READ_DONE (R493, R498): HEADER to SELECT and on to the first slot, or to FAULT. -/
def flashHeaderReadDone (n : NonVol) (d : Device) : Device :=
  if d.st ≠ .load ∨ d.boot.step ≠ .header then d
  else
    match flashHeader n.flash d.boot.sfdp.sizeLog2 with
    | none => slotNext ({ d with boot.slotSize := 0, boot.cands := [] }.ru F.CHART_STATUS_HEADER_FAULT 1)
    | some h =>
      let a := slotHeader n h.slotSize 0
      let b := slotHeader n h.slotSize 1
      let d := slotReport a b (flashMode h (d.ru F.CHART_STATUS_HEADER_COPY h.copy))
      let d := slotFault 1 (if b.ok then 0 else 1) 0 (slotFault 0 (if a.ok then 0 else 1) 0 d)
      slotNext { d with boot.slotSize := h.slotSize, boot.cands := slotOrder n h.slotSize }

/-- SLOT_READ_DONE (R496, R504): `readOk` is false when a flash read failed three times. -/
def slotReadDone (readOk : Bool) (n : NonVol) (d : Device) : Device :=
  if d.st ≠ .load ∨ d.boot.step ≠ .read then d
  else
    match d.boot.cands with
    | [] => d
    | s :: _ =>
      if !readOk then slotFail 2 0 d
      else
        match slotLoad n d.boot.slotSize s with
        | .inl k => slotFail 6 k d
        | .inr l => { d with boot.step := .verify, boot.load := some l }

/-- SLOT_VERIFY_DONE (R499, R501): the overrides are applied when all checks pass. -/
def slotVerifyDone (n : NonVol) (d : Device) : Device :=
  if d.st ≠ .load ∨ d.boot.step ≠ .verify then d
  else
    match d.boot.load with
    | none => d
    | some l =>
      let v := slotVerify n l.key l.sig l.digest l.svn
      if v ≠ 0 then slotFail v 0 d
      else
        let o := applyOverrides n.flash (persistBase d.boot.slotSize) l.regs
        let d := { d with boot.step := .check, boot.load := some { l with final := o.1 } }
        if o.2 then d.ru F.CHART_STATUS_OVERRIDE_SKIPPED 1 else d

/-! ### A loaded chart -/

/-- Whether the register file's key `k` belongs to a C field. -/
def isChartKey (k : Nat) : Bool :=
  match chartFields (k / 64) with
  | none => false
  | some (fs, _, _) => fs.any fun fd => fd.fld.lo == k % 64

/-- The chart's register values put in force: the C fields are the chart's, the others keep their values. DESIGN CHOICE:
a PRIMARY of 1 is the primary domain from the load on and no change of it, so it raises no event 34 (R68 leaves that
open); and an INCR that the host wrote before MUSTER stays in force in a domain for which the chart gives none, while
the register reads nominal (R495, R55), where Table 02-16 has it read the last value accepted. -/
def regsInForce (t : Tab Nat) (d : Device) : Device :=
  let kept := d.regs.filter fun e => !isChartKey e.1
  { d with charted := true, regs := pairSort (kept ++ t) }

/-- The pins whose MODE the chart changed against `old` are disarmed (R245, R250). -/
def tioInForce (old d : Device) : Device :=
  (List.range 16).foldl (fun d i =>
    if d.rg F.RECKON_TIO_CFG_MODE i = old.rg F.RECKON_TIO_CFG_MODE i then d else tioDisarm i d) d

/-- The fields that the TEST_TIMELINE replaces, with both values (R543); a round-trip limit of 0 is derived from the
values in TEST (R542). -/
def testFieldsOf (l : Loading) (regs : Tab Nat) : List TestField :=
  let test := timelineRegs l regs
  let names := distinct ((l.timeline.getD []).map (·.1))
  names.flatMap fun a => match chartFields a with
    | none => []
    | some (fs, i, j) => fs.map fun fd =>
      let init := tabGet fd.fld.dflt regs (fd.fld.key i j)
      let v := tabGet fd.fld.dflt test (fd.fld.key i j)
      let limit := fd.fld == F.CROSS_BR_RTT_LIMIT_RING_LIMIT_NS || fd.fld == F.CROSS_BR_RTT_LIMIT_LINE_LIMIT_NS
      { fld := fd.fld, i := i, j := j, test := if limit then limitRead fd.fld i (l.dev test) else v, init := init }

/-- The chart tables of State. -/
def chartTables (l : Loading) (regs : Tab Nat) : Chart :=
  let incr := fun (i : Nat) =>
    if l.names F.RECKON_D_INCR_INCR i then some (tabGet F.RECKON_D_INCR_INCR.dflt regs (F.RECKON_D_INCR_INCR.key i 0))
    else none
  { nodes := l.nodes, berths := l.berths, pool := l.pool, testFields := testFieldsOf l regs, bumpSvn := l.bump,
    svn := l.svn, incrA := incr 0, incrB := incr 1 }

/-- Absorbed ports report MODE 0 and ABSORBED 1 (R258). -/
def absorbPorts (d : Device) : Device :=
  (List.range 32).foldl (fun d p => if portAbsorbed p d then d.ru F.PORT_MODE_ABSORBED 1 p else d) d

/-- Full meters and shapers, in use or not, from the chart's settings (R347, R364). -/
def fillTokens (d : Device) : Device :=
  let d := (List.range 2048).foldl (fun d m =>
    if d.rg F.COMPASS_METER_CFG_BURST m ≠ 0 then
      d.setMeter m { tokens := d.rg F.COMPASS_METER_CFG_BURST m * packetTok, last := d.nowStamp }
    else d) d
  (List.range 32).foldl (fun d p => (List.range 8).foldl (fun d c =>
    if d.rg F.HELM_SHAPER_CFG_BURST p c ≠ 0 then
      d.setCls p c { d.cls p c with tokens := ((d.rg F.HELM_SHAPER_CFG_BURST p c * packetTok : Nat) : Int), last := d.raw }
    else d) d) d

/-- The operational list that a chart's HELM_GATE_STATUS and HELM_GATE_OPER records give port `p`. -/
def operList (p : Nat) (d : Device) : GateList :=
  { adminList p d with
    en := d.rb F.HELM_GATE_STATUS_OPER_GATE_EN p, tb := d.rg F.HELM_GATE_STATUS_OPER_TB p,
    entries := (List.range (d.rg F.HELM_GATE_STATUS_OPER_LIST_LEN p)).map
      fun e => (d.rg F.HELM_GATE_OPER_STATES p e, d.rg F.HELM_GATE_OPER_INTERVAL_NS p e) }

/-- The chart's gate lists become operational (R368). -/
def gatesInForce (l : Loading) (d : Device) : Device :=
  (List.range 32).foldl (fun d p =>
    if d.isUplink p then
      let g := if l.names F.HELM_GATE_STATUS_OPER_GATE_EN p then operList p d else adminList p d
      gateLoad p (d.setPort p { d.port p with oper := g })
    else d) d

/-- Status entries as a wipe leaves them: both ages 255, SPARE on a spare berth (R127, R156). -/
def cargoStart (d : Device) : Device :=
  let entry := fun (e : BerthEntry) => leBytes 8 (255 * 2 ^ 56 + 255 * 2 ^ 48 + flagBit e.spare 7)
  let inp := memPatch 0 [] 0 (d.chart.berths.flatMap entry)
  let out := d.chart.berths.foldl (fun m e => memPatch 0 m e.outOff (safeValues e d)) []
  { d with cargo.inFill := inp, cargo.inStable := inp, cargo.inSpare := inp, cargo.send := { mem := out },
           cargo.ready := { mem := out }, cargo.fill := { mem := out } }

/-- The chart's INCR of domains A and B is folded (R55). -/
def chartIncrs (d : Device) : Device :=
  let d := match d.chart.incrA with
    | some v => reckonChartIncr .a v d
    | none => d
  match d.chart.incrB with
  | some v => reckonChartIncr .b v d
  | none => d

/-- Every block takes up the chart; bank 0 is active, and bank 1 is left with a miss action of DROP (R343). -/
def chartBlocks (l : Loading) (d : Device) : Device :=
  let d := ({ d with compass.bank0 := l.rules, trim.evalFrom := d.raw }.ru F.COMPASS_BANK_ACTIVE 0).ru
    F.COMPASS_MISS1_ACTION (2 ^ 63)
  let d := chartIncrs (rwaTake (absorbPorts d))
  cargoStart (gatesInForce l (fillTokens d))

/-- Microseconds of `n` raw ticks. -/
def ticksUs (n : Nat) : Nat := min (n / 800) (2 ^ 32 - 1)

/-- CHART_STATUS and CHART_TIMING of a chart that has loaded. -/
def chartReport (l : Loading) (d : Device) : Device :=
  let d := (d.ru F.CHART_STATUS_SEQ l.seq).ru F.CHART_STATUS_SVN l.svn
  let d := (d.ru F.CHART_STATUS_SLOT l.slot).ru F.CHART_TIMING_TO_MUSTER_US (ticksUs d.raw.toNat)
  d.ru F.CHART_TIMING_LOAD_US (ticksUs (d.since d.boot.from_))

/-- Ports with a role leave IDLE (R266). -/
def portsStart (d : Device) : Device :=
  (List.range 32).foldl (fun d p =>
    let d := peInitial p d
    let serves := d.rg F.PILOT_ARM_CFG_ROLE p != 0 && !d.rb F.PORT_MODE_ABSORBED p
    if (d.port p).st == .idle && serves then portTo p .start d else d) d

/-- The chart `l` has passed its checks with the register values `t`: the device enters MUSTER (R504). -/
def chartLoaded (l : Loading) (t : Tab Nat) (d : Device) : Device :=
  let t := limitsSet l t
  let d := tioInForce d (headingChange (fun d => capTake (regsInForce t d))
    { d with boot.step := .idle, boot.load := none, boot.cands := [] })
  let d := chartBlocks l (chartReport l { d with chart := chartTables l t, netCfg := l.net })
  musterEnd (portsStart (musterStart (devGo .muster d)))

/-- CHART_CHECK_DONE (R497, R501). -/
def chartCheckDone (d : Device) : Device :=
  if d.st ≠ .load ∨ d.boot.step ≠ .check then d
  else
    match d.boot.load with
    | none => d
    | some l =>
      if chartCheck l l.final then chartLoaded l l.final d
      else if chartCheck l l.regs then chartLoaded l l.regs (d.ru F.CHART_STATUS_OVERRIDE_SKIPPED 1)
      else slotFail 7 0 d

/-! ### Entry into LOAD -/

/-- LOAD starts from R491: the flash is reset, SFDP is read, and the persistent region is repaired (R512). -/
def loadStart (n : NonVol) (d : Device) : NonVol × Device :=
  let s := d.boot.sfdp
  let d := { d with boot.dummy := 0 }.emit .flashReset
  let d := (d.ru F.CHART_FLASH_JEDEC_ID s.jedecId.toNat).ru F.CHART_FLASH_SIZE_LOG2 s.sizeLog2
  let d := (d.ru F.CHART_FLASH_MODE 0).ru F.CHART_FLASH_CLOCK_MHZ 25
  let size := match flashHeader n.flash s.sizeLog2 with
    | some h => h.slotSize
    | none => 0
  let d := { d with boot.slotSize := size, boot.load := none, boot.cands := [] }
  match n.lifecycle with
  | .retired =>
    (n, ({ d with boot.step := .retiredIdle }.ru F.GLOBAL_STATUS_CHART_FAULT 1).ru F.CHART_STATUS_ERASING 1)
  | .blank | .provisioned | .fielded =>
    let m := if size = 0 then n.flash else persistRepair (persistBase size) n.flash
    let d := ({ d with boot.step := .header }.ru F.GLOBAL_STATUS_CHART_FAULT 0).ru F.CHART_STATUS_HEADER_FAULT 0
    ({ n with flash := m }, persistReport size m d)

/-- WIPE_COMPLETE: the device enters LOAD (R24, R491), Trim's request of 800 mV standing from then on at the latest
(R392). -/
def wipeComplete (flash : Sfdp) (n : NonVol) (d : Device) : NonVol × Device :=
  if d.st ≠ .wipe then (n, d)
  else
    let d := trimBoot (devGo .load d)
    loadStart n { d with boot.sfdp := flash, boot.from_ := d.raw }

/-- RETIRED_ERASE_DONE (R516): both header copies, both slots and the persistent region are erased. -/
def retiredEraseDone (n : NonVol) (d : Device) : NonVol × Device :=
  if d.st ≠ .load ∨ d.boot.step ≠ .retiredIdle ∨ d.rb F.CHART_STATUS_ERASING = false then (n, d)
  else
    let m := flashErase n.flash 0 0x20000
    let m := if d.boot.slotSize = 0 then m else flashErase m 0x100000 (2 * d.boot.slotSize + 2 ^ 20)
    ({ n with flash := m }, d.ru F.CHART_STATUS_ERASING 0)

/-! ### Meanings -/

/-- WIPE_COMPLETE (R24). -/
def execWipeComplete (flash : Sfdp) (s : State) : Host.Outcome State Fault Refusal := onAll (wipeComplete flash) s
/-- FLASH_HEADER_READ_DONE (R493). -/
def execFlashHeaderReadDone (s : State) : Host.Outcome State Fault Refusal := onDevNv flashHeaderReadDone s
/-- SLOT_READ_DONE (R504). -/
def execSlotReadDone (readOk : Bool) (s : State) : Host.Outcome State Fault Refusal := onDevNv (slotReadDone readOk) s
/-- SLOT_VERIFY_DONE (R499). -/
def execSlotVerifyDone (s : State) : Host.Outcome State Fault Refusal := onDevNv slotVerifyDone s
/-- CHART_CHECK_DONE (R497). -/
def execChartCheckDone (s : State) : Host.Outcome State Fault Refusal := onDev chartCheckDone s
/-- RETIRED_ERASE_DONE (R516). -/
def execRetiredEraseDone (s : State) : Host.Outcome State Fault Refusal := onAll retiredEraseDone s

end Sys2Proof.Machine
end

