-- ==== Sys2Proof/Machine/Staging.lean ====
section
/-!
DEFINITION. Staged chart updates, persistent records and the life cycle (R506 to R517): the admin commands 0x20 to 0x28,
and the HALT_LOG record.
The choices it makes stand under notes/assumptions: 7 (DESIGN CHOICE), 8 (DESIGN CHOICE), 76 (DEDUCED), 77
(DEDUCED), 78 (DEDUCED), 79 (DEDUCED).
-/

namespace Sys2Proof.Machine

/-- Statuses with which event 10 is raised (R506, R508). -/
def stageStatus (st : Nat) : Bool := st == 0x62 || st == 0x63 || st == 0x64 || st == 0x65

/-- The answer of a chart command: its status and results, with event 10 where the status calls for it. -/
def chartAnswer (st : Nat) (b : CompBody) (n : NonVol) (d : Device) : Nat × CompBody × NonVol × Device :=
  (st, b, n, evRaiseIf (stageStatus st) 10 d)

/-- Bytes of flash whose programming failed: each a value the spec does not give. -/
def freeBytes : Nat → Device → Bytes × Device
  | 0, d => ([], d)
  | n + 1, d =>
    let r := d.free
    let x := freeBytes n r.2
    (r.1.truncate 8 :: x.1, x.2)

/-- Flash bytes whose program or erase failed hold values that the spec does not give. -/
def flashFail (a len : Nat) (n : NonVol) (d : Device) : NonVol × Device :=
  let x := freeBytes len d
  ({ n with flash := flashProgram n.flash a x.1 }, x.2)

/-- Whether slot `s` is the running one (R507). -/
def slotRuns (s : Nat) (d : Device) : Bool := d.charted && d.rg F.CHART_STATUS_SLOT == s

/-- Bytes of the erase sectors that `len` covers. -/
def sectorsOf (len : Nat) : Nat := (len + sectorBytes - 1) / sectorBytes * sectorBytes

/-- STAGE_BEGIN. -/
def stageBegin (flashOk : Bool) (n : NonVol) (d : Device) : NonVol × Device :=
  adminStepNv 0x20 (fun _ => false) (fun b n d =>
    let s := leWord b 0 % 2
    let len := leWord b 1 % 2 ^ 32
    let size := d.boot.slotSize
    let span := sectorsOf len
    if slotRuns s d then chartAnswer 0x60 {} n d
    else if size < len then chartAnswer 0x61 {} n d
    else if !flashOk then
      let x := flashFail (slotBase size s) span n { d with boot.stage := none }
      chartAnswer 0x64 {} x.1 x.2
    else chartAnswer 0 {} { n with flash := flashErase n.flash (slotBase size s) span }
      { d with boot.stage := some { slot := s, length := len, written := 0 } }) n d

/-- Whether LEN of a STAGE_WRITE entry lies outside 1 to 1,048,576. -/
def stageLenBad (b : Bytes) : Bool := decide (leWord b 3 % 2 ^ 21 = 0 ∨ 1048576 < leWord b 3 % 2 ^ 21)

/-- STAGE_WRITE (R507): `data` is what the read of HOST_ADDR returned. It waits while PF0 may not read (R409). -/
def stageWrite (data : HostRead) (flashOk : Bool) (n : NonVol) (d : Device) : NonVol × Device :=
  if !d.bme then (n, d)
  else adminStepNv 0x21 stageLenBad (fun b n d =>
    let off := leWord b 2 % 2 ^ 32
    let len := leWord b 3 % 2 ^ 21
    match d.boot.stage with
    | none => chartAnswer 0x62 {} n d
    | some s =>
      if off ≠ s.written ∨ s.length < off + len then chartAnswer 0x61 {} n d
      else
        let d := d.emitRead (leWord b 1) len
        match data with
        | .failed _ => chartAnswer 0x65 {} n d
        | .ok bs =>
          let a := slotBase d.boot.slotSize s.slot + off
          if flashOk then chartAnswer 0 {} { n with flash := flashProgram n.flash a (bs.take len) }
            { d with boot.stage := some { s with written := off + len } }
          else
            let x := flashFail a len n { d with boot.stage := none }
            chartAnswer 0x64 {} x.1 x.2) n d

/-- What STAGE_VERIFY finds of slot `s`: its fault code (R508). -/
def stagedFault (n : NonVol) (size s : Nat) : Nat :=
  let h := slotHeader n size s
  let base := slotBase size s
  if !h.ok then 1
  else match sectionsOf (flashRead n.flash (base + 0x40) h.imageLen) with
    | .inl _ => 6
    | .inr _ =>
      slotVerify n (flashRead n.flash (base + 0x40 + h.imageLen) 97) (flashRead n.flash (base + 0xC0 + h.imageLen) 96)
        (Config.sha384 (flashRead n.flash base (0xC0 + h.imageLen))) h.svn

/-- STAGE_VERIFY (R508): when it completes OK in LOAD under R503, LOAD starts again. -/
def stageVerify (n : NonVol) (d : Device) : NonVol × Device :=
  let again := d.st == .load && d.boot.step == .fault
  adminStepNv 0x22 (fun _ => false) (fun _ n d =>
    match d.boot.stage with
    | none => chartAnswer 0x62 {} n d
    | some s =>
      let h := slotHeader n d.boot.slotSize s.slot
      let f := stagedFault n d.boot.slotSize s.slot
      let body : CompBody := { r0 := f, r1 := h.seq * 2 ^ 32 + h.svn % 256 }
      let d := { d with boot.stage := none }
      if f ≠ 0 then chartAnswer 0x63 body n d
      else
        let d := evRaise 9 d
        if again then
          let y := loadStart n d
          chartAnswer 0 body y.1 y.2
        else chartAnswer 0 body n d) n d

/-- SLOT_INVALIDATE: the slot's first sector is erased. -/
def slotInvalidate (flashOk : Bool) (n : NonVol) (d : Device) : NonVol × Device :=
  adminStepNv 0x23 (fun _ => false) (fun b n d =>
    let s := leWord b 0 % 2
    let a := slotBase d.boot.slotSize s
    if slotRuns s d then chartAnswer 0x60 {} n d
    else if d.boot.slotSize = 0 then chartAnswer 0x64 {} n d
    else if flashOk then chartAnswer 0 {} { n with flash := flashErase n.flash a sectorBytes } d
    else
      let x := flashFail a sectorBytes n d
      chartAnswer 0x64 {} x.1 x.2) n d

/-! ### Persistent records (R511, R513) -/

/-- Whether host software may write a key (Table 17-13). -/
def persistKeyOk (k : Nat) : Bool := decide (1 ≤ k ∧ k ≤ 0xEFFF)

/-- PERSIST_WRITE: `data` is what the read of HOST_ADDR returned; LENGTH 0 reads nothing. -/
def persistWrite (data : HostRead) (flashOk : Bool) (n : NonVol) (d : Device) : NonVol × Device :=
  if !d.bme then (n, d)
  else adminStepNv 0x24 (fun b => decide (4080 < leWord b 2 % 4096)) (fun b n d =>
    let key := leWord b 0 % 2 ^ 16
    let len := leWord b 2 % 4096
    let size := d.boot.slotSize
    let base := persistBase size
    if !persistKeyOk key then chartAnswer 0x66 {} n d
    else
      let d := if len = 0 then d else d.emitRead (leWord b 1) len
      match (if len = 0 then HostRead.ok [] else data) with
      | .failed _ => chartAnswer 0x65 {} n d
      | .ok bs =>
        let l := regionRecords n.flash base
        if size = 0 then chartAnswer 0x64 {} n d
        else if persistLimit < governingBytes l - governedBytes key l + (16 + up16 len) then chartAnswer 0x67 {} n d
        else
          let m := persistPut base key (bs.take len) flashOk n.flash
          let d := persistReport size m d
          if flashOk then chartAnswer 0 {} { n with flash := m } (evRaise 11 d)
          else chartAnswer 0x64 {} { n with flash := m } d) n d

/-- PERSIST_READ: up to LENGTH bytes of the governing record go to HOST_ADDR. -/
def persistRead (n : NonVol) (d : Device) : Device :=
  if !d.bme then d
  else adminStep 0x25 false (fun _ => false) (fun b d =>
    let found := if d.boot.slotSize = 0 then none
      else governing (leWord b 0 % 2 ^ 16) (regionRecords n.flash (persistBase d.boot.slotSize))
    match found with
    | none => (0x68, {}, d)
    | some r =>
      let bs := r.payload.take (leWord b 2 % 4096)
      if r.payload = [] then (0x68, {}, d)
      else (0, { r0 := r.payload.length, r1 := r.gen }, if bs = [] then d else d.emitWrite (leWord b 1) bs)) d

/-- SLOT_SIZE in bytes, by which the persistent region is found: that of this boot, or of the flash header as it stands
when the device has read none yet, as in a HALT entered from WIPE. DEDUCED: the header then says how large the flash is.
-/
def logSlotSize (n : NonVol) (d : Device) : Nat :=
  if d.boot.slotSize ≠ 0 then d.boot.slotSize
  else match flashHeader n.flash 40 with
    | some h => h.slotSize
    | none => 0

/-- HALT_LOG_WRITE (R514): without a valid flash header there is no persistent region to write to. -/
def haltLogWrite (n : NonVol) (d : Device) : NonVol × Device :=
  match d.haltLog with
  | none => (n, d)
  | some h =>
    let bs := leBytes 1 h.cause ++ leBytes 1 h.left ++ leBytes 6 0 ++ leBytes 8 h.raw.toNat ++ leBytes 8 h.crossing
    let size := logSlotSize n d
    if size = 0 then (n, { d with haltLog := none })
    else
      let m := persistPut (persistBase size) 0xF000 bs true n.flash
      ({ n with flash := m }, persistReport size m { d with haltLog := none })

/-! ### Life cycle (R515 to R517) -/

/-- A committed transition to `to`: completion, event 451, and WIPE, at once or at the next crossing boundary (R26). -/
def lifecycleCommit (e : EntryRef) (d : Device) : Device :=
  let d := evRaise 451 (entryComplete e 0 {} d)
  if crossingState d.st then { d with wipeDue := true } else wipeCommit d

/-- A life-cycle command of opcode `op` that may run: `run` gives a refusing status, or the fuses after the transition. -/
def lifecycleStep (op : Nat) (host : Bytes → Option Nat) (run : Bytes → NonVol → Nat ⊕ NonVol) (fuseOk : Bool) (n : NonVol)
    (d : Device) : NonVol × Device :=
  match adminPick op false (fun _ => false) d with
  | .inl d => (n, d)
  | .inr e =>
    let r := entryStart adminQ e 0 d
    let d := match host e.bytes with
      | some len => r.2.emitRead (leWord e.bytes 1) len
      | none => r.2
    match run e.bytes n with
    | .inl st => (n, entryComplete r.1 st {} (evRaiseIf (stageStatus st) 10 d))
    | .inr m => if fuseOk then (m, lifecycleCommit r.1 d) else (n, entryComplete r.1 0x6B {} d)

/-- LC_PROVISION: KEY_HASH, then the state bits. -/
def lcProvision (keyHash : HostRead) (fuseOk : Bool) (n : NonVol) (d : Device) : NonVol × Device :=
  if !d.bme then (n, d)
  else lifecycleStep 0x26 (fun _ => if n.lifecycle = .blank then some 48 else none) (fun _ n =>
    match n.lifecycle with
    | .blank =>
      match keyHash with
      | .ok bs => .inr { n with fuses.provisioned := 3, keyHash := BitVec.ofNat 384 (beNat (bs.take 48)) }
      | .failed _ => .inl 0x65
    | .provisioned | .fielded | .retired => .inl 0x69) fuseOk n d

/-- LC_FIELD. -/
def lcField (fuseOk : Bool) (n : NonVol) (d : Device) : NonVol × Device :=
  lifecycleStep 0x27 (fun _ => none) (fun _ n =>
    match n.lifecycle with
    | .provisioned => .inr { n with fuses.fielded := 3 }
    | .blank | .fielded | .retired => .inl 0x69) fuseOk n d

/-- Whether an authorisation record verifies (R516): this device's UID, the value 0x28, and a signature over the digest of
its first 16 bytes by the key whose hash is fused. -/
def authOk (n : NonVol) (bs : Bytes) : Bool :=
  bs.length == 112 && leNat (slice bs 0 8) == n.uid.toNat && leNat (slice bs 8 4) == 0x28
    && Config.fusedKeyVerifies n.keyHash (Config.sha384 (bs.take 16)) (slice bs 16 96)

/-- LC_RETIRE: `auth` is what the read of HOST_ADDR returned; in BLANK nothing is read. -/
def lcRetire (auth : HostRead) (fuseOk : Bool) (n : NonVol) (d : Device) : NonVol × Device :=
  if !d.bme then (n, d)
  else lifecycleStep 0x28 (fun _ => if n.lifecycle = .provisioned ∨ n.lifecycle = .fielded then some 112 else none)
    (fun b n =>
      match n.lifecycle with
      | .blank => if leWord b 1 = 0 then .inr { n with fuses.retired := 3 } else .inl 0x69
      | .provisioned | .fielded =>
        match auth with
        | .failed _ => .inl 0x65
        | .ok bs => if authOk n bs then .inr { n with fuses.retired := 3 } else .inl 0x6A
      | .retired => .inl 0x69) fuseOk n d

/-! ### Meanings -/

/-- STAGE_BEGIN (R506). -/
def execStageBegin (flashOk : Bool) (s : State) : Host.Outcome State Fault Refusal := onAll (stageBegin flashOk) s
/-- STAGE_WRITE (R507). -/
def execStageWrite (data : HostRead) (flashOk : Bool) (s : State) : Host.Outcome State Fault Refusal :=
  onAll (stageWrite data flashOk) s
/-- STAGE_VERIFY (R508). -/
def execStageVerify (s : State) : Host.Outcome State Fault Refusal := onAll stageVerify s
/-- SLOT_INVALIDATE (R506). -/
def execSlotInvalidate (flashOk : Bool) (s : State) : Host.Outcome State Fault Refusal := onAll (slotInvalidate flashOk) s
/-- PERSIST_WRITE (R511). -/
def execPersistWrite (data : HostRead) (flashOk : Bool) (s : State) : Host.Outcome State Fault Refusal :=
  onAll (persistWrite data flashOk) s
/-- PERSIST_READ (R506). -/
def execPersistRead (s : State) : Host.Outcome State Fault Refusal := onDevNv persistRead s
/-- LC_PROVISION (R516). -/
def execLcProvision (keyHash : HostRead) (fuseOk : Bool) (s : State) : Host.Outcome State Fault Refusal :=
  onAll (lcProvision keyHash fuseOk) s
/-- LC_FIELD (R516). -/
def execLcField (fuseOk : Bool) (s : State) : Host.Outcome State Fault Refusal := onAll (lcField fuseOk) s
/-- LC_RETIRE (R516). -/
def execLcRetire (auth : HostRead) (fuseOk : Bool) (s : State) : Host.Outcome State Fault Refusal :=
  onAll (lcRetire auth fuseOk) s
/-- HALT_LOG_WRITE (R514). -/
def execHaltLogWrite (s : State) : Host.Outcome State Fault Refusal := onAll haltLogWrite s

end Sys2Proof.Machine
end

