-- ==== Sys2Proof/Machine/Resets.lean ====
section
/-!
DEFINITION. Power, resets and the host link (Table 01-7, R28, R409, R449, R486, R518, R519, R529, R531, R532): the whole
device in and out of RESET, PERST# and Function Level Resets, Bus Master Enable, and writes to configuration space.
The choices it makes stand under notes/assumptions: 10 (DESIGN CHOICE), 12 (DEDUCED), 21 (DEDUCED), 22 (DEDUCED), 23
(PRESUMED), 24 (DEDUCED), 30 (PRESUMED), 31 (DEDUCED).
-/

namespace Sys2Proof.Machine

/-! ### The whole device -/

/-- How a group of pins behaves in a device state (Table 18-6); a SerDes transmitter that serves its port is idle until
the port enters START, and the PCIe link trains when PERST_N is high. -/
def pinDrive (g : PinGroup) (st : DevState) : PinDrive :=
  match st, g with
  | .off, _ => .highZ
  | _, .serdesRx => .terminated
  | _, .tdo => .driven
  | .reset, .serdesTx | .reset, .pcie => .electricalIdle
  | .reset, .flash | .reset, .avs | .reset, .smb => .highZ
  | _, _ => .driven

/-- The groups of pins of Table 18-6. -/
def pinGroups : List PinGroup := [.serdesTx, .serdesRx, .pcie, .flash, .avs, .smb, .tdo]

/-- The device goes from state `old` to the state it is in, and the pins that behave otherwise now change. -/
def pinsGo (old : DevState) (d : Device) : Device :=
  pinGroups.foldl (fun d g => if pinDrive g d.st = pinDrive g old then d else d.emit (.pins g (pinDrive g d.st))) d

/-- A device that holds nothing: what the pins and the world outside keep, at raw count 0. -/
def freshDevice (st : DevState) (d : Device) : Device :=
  { st := st, pcie.perst := d.pcie.perst, net.refLost := d.net.refLost, tap := tapLeave d.tap, freeCtr := d.freeCtr,
    out := d.out }

/-- The device enters RESET (Table 01-7): frames in flight are cut off, transmitters and pins go idle. -/
def resetEnter (d : Device) : Device :=
  if d.st = .off ∨ d.st = .reset then d
  else
    let d := (List.range 32).foldl (fun d p => if (d.port p).st = .idle then d else portTo p .idle d) d
    let e := pinsGo d.st (freshDevice .reset (tioChangeAll (fun d => { d with st := .reset }) (tioStop d)))
    tapEnter { e with tap := if d.st = .halt then tapLeave d.tap else d.tap }

/-- POWER_ON: the rails rise with PWR_GOOD low. -/
def powerOn (d : Device) : Device := if d.st = .off then pinsGo .off (freshDevice .reset d) else d

/-- RESET_ASSERT: a low level of at least 100 ns (R531). -/
def resetAssert (lowNs : Nat) (d : Device) : Device := if 100 ≤ lowNs then resetEnter d else d

/-- RESET_RELEASE: the raw counter starts at 0 and WIPE begins; REF_SEL reports the reference found (R62), and Trim
requests 800 mV (R392). -/
def resetRelease (ref10 : Bool) (d : Device) : Device :=
  if d.st = .reset then trimBoot (pinsGo .reset ((freshDevice .wipe d).rub F.RECKON_STATUS_REF_SEL ref10)) else d

/-- POWER_DOWN: the rails fall after PWR_GOOD (R529); the TAP loses its instruction with them. -/
def powerDown (d : Device) : Device := if d.st = .reset then { pinsGo .reset (freshDevice .off d) with tap := 0x01 } else d

/-- WARM_RESET: a write of GLOBAL_CTRL with the right KEY is SYS_RESET_N held low for 1 µs (R518). -/
def warmReset (v : Word) (d : Device) : Device :=
  if bits v.toNat 63 48 = 0x9640 ∧ bit v.toNat 0 = true then
    resetRelease (d.rb F.RECKON_STATUS_REF_SEL) (resetAssert 1000 d)
  else d

/-! ### The host interface (R28, R449) -/

/-- Registers of the block at [lo, hi) back to their reset values; chart fields keep the chart's (R11). -/
def blockClear (lo hi : Nat) (d : Device) : Device :=
  { d with regs := d.regs.filter fun e => decide (e.1 / 64 < lo ∨ hi ≤ e.1 / 64) || isChartKey e.1 }

/-- The own ACYCLIC frames that wait are discarded without completions. -/
def acyclicDrop (d : Device) : Device :=
  let bs := d.cross.branches.map fun b => (b.1, { b.2 with acyQueue := [] })
  { d with cross.branches := bs.filter fun b => b.2 != {} }

/-- What PERST#, a Function Level Reset of PF0 and loss of the data link do (R449, Table 15-2, R169, R379, R486, R509). -/
def hostReset (d : Device) : Device :=
  let d := { d with hq := { createOk := d.hq.createOk }, tender := [], tenderTurn := 16, writeTurn := 0 }
  let d := acyclicDrop (dropHostFrames d)
  let d := blockClear 0xC00000 0xD00000 (blockClear 0xB00000 0xC00000 d)
  let d := cargoDetach { d with cargo.attachReq := none, boot.stage := none }
  let d := evResetPf0 d
  { d with pcie.pf0 := {}, pcie.linkUp := false }

/-- PERST_ASSERT: a low level of at least 100 ns; in RESET it has no effect but its level (R531, R532). PCI Express resets
both functions. -/
def perstAssert (lowNs : Nat) (d : Device) : Device :=
  if lowNs < 100 then d
  else
    let d := { d with pcie.perst := true }
    if d.st = .off ∨ d.st = .reset then d else { evDropHeld .pf1 (hostReset d) with pcie.pf1 := {} }

/-- PERST_RELEASE (R532). -/
def perstRelease (d : Device) : Device := { d with pcie.perst := false }

/-- PCIE_LINK_UP: training ends; it does not begin in RESET, nor while PERST_N is low (R532, Table 18-6). -/
def pcieLinkUp (d : Device) : Device := if d.pcie.perst then d else { d with pcie.linkUp := true }

/-- FLR_PF1 (R409, R486): PF1's configuration space and its vectors. -/
def flrPf1 (d : Device) : Device := { evDropHeld .pf1 d with pcie.pf1 := {} }

/-! ### Bus Master Enable and configuration writes (R10, R409, R482) -/

/-- A change of a function's state that may let it issue requests, or stop it: what waits goes on, and Cargo transfers
fail (R409). -/
def masterChange (fn : Fn) (x : FnState) (d : Device) : Device :=
  let was := (d.fnState fn).master
  let d := d.setFn fn x
  match fn with
  | .pf1 => pendingSend .pf1 d
  | .pf0 =>
    if x.master then pendingSend .pf0 (tenderPump (fetchAll (d.hq.cqs.foldl (fun d c => cqDrain c.1 d) d)))
    else if was then handoverNoBme d else d

/-- BUS_MASTER_ENABLE_CHANGE. -/
def busMasterChange (fn : Fn) (en : Bool) (d : Device) : Device :=
  masterChange fn { d.fnState fn with busMaster := en } d

/-- Size of BAR `2k` of a function (Table 14-2). -/
def barSize (fn : Fn) (k : Nat) : Nat :=
  match fn, k with
  | .pf0, 0 => 0x2000000
  | .pf1, 0 => 0x400000
  | .pf1, 1 => 0x800000
  | .pf0, 1 | .pf0, 2 | .pf1, 2 => 0x10000
  | _, _ => 0

/-- The dword at offset `o` of a function's configuration space: the identity and class of Table 14-1, the BARs of Table
14-2, each 64-bit and non-prefetchable, and what was written elsewhere. PRESUMED: the offsets, and Bus Master Enable in
bit 2 of the command register, are those of PCI Express. -/
def cfgWord (fn : Fn) (o : Nat) (d : Device) : Nat :=
  let f := d.fnState fn
  let x := (tabGet 0 f.cfg o).toNat
  if o = 0 then (match fn with | .pf0 => 0x9640 | .pf1 => 0x9641) * 2 ^ 16 + Config.vendorId.toNat
  else if o = 4 then x / 8 * 8 + x % 4 + flagBit f.busMaster 2
  else if o = 8 then 0x028000 * 2 ^ 8 + Config.revisionId.toNat
  else if o = 0x10 ∨ o = 0x18 ∨ o = 0x20 then
    let n := barSize fn ((o - 0x10) / 8)
    x / n * n + 4
  else x

/-- PCIE_CONFIG_WRITE. The payload and read sizes are those of Table 14-1 at most. -/
def pcieConfigWrite (fn : Fn) (t : CfgTarget) (v : BitVec 32) (d : Device) : Device :=
  let f := d.fnState fn
  match t with
  | .msixControl en mask => pendingSend fn (d.setFn fn { f with msixEnable := en, funcMask := mask })
  | .ptmControl en => d.setFn fn { f with ptmEnable := en }
  | .deviceControl payload read =>
    d.setFn fn { f with maxPayload := min 512 (128 * 2 ^ payload), maxRead := min 4096 (128 * 2 ^ read) }
  | .powerState d3hot => masterChange fn { f with d3hot := d3hot } d
  | .aerStatus => d.setFn fn { f with aer := f.aer &&& (2 ^ 32 - 1 - v.toNat) }
  | .aerSeverity => d.setFn fn { f with aerFatal := v.toNat }
  | .configSpace o =>
    let d := d.setFn fn { f with cfg := tabSet 0 f.cfg o v }
    if o = 4 then busMasterChange fn (v.toNat.testBit 2) d else d
  | .msixTable vec k => msixTableWrite fn vec k v d
  | .pendingBits _ => d

/-! ### Meanings -/

/-- A command that also acts in OFF and RESET. -/
def onAny (f : Device → Device) (s : State) : Host.Outcome State Fault Refusal := .next { s with dev := f s.dev }

/-- POWER_ON (R24). -/
def execPowerOn (s : State) : Host.Outcome State Fault Refusal := onAny powerOn s
/-- RESET_ASSERT (R24, R531). -/
def execResetAssert (_pin : ResetPin) (lowNs : Nat) (s : State) : Host.Outcome State Fault Refusal :=
  onAny (resetAssert lowNs) s
/-- RESET_RELEASE (R24). -/
def execResetRelease (ref10 : Bool) (s : State) : Host.Outcome State Fault Refusal := onAny (resetRelease ref10) s
/-- POWER_DOWN (R529). -/
def execPowerDown (s : State) : Host.Outcome State Fault Refusal := onAny powerDown s
/-- WARM_RESET (R518). -/
def execWarmReset (v : Word) (s : State) : Host.Outcome State Fault Refusal := onHost (warmReset v) s
/-- PERST_ASSERT (R449). -/
def execPerstAssert (lowNs : Nat) (s : State) : Host.Outcome State Fault Refusal := onAny (perstAssert lowNs) s
/-- PERST_RELEASE (R532). -/
def execPerstRelease (s : State) : Host.Outcome State Fault Refusal := onAny perstRelease s
/-- PCIE_LINK_UP (R23). -/
def execPcieLinkUp (s : State) : Host.Outcome State Fault Refusal := onDev pcieLinkUp s
/-- FLR_PF0 (R409). -/
def execFlrPf0 (s : State) : Host.Outcome State Fault Refusal := onHost hostReset s
/-- FLR_PF1 (R409). -/
def execFlrPf1 (s : State) : Host.Outcome State Fault Refusal := onHost flrPf1 s
/-- BUS_MASTER_ENABLE_CHANGE (R409). -/
def execBusMasterEnableChange (fn : Fn) (en : Bool) (s : State) : Host.Outcome State Fault Refusal :=
  onHost (busMasterChange fn en) s
/-- PCIE_CONFIG_WRITE (R10). -/
def execPcieConfigWrite (fn : Fn) (t : CfgTarget) (v : BitVec 32) (s : State) : Host.Outcome State Fault Refusal :=
  onHost (pcieConfigWrite fn t v) s

end Sys2Proof.Machine
end

