-- ==== Sys2Proof/Machine/Fabric.lean ====
section
/-!
DEFINITION. The fabric inside the core and the SRAM error code (R18 to R22, R403, Tables 01-5 and 13-7).
The choices it makes stand under notes/assumptions: 7 (DESIGN CHOICE), 26 (DESIGN CHOICE), 27 (DEDUCED), 28 (DESIGN
CHOICE), 43 (DEDUCED).
-/

namespace Sys2Proof.Machine

/-! ### Fabric links (R18 to R20) -/

/-- Link `l`. -/
def Device.link (d : Device) (l : Nat) : FabricLink := tabGet {} d.core.links l
/-- Link `l` replaced. -/
def Device.setLink (d : Device) (l : Nat) (x : FabricLink) : Device :=
  { d with core.links := tabSet {} d.core.links l x }

/-- Region of a link (Table 13-7). DESIGN CHOICE: link l lies in region l mod 16. -/
def linkRegion (l : Nat) : Nat := l % 16

/-- FABRIC_FAIL_LIMIT (R20): a count of 8 is HALT with cause 1. -/
def fabricFailLimit (l : Nat) (d : Device) : Device := if 8 ≤ (d.link l).fails then halt 1 d else d

/-- The receiving stage accepts a flit: the count returns to 0. -/
def flitGood (l : Nat) (data : Bytes) (d : Device) : Device :=
  d.setLink l { d.link l with fails := 0, accepted := some data }

/-- A failed reception: the sender is told to replay, the region counts it, and the count advances (R19, R20, R403). -/
def flitBad (l : Nat) (d : Device) : Device :=
  let x := d.link l
  let g := linkRegion l
  let n := x.fails + 1
  let d := (d.setLink l { x with fails := n }).rsat F.TRIM_FABRIC_REPLAYS 1 g
  let d := (d.ru F.TRIM_FABRIC_MAX_RUN (max (d.rg F.TRIM_FABRIC_MAX_RUN g) (min n 8)) g).emit (.replay l)
  fabricFailLimit l (if n = 4 then trimEvent 7 d else d)

/-- The sending stage sends a flit for the first time: its buffer keeps the last 32, and a replay that is owed grows by
it (R19). -/
def flitSent (sent : Bytes) (owed : Nat) (x : FabricLink) : FabricLink :=
  { x with buffer := (sent :: x.buffer).take 32, owed := min owed 32 }

/-- A flit sent for the first time arrives: its CRC decides (R18), unless the receiver discards it because a replay is
owed (R19). DESIGN CHOICE: a discarded flit is no reception of R20, and leaves the count of failed receptions alone. -/
def flitFirst (l : Nat) (sent data : Bytes) (good : Bool) (d : Device) : Device :=
  let x := d.link l
  if 0 < x.owed then d.setLink l (flitSent sent (x.owed + 1) x)
  else if good then flitGood l data (d.setLink l (flitSent sent 0 x))
  else flitBad l (d.setLink l (flitSent sent 1 x))

/-- The next flit of a replay arrives: the sender re-sends the failing flit and all after it, oldest first, and again from
this one on where it fails too (R19). -/
def flitReplayed (l : Nat) (data : Bytes) (good : Bool) (d : Device) : Device :=
  let x := d.link l
  if x.owed = 0 then d
  else
    let d := d.emit (.resent l (x.buffer[x.owed - 1]?))
    if good then flitGood l data (d.setLink l { x with owed := x.owed - 1 }) else flitBad l d

/-- FLIT_RECEIVE: the CRC of the 64 data bytes decides (R18). -/
def flitReceive (l : Nat) (sent data : Bytes) (crc : BitVec 16) (replayed : Bool) (d : Device) : Device :=
  let good := crc16 data == crc.toNat
  if replayed then flitReplayed l data good d else flitFirst l sent data good d

/-! ### SRAM errors (R21, R22) -/

/-- Region of a word: Hold, Cargo, State, Queue, Record from 0 on (Table 01-4). -/
def siteRegion : MemSite → Nat
  | .hold _ => 0
  | .cargoIn _ | .cargoOut _ => 1
  | .state => 2
  | .queue => 3
  | .recordCounter _ | .recordStamp _ | .recordSample _ => 4

/-- Whether two queued frames are copies of one frame in Hold. -/
def sameFrame (f g : TxFrame) : Bool :=
  (f.hold.isSome && f.hold == g.hold) || (f.job.isSome && f.job == g.job) || f == g

/-- A frame that leaves Hold for an error; the status of a host frame's completion the spec leaves open. -/
def holdLose (f : TxFrame) (d : Device) : Device :=
  let v := d.free
  frameRefuse f (v.1.toNat % 0x13) v.2

/-- Every copy of frame `f` that port `p` keeps for sending, the rest of a pre-empted one included, is dropped. -/
def portDropCopies (f : TxFrame) (p : Nat) (d : Device) : Device :=
  let x := d.port p
  let keep := fun (g : TxFrame) => !sameFrame f g
  let part := match x.held with | some t => [t.frame].filter (sameFrame f) | none => []
  let out := (x.launch ++ x.waits.map (·.2) ++ (x.classes.map (·.2.frames)).flatten).filter (sameFrame f) ++ part
  if out.isEmpty then d
  else
    let y := { x with launch := x.launch.filter keep, waits := x.waits.filter fun g => keep g.2,
                      classes := x.classes.map fun e => (e.1, { e.2 with frames := e.2.frames.filter keep }),
                      held := if part.isEmpty then x.held else none }
    refill p (out.foldl (fun d g => holdLose g d) (if part.isEmpty then d.setPort p y else peSettle p (d.setPort p y)))

/-- Every copy of frame `f` that waits anywhere is dropped. -/
def holdDropCopies (f : TxFrame) (d : Device) : Device :=
  let out := d.net.offers.filter fun o => sameFrame f o.frame
  let d := { d with net.offers := d.net.offers.filter fun o => !sameFrame f o.frame }
  let d := out.foldl (fun d o => holdLose o.frame d) d
  fetchAll (helmRetry ((List.range 32).foldl (fun d p => portDropCopies f p d) d))

/-- A received frame that the Compass has yet to act on is dropped. -/
def holdDropRx (id : Nat) (d : Device) : Device :=
  let out := d.compass.queue.filter fun q => q.hold == id
  let d := holdRelease id { d with compass.queue := d.compass.queue.filter fun q => q.hold != id,
                                   compass.wait := d.compass.wait.filter fun w => w.1.hold != id }
  waitDrain (out.foldl (fun d q => bankFree q.bank d) d)

/-- A Garvane frame that waits for its consumer is dropped: what its window brought is then missing. -/
def holdDropHanded (h : Handed) (d : Device) : Device :=
  let d := { d with pilot.handed := d.pilot.handed.erase h }
  match h.win with
  | some w => if w.kind == .ferry || w.kind == .skiff then runDecide w.branch w.crossing d else d
  | none => d

/-- A ferry frame that the crossing engine keeps until the input deadline is dropped: one not yet launched stays
unlaunched, and no skiff takes berths from it any more. -/
def holdDropFerry (r : Run) (k : Nat) (f : FrameRun) (d : Device) : Device :=
  d.putRun { r with frames := r.frames.set k { f with lost := true, whole := true,
                                                       ready := f.ready && f.st == .launched } }

/-- An own ACYCLIC frame that waits is dropped; the status of its completion the spec leaves open. -/
def holdDropAcyclic (b : Nat) (a : AcyOut) (d : Device) : Device :=
  let v := d.free
  let x := v.2.branch b
  fetchAll (entryComplete a.entry (v.1.toNat % 0x13) {} (v.2.setBranch b { x with acyQueue := x.acyQueue.erase a }))

/-- The frame that port `p` sends leaves whole, since its port has it and no truncated copy may leave; every other copy
of it is dropped (DESIGN CHOICE). -/
def holdDropSending (p : Nat) (d : Device) : Option Device :=
  match (d.port p).now with
  | some t => some (holdDropCopies t.frame d)
  | none => if (d.port p).own.isSome then some d else none

/-- Drops the frame that a place of Hold names, and says so, or answers nothing when no frame is there. -/
def holdDrop (s : HoldPlace) (d : Device) : Option Device :=
  match s with
  | .queued p c i => (d.cls p c).frames[i]?.map fun f => holdDropCopies f d
  | .listed p i => (d.port p).launch[i]?.map fun f => holdDropCopies f d
  | .waiting p i => (d.port p).waits[i]?.map fun f => holdDropCopies f.2 d
  | .preempted p => (d.port p).held.map fun t => holdDropCopies t.frame d
  | .recirculating i => d.compass.queue[i]?.map fun q => holdDropRx q.hold d
  | .offered i => d.net.offers[i]?.map fun o => holdDropCopies o.frame d
  | .compass i => d.compass.wait[i]?.map fun w => holdDropRx w.1.hold d
  | .handed i => d.pilot.handed[i]?.map fun h => holdDropHanded h d
  | .sending p => holdDropSending p d
  | .assembling p => (d.port p).asm.map fun _ => d.setPort p { d.port p with asm := none }
  | .ferry b n k =>
    match d.runOf b n with
    | some r => if r.final then none else (r.frames[k]?).map fun f => holdDropFerry r k f d
    | none => none
  | .acyclic b i => (d.branch b).acyQueue[i]?.map fun a => holdDropAcyclic b a d

/-- Indices of the berths for which `f` holds. -/
def berthsWhere (f : Nat → BerthEntry → Bool) (d : Device) : List Nat :=
  (d.chart.berths.zipIdx.filter fun e => f e.2 e.1).map (·.2)

/-- Whether the 8-byte word that holds byte `a` overlaps the `n` bytes from `o`. -/
def wordOverlaps (a o n : Nat) : Bool := decide (a / 8 * 8 < o + n ∧ o < a / 8 * 8 + 8)

/-- The action of Table 01-5 for an uncorrectable error. -/
def memAction (s : MemSite) (d : Device) : Device :=
  match s with
  | .hold s =>
    match holdDrop s d with
    | none => d
    | some e => { e with core.holdDrops := e.core.holdDrops + 1 }
  | .cargoIn a =>
    let base := d.rg F.CARGO_LAYOUT_IN_DATA_BASE
    let l := berthsWhere (fun i e => a / 8 == i || wordOverlaps a (base + e.inOff) e.inLen) d
    { d with cargo.inErr := d.cargo.inErr ++ l.filter fun i => !d.cargo.inErr.contains i }
  | .cargoOut a =>
    let l := berthsWhere (fun _ e => wordOverlaps a e.outOff e.outLen) d
    { d with cargo.outErr := d.cargo.outErr ++ l.filter fun i => !d.cargo.outErr.contains i }
  | .state => halt 2 d
  | .queue => halt 3 d
  | .recordCounter o =>
    let v := d.free
    { v.2 with counters := tabSet 0 v.2.counters o v.1, strec.mark := true }
  | .recordStamp i =>
    let v := d.free
    strecDrop { v.2 with strec.ring := tabSet [] v.2.strec.ring (i % 4096) (List.replicate 8 v.1) }
  | .recordSample i =>
    let v := d.free
    { v.2 with net.samples := tabPut (List.replicate 4 v.1) v.2.net.samples (i % 16384), strec.mark := true }

/-- MEM_UNCORRECTABLE: a single-bit error is corrected and counted by region (R21); an uncorrectable one raises event 0
and acts by region (R22). -/
def memError (k : EccKind) (s : MemSite) (d : Device) : Device :=
  match k with
  | .singleBit =>
    let g := siteRegion s
    { d with core.single := tabSet 0 d.core.single g (tabGet 0 d.core.single g + 1) }
  | .uncorrectable => memAction s (evRaise 0 d)

/-! ### Meanings -/

/-- FLIT_RECEIVE (R19). -/
def execFlitReceive (l : Nat) (f : Flit) (crc : BitVec 16) (s : State) : Host.Outcome State Fault Refusal :=
  onDev (flitReceive l f.sent f.data crc f.replayed) s
/-- FABRIC_FAIL_LIMIT (R20). -/
def execFabricFailLimit (l : Nat) (s : State) : Host.Outcome State Fault Refusal := onDev (fabricFailLimit l) s
/-- MEM_UNCORRECTABLE (R22). -/
def execMemUncorrectable (k : EccKind) (m : MemSite) (s : State) : Host.Outcome State Fault Refusal :=
  onDev (memError k m) s

end Sys2Proof.Machine
end

