-- ==== Sys2Proof/Machine/Smbus.lean ====
section
/-!
DEFINITION. SMBus telemetry (R537, R538, Table 18-8). The values are those of the end of the last Trim interval.
The choices it makes stand under notes/assumptions: 32 (DESIGN CHOICE), 33 (DEDUCED).
-/

namespace Sys2Proof.Machine

/-- A Read Word or Block Read of command `code`, `n` bytes low byte first. -/
def smbRead (code n : Nat) (d : Device) : Device := d.emit (.smbData (leBytes n (tabGet 0 d.trim.smb code)))

/-- The bytes of a command that Table 18-8 does not list. -/
def smbUnlisted (n : Nat) (d : Device) : Device := d.emit (.smbData (List.replicate n 0xFF))

/-- The Alert Response Address 0x0C: while the device pulls SMB_ALERT_N low it answers with its address and releases it.
-/
def smbAlert (d : Device) : Device :=
  if d.trim.alert then { d with trim.alert := false }.emit (.smbData [0x4E]) else d

/-- SMB_READ_STATUS (R537). -/
def execSmbReadStatus (s : State) : Host.Outcome State Fault Refusal := onDev (smbRead 0x00 2) s
/-- SMB_READ_TMAX (R537). -/
def execSmbReadTmax (s : State) : Host.Outcome State Fault Refusal := onDev (smbRead 0x01 2) s
/-- SMB_READ_POWER (R537). -/
def execSmbReadPower (s : State) : Host.Outcome State Fault Refusal := onDev (smbRead 0x02 2) s
/-- SMB_READ_CURRENT (R537). -/
def execSmbReadCurrent (s : State) : Host.Outcome State Fault Refusal := onDev (smbRead 0x03 2) s
/-- SMB_READ_VOLTAGE (R537). -/
def execSmbReadVoltage (s : State) : Host.Outcome State Fault Refusal := onDev (smbRead 0x04 2) s
/-- SMB_READ_HEADING (R537). -/
def execSmbReadHeading (s : State) : Host.Outcome State Fault Refusal := onDev (smbRead 0x05 2) s
/-- SMB_READ_CROSSING (R537). -/
def execSmbReadCrossing (s : State) : Host.Outcome State Fault Refusal := onDev (smbRead 0x06 6) s
/-- SMB_READ_SENSOR (R537): codes 0x10 to 0x27. -/
def execSmbReadSensor (code : BitVec 8) (s : State) : Host.Outcome State Fault Refusal :=
  onDev (if 0x10 ≤ code.toNat ∧ code.toNat ≤ 0x27 then smbRead code.toNat 2 else smbUnlisted 2) s
/-- SMB_READ_UNLISTED (R537). -/
def execSmbReadUnlisted (_code : BitVec 8) (n : Nat) (s : State) : Host.Outcome State Fault Refusal :=
  onDev (smbUnlisted n) s
/-- SMB_WRITE (R537): no data byte is acknowledged, and nothing changes. -/
def execSmbWrite (_code : BitVec 8) (data : Bytes) (s : State) : Host.Outcome State Fault Refusal :=
  onDev (fun d => if data.isEmpty then d else d.emit .smbNak) s
/-- SMB_ALERT_RESPONSE (R538). -/
def execSmbAlertResponse (s : State) : Host.Outcome State Fault Refusal := onDev smbAlert s

end Sys2Proof.Machine
end

