-- ==== Sys2Proof/Machine/Jtag.lean ====
section
/-!
DEFINITION. The test access port (R540, R541): the instruction register and what each instruction selects. The TAP is
powered whenever the rails are up, so it works in RESET too.
The choices it makes stand under notes/assumptions: 10 (DESIGN CHOICE), 12 (DEDUCED), 30 (PRESUMED), 34 (DEDUCED).
-/

namespace Sys2Proof.Machine

/-- BYPASS. -/
def tapBypass : Nat := 0xFF

/-- A JTAG instruction is loaded; an observer sees the one that acts. -/
def tapLoad (code : Nat) (id : Option (BitVec 32)) (d : Device) : Device :=
  let d := { d with tap := code }
  d.emit (.jtag (tapActs d) id)

/-- An instruction that takes the pins: it does so in RESET and HALT, and acts as BYPASS until the device enters one
(R541). -/
def tapPins (code : Nat) (d : Device) : Device := tapLoad code none d

/-- The IDCODE of a revision (R540). -/
def idcodeOf (rev : BitVec 8) : BitVec 32 :=
  BitVec.ofNat 32 (rev.toNat % 16 * 2 ^ 28 + 0x9640 * 2 ^ 12 + Config.jep106.toNat * 2 + 1)

/-- A command at the TAP: nothing acts while the device is unpowered. -/
def onTap (f : NonVol → Device → Device) (s : State) : Host.Outcome State Fault Refusal :=
  if s.dev.st = .off then .next s else .next { s with dev := f s.nv s.dev }

/-- EXTEST (R541). -/
def execExtest (s : State) : Host.Outcome State Fault Refusal := onTap (fun _ d => tapPins 0x00 d) s
/-- IDCODE (R540). -/
def execIdcode (s : State) : Host.Outcome State Fault Refusal :=
  onTap (fun n d => tapLoad 0x01 (some (idcodeOf n.revision)) d) s
/-- SAMPLE/PRELOAD (R540): the pins keep their functions. -/
def execSamplePreload (s : State) : Host.Outcome State Fault Refusal := onTap (fun _ d => tapLoad 0x02 none d) s
/-- EXTEST_PULSE (R541). -/
def execExtestPulse (s : State) : Host.Outcome State Fault Refusal := onTap (fun _ d => tapPins 0x05 d) s
/-- EXTEST_TRAIN (R541). -/
def execExtestTrain (s : State) : Host.Outcome State Fault Refusal := onTap (fun _ d => tapPins 0x06 d) s
/-- HIGHZ (R541). -/
def execHighz (s : State) : Host.Outcome State Fault Refusal := onTap (fun _ d => tapPins 0x07 d) s
/-- CLAMP (R541). -/
def execClamp (s : State) : Host.Outcome State Fault Refusal := onTap (fun _ d => tapPins 0x08 d) s
/-- BYPASS (R540). -/
def execBypass (s : State) : Host.Outcome State Fault Refusal := onTap (fun _ d => tapLoad tapBypass none d) s
/-- DEBUG_INSTRUCTION (R540, Table 17-14): closed in FIELDED; in the other states the spec gives codes 0x40 to 0x7F no
effect. Every other unassigned code selects BYPASS. -/
def execDebugInstruction (code : BitVec 8) (s : State) : Host.Outcome State Fault Refusal :=
  if s.dev.st ≠ .off ∧ s.nv.lifecycle ≠ .fielded ∧ 0x40 ≤ code.toNat ∧ code.toNat ≤ 0x7F then
    .refused (.debugUnitUndescribed code.toNat)
  else onTap (fun _ d => tapLoad tapBypass none d) s

end Sys2Proof.Machine
end

