-- ==== Sys2Proof/Machine/Reads.lean ====
section
/-!
DEFINITION. What a register read returns (R7, Table 00-3). A field that follows from state held elsewhere has an entry
in `readFrom`; every other field returns the register file's value. A write-only field reads 0.
The choices it makes stand under notes/assumptions: 16 (DESIGN CHOICE), 19 (DEDUCED), 53 (DEDUCED).
-/

namespace Sys2Proof.Machine

/-- A Bool as a bit. -/
def bitOf (b : Bool) : Nat := if b then 1 else 0

/-- Timebase of index `i` of the RECKON_d registers. -/
def domOf (i : Nat) : Dom :=
  match i with
  | 0 => .a
  | 1 => .b
  | _ => .x

/-- Code of a domain state (Table 02-15). -/
def domCode (s : DomState) : Nat :=
  match s with
  | .unset => 0
  | .tracking => 1
  | .holdover => 2

/-- Code of a Fix state (Table 07-1). -/
def fixCode (s : FixSt) : Nat :=
  match s with
  | .idle => 0
  | .listen => 1
  | .coldstarting => 2
  | .backoff => 3
  | .integrating => 4
  | .synchronised => 5
  | .lostFix => 6

/-- Code of an arm's fence state (Table 06-11). -/
def armCode (s : ArmState) : Nat :=
  match s with
  | .serving => 0
  | .fenced => 1
  | .probation => 2
  | .locked => 3

/-- Code of a port state (Table 09-3). -/
def portCode (s : PortSt) : Nat :=
  match s with
  | .idle => 0
  | .start => 1
  | .run => 2
  | .test => 3
  | .recovery => 4
  | .sleep => 5
  | .fenced => 6

/-- Code of a verify status (Table 10-10). -/
def verifyCode (s : VerifySt) : Nat :=
  match s with
  | .disabled => 0
  | .initial => 1
  | .verifying => 2
  | .succeeded => 3
  | .failed => 4
  | .notVerified => 5

/-- Code of a Tender channel's state (Table 15-1). -/
def chanCode (s : ChState) : Nat :=
  match s with
  | .idle => 0
  | .running => 1
  | .halted => 2

/-- BASE of the set in force of timebase `i`, in units of 2^-56 ns. -/
def baseT (i : Nat) (d : Device) : Int := (d.dom (domOf i)).cur.base * 2 ^ 16

/-- The operational gate entry `e` of port `p`. -/
def operEntry (p e : Nat) (d : Device) : Nat × Nat := ((d.port p).oper.entries[e]?).getD (0, 0)

/-- Bit k = status word k has a bit set. -/
def statusWords (d : Device) : Nat :=
  (List.range 8).foldl (fun n k => n + bitOf (d.rg F.EVENT_STATUS_BITS k != 0) * 2 ^ k) 0

/-- Whether crossings run (R107). -/
def crossingsRun (d : Device) : Bool := crossingState d.st && d.cross.epoch && fixRunning d.fix.st

/-- Meter tokens as of the last update, in units of 2^-16 packet. -/
def meterTokens (m : Nat) (d : Device) : Nat := (tokRead (d.meter m).tokens).toNat

/-- Shaper tokens: a read of an enabled shaper is an evaluation (R363). -/
def shaperNow (p c : Nat) (d : Device) : Int :=
  if d.rb F.HELM_SHAPER_CFG_ENABLE p c then shaperTokens p c d else (d.cls p c).tokens

/-- Pool entries not held (R441). DEDUCED: 0, the reset value of Table 14-15, while no completion queue exists. -/
def poolFree (d : Device) : Nat :=
  if d.hq.cqs.all (fun e => !e.2.present) then 0
  else 32768 - reservations d - d.hq.cqs.foldl (fun n e => n + cqPoolHeld e.1 d) 0

/-- The queue to which Helm flow `f` is bound, when it is a host flow of a SEND queue. -/
def flowSq (f : Nat) (d : Device) : Sq := if f < 4096 ∧ (d.sq f).kind = 0 then d.sq f else {}

/-- Whether the run of a channel waits for Bus Master Enable (R457). -/
def bmeWaits (c : Nat) (d : Device) : Bool := (d.chan c).st == .running && !d.bme

/-- Whether the channel's confirming read is outstanding. -/
def barrierWaits (c : Nat) (d : Device) : Bool :=
  match (d.chan c).run with
  | some r => r.confirming
  | none => false

/-- A field of an absent queue reads 0 (R453). -/
def ifPresent (p : Bool) (v : Nat) : Nat := if p then v else 0

/-- What a field reads, from its indices. -/
abbrev ReadFn := NonVol → Device → Nat → Nat → Nat

/-- Fields that follow from state held outside the register file: GLOBAL to RECKON. -/
def readGlobal : List (Fld × ReadFn) := [
  (F.GLOBAL_STATUS_LIFECYCLE, fun n _ _ _ => lcCode n.lifecycle),
  (F.GLOBAL_STATUS_STATE, fun _ d _ _ => stCode d.st),
  (F.GLOBAL_ID_REVISION, fun n _ _ _ => n.revision.toNat),
  (F.GLOBAL_UID_UID, fun n _ _ _ => n.uid.toNat),
  (F.CHART_STATUS_FUSED_SVN, fun n _ _ _ => n.fusedSvn),
  (F.CHART_STATUS_STAGE_OPEN, fun _ d _ _ => bitOf d.boot.stage.isSome),
  (F.CHART_STATUS_LOADED, fun _ d _ _ => bitOf d.charted),
  (F.EVENT_SUMMARY_WORDS, fun _ d _ _ => statusWords d),
  (F.EVENT_ROUTE_HELD, fun _ d i _ => bitOf (tabGet none d.ev.held i).isSome),
  (F.RECKON_RAW_VALUE, fun _ d _ _ => d.raw.toNat),
  (F.RECKON_D_CTRL_PENDING, fun _ d i _ => bitOf (d.dom (domOf i)).pend.isSome),
  (F.RECKON_D_CTRL_STATE, fun _ d i _ => domCode (d.dom (domOf i)).st),
  (F.RECKON_D_INCR_INCR, fun _ d i _ => if i = 2 then d.reckon.x.cur.incr else d.rg F.RECKON_D_INCR_INCR i),
  (F.RECKON_D_BASE_HI_SECONDS, fun _ d i _ => timeSecs (baseT i d)),
  (F.RECKON_D_BASE_LO_NANOSECONDS, fun _ d i _ => timeNanos (baseT i d)),
  (F.RECKON_D_BASE_LO_FRACTION, fun _ d i _ => timeFrac (baseT i d)),
  (F.RECKON_D_RAW_AT_BASE_VALUE, fun _ d i _ => (d.dom (domOf i)).cur.rawAt.toNat)]

/-- Fields that follow from state held outside the register file: FIX to COMPASS. -/
def readPlant : List (Fld × ReadFn) := [
  (F.FIX_STATUS_STATE, fun _ d _ _ => fixCode d.fix.st),
  (F.CROSS_STATUS_RUNNING, fun _ d _ _ => bitOf (crossingsRun d)),
  (F.CROSS_STATUS_CROSSING, fun _ d _ _ => d.crossingNo),
  (F.CARGO_STATUS_SNAP_BUSY, fun _ d _ _ => bitOf d.cargo.snap.isSome),
  (F.CARGO_STATUS_FETCH_BUSY, fun _ d _ _ => match d.cargo.fetch with | .image _ _ _ => 1 | .none | .seq _ => 0),
  (F.PILOT_ARM_STATE_VIOL_RECENT, fun _ d i _ => min (violRecent i d) 65535),
  (F.PILOT_ARM_STATE_STATE, fun _ d i _ => armCode (d.arm i).st),
  (F.PORT_STATE_STATE, fun _ d i _ => portCode (d.port i).st),
  (F.PORT_FLOW_STATUS_PAUSED, fun _ d i _ =>
    (List.range 8).foldl (fun n c => n + bitOf (tabGet none (d.port i).pauseEnd c).isSome * 2 ^ c) 0),
  (F.PORT_FLOW_STATUS_OCCUPANCY, fun _ d i _ => occupancy i d),
  (F.PORT_STAMP_CAL_TX_CAL, fun _ d i _ => (stampCal (d.rg F.PORT_MODE_MODE i)).1),
  (F.PORT_STAMP_CAL_RX_CAL, fun _ d i _ => (stampCal (d.rg F.PORT_MODE_MODE i)).2),
  (F.COMPASS_BANK_WRITABLE1, fun _ d _ _ => bitOf (bankWritable true d)),
  (F.COMPASS_BANK_WRITABLE0, fun _ d _ _ => bitOf (bankWritable false d)),
  (F.COMPASS_BANK_PINNED1, fun _ d _ _ => pinned true d),
  (F.COMPASS_BANK_PINNED0, fun _ d _ _ => pinned false d),
  (F.COMPASS_RULE_CMD_BUSY, fun _ d _ _ => bitOf (ruleBusy d)),
  (F.COMPASS_METER_TOKENS_TOKENS, fun _ d i _ => meterTokens i d)]

/-- Fields that follow from state held outside the register file: HELM and REDUN. -/
def readNet : List (Fld × ReadFn) := [
  (F.HELM_SAMPLE_CFG_SHED, fun _ d _ _ => bitOf (decide (0 < d.rung))),
  (F.HELM_SAMPLE_CFG_PERIOD_NS, fun _ d _ _ => samplePeriod d),
  (F.HELM_GATE_STATUS_PENDING, fun _ d i _ => bitOf (d.port i).pend.isSome),
  (F.HELM_GATE_STATUS_OPER_GATE_EN, fun _ d i _ => bitOf (d.port i).oper.en),
  (F.HELM_GATE_STATUS_OPER_TB, fun _ d i _ => (d.port i).oper.tb),
  (F.HELM_GATE_STATUS_OPER_LIST_LEN, fun _ d i _ => (d.port i).oper.entries.length),
  (F.HELM_GATE_STATUS_ENTRY, fun _ d i _ => (d.port i).entry),
  (F.HELM_GATE_STATUS_STATES, fun _ d i _ => gateStates (d.port i)),
  (F.HELM_GATE_OPER_STATES, fun _ d i j => (operEntry i j d).1),
  (F.HELM_GATE_OPER_INTERVAL_NS, fun _ d i j => (operEntry i j d).2),
  (F.HELM_SHAPER_TOKENS_TOKENS, fun _ d i j => unsignedOf 40 (tokRead (shaperNow i j d))),
  (F.HELM_FLOW_CFG_PORT, fun _ d i _ => (flowSq i d).port),
  (F.HELM_FLOW_CFG_CLASS, fun _ d i _ => (flowSq i d).cls),
  (F.REDUN_PE_STATUS_ACTIVE, fun _ d i _ => bitOf (peActive i d)),
  (F.REDUN_PE_STATUS_VERIFY_STATUS, fun _ d i _ => verifyCode (d.port i).verify),
  (F.REDUN_STREAM_STATE_GEN_SEQ, fun _ d i _ => (d.stream i).gen),
  (F.REDUN_STREAM_STATE_RCVY_SEQ, fun _ d i _ => (d.stream i).rcvySeq),
  (F.REDUN_STREAM_STATE_TAKE_ANY, fun _ d i _ => bitOf (d.stream i).takeAny)]

/-- Fields that follow from state held outside the register file: QUEUE, submission side. -/
def readSq : List (Fld × ReadFn) := [
  (F.QUEUE_STATUS_POOL_FREE, fun _ d _ _ => poolFree d),
  (F.QUEUE_STATUS_BACKLOG_USED, fun _ d _ _ => d.hq.cqs.foldl (fun n e => n + e.2.backlog.length) 0),
  (F.QUEUE_STATUS_CREATE_OK, fun _ d _ _ => bitOf (createOk d)),
  (F.QUEUE_STATUS_ADMIN_ENABLED, fun _ d _ _ => d.rg F.QUEUE_ADMIN_CFG_ENABLE),
  (F.QUEUE_ADMIN_SQ_PROD_INDEX, fun _ d _ _ => (d.sq adminQ).prod.toNat),
  (F.QUEUE_ADMIN_SQ_CONS_INDEX, fun _ d _ _ => (d.sq adminQ).cons.toNat),
  (F.QUEUE_ADMIN_CQ_PROD_INDEX, fun _ d _ _ => (d.cq adminQ).prod.toNat),
  (F.QUEUE_ADMIN_CQ_CONS_INDEX, fun _ d _ _ => (d.cq adminQ).cons.toNat),
  (F.QUEUE_SQ_PROD_PROD, fun _ d q _ => (d.sq q).prod.toNat),
  (F.QUEUE_SQ_CONS_CONS, fun _ d q _ => (d.sq q).cons.toNat),
  (F.QUEUE_SQ_STATUS_EXISTS, fun _ d q _ => bitOf (d.sq q).present),
  (F.QUEUE_SQ_STATUS_FAULT, fun _ d q _ => bitOf (d.sq q).fault),
  (F.QUEUE_SQ_STATUS_INVALIDATING, fun _ d q _ => bitOf (d.sq q).invalidating),
  (F.QUEUE_SQ_STATUS_KIND, fun _ d q _ => (d.sq q).kind),
  (F.QUEUE_SQ_STATUS_TB, fun _ d q _ => (d.sq q).tb),
  (F.QUEUE_SQ_STATUS_BATCHING, fun _ d q _ => bitOf (d.sq q).batching),
  (F.QUEUE_SQ_STATUS_CQ, fun _ d q _ => (d.sq q).cq),
  (F.QUEUE_SQ_STATUS_SIZE_LOG2, fun _ d q _ => (d.sq q).sizeLog2),
  (F.QUEUE_SQ_STATUS_OUTSTANDING, fun _ d q _ => (d.sq q).outstanding),
  (F.QUEUE_SQ_STATUS_CACHED, fun _ d q _ => (d.sq q).cache.length)]

/-- Fields that follow from state held outside the register file: QUEUE, completion side, and TENDER. -/
def readCq : List (Fld × ReadFn) := [
  (F.QUEUE_CQ_PROD_PROD, fun _ d q _ => (d.cq q).prod.toNat),
  (F.QUEUE_CQ_CONS_CONS, fun _ d q _ => (d.cq q).cons.toNat),
  (F.QUEUE_CQ_STATUS_EXISTS, fun _ d q _ => bitOf (d.cq q).present),
  (F.QUEUE_CQ_STATUS_STALLED, fun _ d q _ => bitOf (d.cq q).stalled),
  (F.QUEUE_CQ_STATUS_ARMED, fun _ d q _ => bitOf (d.cq q).armed),
  (F.QUEUE_CQ_STATUS_NOTIFY_EN, fun _ d q _ => bitOf (d.cq q).notify),
  (F.QUEUE_CQ_STATUS_VECTOR, fun _ d q _ => (d.cq q).vector),
  (F.QUEUE_CQ_STATUS_SIZE_LOG2, fun _ d q _ => (d.cq q).sizeLog2),
  (F.QUEUE_CQ_STATUS_BACKLOG, fun _ d q _ => (d.cq q).backlog.length),
  (F.QUEUE_CQ_STATUS_POOL_HELD, fun _ d q _ => ifPresent (d.cq q).present (cqPoolHeld q d)),
  (F.TENDER_STATUS_STAGE_USED_KIB, fun _ d _ _ => (stageUsed d + 1023) / 1024),
  (F.TENDER_STATUS_READS_OUT, fun _ d _ _ => readsOut d),
  (F.TENDER_CH_STATE_BARRIER_WAIT, fun _ d c _ => bitOf (barrierWaits c d)),
  (F.TENDER_CH_STATE_BME_WAIT, fun _ d c _ => bitOf (bmeWaits c d)),
  (F.TENDER_CH_STATE_STATE, fun _ d c _ => chanCode (d.chan c).st)]

/-- Every field that follows from state held outside the register file, and what it reads. -/
def readFrom : List (Fld × ReadFn) := readGlobal ++ readPlant ++ readNet ++ readSq ++ readCq

/-- The value field `fd` of indices `i`, `j` reads. -/
def fieldValue (fd : FieldDef) (i j : Nat) (n : NonVol) (d : Device) : Nat :=
  if fd.type = .wo then 0
  else
    match readFrom.find? fun e => decide (e.1 = fd.fld) with
    | some e => e.2 n d i j % 2 ^ fd.fld.width
    | none => d.rg fd.fld i j

/-- The 64-bit value of the register at the 8-byte-aligned BAR0 address `a`; a reserved address reads 0 (R6). -/
def regWord (a : Nat) (n : NonVol) (d : Device) : Nat :=
  match lookupReg a with
  | none => 0
  | some (rd, i, j) => rd.fields.foldl (fun v fd => v + fieldValue fd i j n d * 2 ^ fd.fld.lo) 0

end Sys2Proof.Machine
end

