-- ==== Sys2Proof/Machine/Access.lean ====
section
/-!
DEFINITION. BAR accesses (R3 to R12, R410, R411): register writes by field type, reads with the clearing of RC fields,
doorbells, the MSI-X tables, and accesses that R4 does not permit. A register whose write starts
something has an entry in `writeTo`, which calls the same function as that write's own command, so that a REG_WRITE of it
has the same effect.
The choices it makes stand under notes/assumptions: 17 (DESIGN CHOICE), 18 (DESIGN CHOICE), 20 (DESIGN CHOICE), 29
(DESIGN CHOICE), 39 (PRESUMED).
-/

namespace Sys2Proof.Machine

/-! ### Permitted accesses (R4, R5) -/

/-- Whether the register at `a` takes only 64-bit writes: INCR, STEP, SET_HI and SET_LO of a timebase. -/
def needs64 (a : Nat) : Bool :=
  match lookupReg (a / 8 * 8) with
  | some (rd, _, _) => [F.RECKON_D_INCR_INCR.base, F.RECKON_D_STEP_NANOSECONDS.base, F.RECKON_D_SET_HI_SECONDS.base,
      F.RECKON_D_SET_LO_NANOSECONDS.base].contains rd.addr
  | none => false

/-- First address of PF0's doorbells, its BAR2, in the addresses of register accesses, which lay the BARs of Table 14-2
one after another: PF0's BAR0, BAR2 and BAR4, and PF1's. -/
def doorbellBase : Nat := 0x2000000

/-- First address of a function's BAR4, the MSI-X table and pending-bit array. -/
def msixBase (fn : Fn) : Nat :=
  match fn with
  | .pf0 => 0x2010000
  | .pf1 => 0xC00000

/-- Whether an access reaches a doorbell. -/
def isDoorbell (fn : Fn) (a : Nat) : Bool := fn == .pf0 && decide (doorbellBase ≤ a ∧ a < msixBase .pf0)

/-- Whether an access of `n` bytes at address `a` is one that R4 permits. -/
def accessOk (fn : Fn) (a n : Nat) (isWrite : Bool) : Bool :=
  ((n == 8 && a % 8 == 0) || (n == 4 && a % 4 == 0 && !(isWrite && fn == .pf0 && needs64 a)))
    && decide (a < msixBase fn + 0x10000)

/-- Bytes of an access width. -/
def widthBytes : AccWidth → Nat
  | .w32 => 4
  | .w64 => 8

/-- A completion with Unsupported Request status (R5), which AER reports with its severity (Table 14-1). -/
def accessRefuse (fn : Fn) (d : Device) : Device :=
  let f := d.fnState fn
  (d.setFn fn { f with aer := f.aer ||| 2 ^ 20 }).emit (.unsupportedRequest fn (f.aerFatal.testBit 20))

/-- A ring of the doorbell at offset `o` of PF0's BAR2 (R411). DEDUCED: every address of a doorbell's 8 bytes rings it. -/
def doorbellWrite (o : Nat) (d : Device) : Device :=
  if o < 0x8000 then sqDoorbell (o / 8) d else cqDoorbell ((o - 0x8000) / 8) d

/-- A write of the dword at offset `o` of a function's BAR4; the pending-bit array is read-only. -/
def msixWrite (fn : Fn) (o : Nat) (v : BitVec 32) (d : Device) : Device :=
  if o < 16 * fnVectors fn then msixTableWrite fn (o / 16) (o % 16 / 4) v d else d

/-- A write of one or two dwords at offset `o` of a function's BAR4. -/
def msixAccess (fn : Fn) (o : Nat) (w : AccWidth) (v : Word) (d : Device) : Device :=
  match w with
  | .w32 => msixWrite fn o (v.setWidth 32) d
  | .w64 => msixWrite fn (o + 4) (BitVec.ofNat 32 (v.toNat / 2 ^ 32)) (msixWrite fn o (v.setWidth 32) d)

/-- The dword at offset `o` of a function's BAR4. -/
def msixRead (fn : Fn) (o : Nat) (d : Device) : Nat :=
  if o < 16 * fnVectors fn then (msixTableRead (d.fnState fn) (o / 16) (o % 16 / 4)).toNat
  else if 0x8000 ≤ o then (pbaRead (d.fnState fn) (o - 0x8000)).toNat
  else 0

/-! ### Writes -/

/-- A write to a register: its indices, the bits it reaches, and the 64-bit word it makes, in which RW bits that the
write does not reach hold their present value and every other such bit is 0. -/
structure RegW where
  addr : Nat
  i : Nat
  j : Nat
  mask : Nat
  word : Nat
  deriving DecidableEq, Repr

/-- The word of a write of `value` under `mask`. -/
def mergeWord (rd : RegDef) (i j mask value : Nat) (d : Device) : Nat :=
  rd.fields.foldl (fun w fd =>
    let m := bits mask fd.fld.hi fd.fld.lo
    let keep := match fd.type with
      | .rw | .rwa => d.rg fd.fld i j &&& (2 ^ fd.fld.width - 1 - m)
      | .w1c | .ro | .rc | .wo | .rl => 0
    w + ((bits value fd.fld.hi fd.fld.lo &&& m) ||| keep) * 2 ^ fd.fld.lo) 0

/-- Whether the write reaches bit `k`. -/
def RegW.has (w : RegW) (k : Nat) : Bool := bit w.mask k
/-- Whether the write sets bit `k` to 1. -/
def RegW.sets (w : RegW) (k : Nat) : Bool := bit w.mask k && bit w.word k
/-- The word written. -/
def RegW.value (w : RegW) : Word := BitVec.ofNat 64 w.word

/-- What a write does to a register. -/
abbrev WriteFn := RegW → Device → Device

/-- Every field by its type (Table 00-3). -/
def plainWrite : WriteFn := fun w d => writeFields w.addr w.mask w.word d

/-- `f` when the condition holds. -/
def whenDo (c : Bool) (f : Device → Device) (d : Device) : Device := if c then f d else d

/-- A host-address register of Cargo: ignored while attached (R160). -/
def cargoAddrWrite : WriteFn := fun w d => if d.rb F.CARGO_STATUS_ATTACHED then d else plainWrite w d

/-- CARGO_CTRL: DETACH governs when both are written (R160). -/
def cargoCtrlWrite : WriteFn := fun w d =>
  if w.sets 1 then { d with cargo.attachReq := some false }
  else if w.sets 0 then { d with cargo.attachReq := some true } else d

/-- PORTn_CTRL: its fields, then of the command bits written the one whose row of Table 09-4 comes first among those
that apply (R266). -/
def portCtrlWrite : WriteFn := fun w d =>
  let p := w.i
  let d := plainWrite w d
  if w.sets 3 && portTestOk p d then portTestStart p d
  else if w.sets 4 && (d.port p).st == .test then portTestStop p d
  else if w.sets 0 && (portSeeks p d || d.portRun p) then portRestart p d
  else if w.sets 1 && d.portRun p then portSleep p d
  else whenDo (w.sets 2) (portWake p) d

/-- An administrative register or entry of a gate list: ignored while PENDING is 1 (R371). -/
def gateAdminWrite : WriteFn := fun w d =>
  if (d.port w.i).pend.isSome then d.ru F.HELM_GATE_STATUS_ADMIN_BUSY 1 w.i else plainWrite w d

/-- HELM_GATE_CTRL: CANCEL alone is no administrative write; CONFIG_CHANGE acts on the fields as just written. -/
def gateCtrlWrite : WriteFn := fun w d =>
  let d := if w.sets 62 && !w.sets 63 && (d.port w.i).pend.isSome then d else gateAdminWrite w d
  whenDo (w.sets 62) (gateCancel w.i) (whenDo (w.sets 63) (gateConfigChange w.i) d)

/-- COMPASS_RULE_CMD: its fields, then the command; one written while BUSY is 1 is ignored (R351). DESIGN CHOICE: the
whole write is then ignored, BANK, INDEX and the clear of REJECTED with it. -/
def ruleCmdWrite : WriteFn := fun w d =>
  let op := bits (w.word &&& w.mask) 59 58
  let d := if op ≠ 0 ∧ ruleBusy d = true then d else plainWrite w d
  let b := d.rb F.COMPASS_RULE_CMD_BANK
  let i := d.rg F.COMPASS_RULE_CMD_INDEX
  match op with
  | 1 => ruleWrite b i d
  | 2 => ruleRead b i d
  | 3 => ruleInvalidate b i d
  | _ => d

/-- RECKON_PTM_CTRL: its fields; the automatic interval runs from the write that sets AUTO; TRIGGER runs a dialog. -/
def ptmCtrlWrite : WriteFn := fun w d =>
  let was := d.rb F.RECKON_PTM_CTRL_AUTO
  let d := plainWrite w d
  let d := if d.rb F.RECKON_PTM_CTRL_AUTO && !was then { d with reckon.ptmAutoFrom := d.raw } else d
  whenDo (w.sets 1) ptmStart d

/-- A ring base of the admin pair: ignored while ENABLE is 1 (R444). -/
def adminBaseWrite : WriteFn := fun w d => if d.rb F.QUEUE_ADMIN_CFG_ENABLE then d else plainWrite w d

/-- A register of a Tender channel: those of the reserved channels ignore writes (R454). -/
def tenderRegWrite : WriteFn := fun w d => if hostChan w.i then plainWrite w d else d

/-- TENDER_CH_CTRL: ABORT, then CLEAR. -/
def tenderCtrlWrite : WriteFn := fun w d =>
  if hostChan w.i then whenDo (w.sets 1) (tenderClear w.i) (whenDo (w.sets 0) (tenderAbort w.i) d) else d

/-- Registers of RECKON and GLOBAL whose write starts something. -/
def writeReckon : List (Nat × WriteFn) := [
  (F.GLOBAL_CTRL_KEY.base, fun w d => warmReset (BitVec.ofNat 64 (w.word &&& w.mask)) d),
  (F.RECKON_SNAP_CTRL_TAKE.base, fun w d => whenDo (w.sets 0) snapshotTake d),
  (F.RECKON_PRIMARY_ARM.base, fun w d =>
    whenDo (w.has 2) (primaryWrite (bit w.word 2) (bit w.word 1) (bit w.word 3)) d),
  (F.RECKON_PTM_CTRL_AUTO.base, ptmCtrlWrite),
  (F.RECKON_D_CTRL_REJECT.base, fun w d => whenDo (w.sets 8) (servoAlive (domOf w.i)) (plainWrite w d)),
  (F.RECKON_D_INCR_INCR.base, fun w d => reckonIncrWrite (domOf w.i) w.value d),
  (F.RECKON_D_STEP_NANOSECONDS.base, fun w d => reckonStepWrite (domOf w.i) w.value d),
  (F.RECKON_D_SET_HI_SECONDS.base, fun w d => reckonSetHiWrite (domOf w.i) w.value d),
  (F.RECKON_D_SET_LO_NANOSECONDS.base, fun w d => reckonSetLoWrite (domOf w.i) w.value d),
  (F.RECKON_STREC_CONS_CONS.base, fun w d => whenDo (w.has 0) (strecConsWrite (BitVec.ofNat 32 w.word)) d),
  (F.RECKON_TIO_CFG_MODE.base, fun w d => tioModeWrite w.i w.value d),
  (F.RECKON_TIO_CTRL_ARM.base, fun w d => whenDo (w.sets 1) (tioDisarmWrite w.i) (whenDo (w.sets 0) (tioArm w.i) d)),
  (F.TRIM_HEADING_SELECT.base, fun w d => whenDo (w.has 0) (headingSelect (bits w.word 2 0)) d),
  (F.EVENT_ROUTE_MSIX_EN.base, fun w d => eventRouteWrite w.i w.value d),
  (F.EVENT_VEC_THRESH.base, fun w d => eventVecWrite w.i w.value d)]

/-- Registers of FIX, CARGO, PILOT, PORT and COMPASS whose write starts something. -/
def writePlant : List (Nat × WriteFn) := [
  (F.FIX_MUSTER_BR_ACCEPT.base, fun w d => whenDo (w.sets 62) (musterAccept w.i) d),
  (F.CARGO_CTRL_ATTACH.base, cargoCtrlWrite),
  (F.CARGO_HOST_SEQ_ADDR_ADDR.base, cargoAddrWrite),
  (F.CARGO_HOST_IN_BASE_ADDR.base, cargoAddrWrite),
  (F.CARGO_HOST_OUT_BASE_ADDR.base, cargoAddrWrite),
  (F.CARGO_HOST_SLOTS_IN_STRIDE.base, cargoAddrWrite),
  (F.CARGO_BR_POLICY_REARM.base, fun w d => whenDo (w.sets 16) (rearm w.i) d),
  (F.PILOT_ARM_CTRL_FORCE_FENCE.base, fun w d =>
    whenDo (w.sets 1) (unfence w.i) (whenDo (w.sets 0) (forceFence w.i) d)),
  (F.PORT_CTRL_RESTART.base, portCtrlWrite),
  (F.COMPASS_BANK_CTRL_SWAP.base, fun w d => whenDo (w.sets 0) (fun d => d.rub F.COMPASS_BANK_ACTIVE (bit w.word 1)) d),
  (F.COMPASS_RULE_CMD_BANK.base, ruleCmdWrite),
  (F.COMPASS_MISS0_ACTION.base, fun w d => missActionWrite false w.value d),
  (F.COMPASS_MISS1_ACTION.base, fun w d => missActionWrite true w.value d),
  (F.COMPASS_METER_CFG_ENABLE.base, fun w d => meterCfgWrite w.i w.value d)]

/-- Registers of HELM, REDUN, QUEUE and TENDER whose write starts something. -/
def writeHost : List (Nat × WriteFn) := [
  (F.HELM_GATE_BASE_S_SECONDS.base, gateAdminWrite),
  (F.HELM_GATE_BASE_NS_NANOSECONDS.base, gateAdminWrite),
  (F.HELM_GATE_CYCLE_CYCLE_NS.base, gateAdminWrite),
  (F.HELM_GATE_ADMIN_STATES.base, gateAdminWrite),
  (F.HELM_GATE_CTRL_CANCEL.base, gateCtrlWrite),
  (F.HELM_SHAPER_CFG_ENABLE.base, fun w d => shaperCfgWrite w.i w.j w.value d),
  (F.REDUN_PE_CFG_ENABLE.base, fun w d => peCfgWrite w.i w.value d),
  (F.REDUN_PE_CTRL_VERIFY_RESTART.base, fun w d => whenDo (w.sets 0) (peRequest w.i .restart) d),
  (F.REDUN_STREAM_CFG_TX_PORTS.base, fun w d => streamCfgWrite w.i false w.value d),
  (F.REDUN_STREAM_RCVY_RESET_US.base, fun w d => streamCfgWrite w.i true w.value d),
  (F.REDUN_STREAM_CTRL_GEN_RESET.base, fun w d => whenDo (w.sets 0) (frerTakeAny w.i)
    (whenDo (w.sets 1) (fun d => d.setStream w.i { d.stream w.i with gen := 0 }) d)),
  (F.QUEUE_ADMIN_SQ_BASE_ADDR.base, adminBaseWrite),
  (F.QUEUE_ADMIN_CQ_BASE_ADDR.base, adminBaseWrite),
  (F.QUEUE_ADMIN_CFG_ENABLE.base, fun w d => adminEnable w.value d),
  (F.QUEUE_ADMIN_SQ_PROD_INDEX.base, fun w d => whenDo (w.has 0) (sqProdWrite adminQ (BitVec.ofNat 32 w.word)) d),
  (F.QUEUE_ADMIN_CQ_CONS_INDEX.base, fun w d => whenDo (w.has 0) (cqConsWrite adminQ (BitVec.ofNat 32 w.word)) d),
  (F.QUEUE_ADMIN_SQ_DB_RING.base, fun _ d => sqDoorbell adminQ d),
  (F.QUEUE_ADMIN_CQ_DB_RING.base, fun _ d => cqDoorbell adminQ d),
  (F.QUEUE_SQ_PROD_PROD.base, fun w d => whenDo (w.has 0) (sqProdWrite w.i (BitVec.ofNat 32 w.word)) d),
  (F.QUEUE_SQ_CTRL_INVALIDATE.base, fun w d => whenDo (w.sets 0) (sqInvalidate w.i) d),
  (F.QUEUE_CQ_CONS_CONS.base, fun w d => whenDo (w.has 0) (cqConsWrite w.i (BitVec.ofNat 32 w.word)) d),
  (F.TENDER_CH_START_DESC_ADDR.base, tenderRegWrite),
  (F.TENDER_CH_CTRL_CLEAR.base, tenderCtrlWrite)]

/-- Every register whose write is more than Table 00-3 says, by its first address, with what the write does. -/
def writeTo : List (Nat × WriteFn) := writeReckon ++ writePlant ++ writeHost

/-- A permitted write through PF0. -/
def regWritePf0 (a : Nat) (w : AccWidth) (v : Word) (d : Device) : Device :=
  match lookupReg (a / 8 * 8) with
  | none => d
  | some (rd, i, j) =>
    let m := accessMask a w
    let x : RegW := { addr := a, i := i, j := j, mask := m, word := mergeWord rd i j m (accessValue a w v) d }
    match writeTo.find? fun e => e.1 == rd.addr with
    | some e => e.2 x d
    | none => plainWrite x d

/-- REG_WRITE: a doorbell rings (R411); one that R4 does not permit changes no register (R5); BAR4 takes MSI-X table
writes, and PF1's other BARs ignore writes (R10). -/
def regWrite (fn : Fn) (a : Nat) (w : AccWidth) (v : Word) (d : Device) : Device :=
  if isDoorbell fn a then doorbellWrite (a - doorbellBase) d
  else if !accessOk fn a (widthBytes w) true then accessRefuse fn d
  else if msixBase fn ≤ a then msixAccess fn (a - msixBase fn) w v d
  else
    match fn with
    | .pf0 => regWritePf0 a w v d
    | .pf1 => d

/-! ### Reads (R7, R8, R10) -/

/-- First address of the COUNT block in PF0's BAR0, and the address after it (Table 01-8). -/
def countBase : Nat := 0xD00000
/-- The address after the COUNT block. -/
def countEnd : Nat := 0x1100000

/-- The 64-bit word at the 8-byte-aligned address `a` of a function: its registers, for PF1 also the input-image view
(R171), 0 at a doorbell (R411), and BAR4. -/
def barWord (fn : Fn) (a : Nat) (n : NonVol) (d : Device) : Nat :=
  if isDoorbell fn a then 0
  else if msixBase fn ≤ a then
    msixRead fn (a - msixBase fn) d + msixRead fn (a - msixBase fn + 4) d * 2 ^ 32
  else match fn with
  | .pf1 => if a < 0x400000 then (countWord a d).toNat else leNat (viewBytes 2 (a - 0x400000) 8 d)
  | .pf0 => if countBase ≤ a ∧ a < countEnd then (countWord (a - countBase) d).toNat else regWord a n d

/-- What a read of width `w` at `a` returns: the word, or the half it addresses. -/
def readValue (fn : Fn) (a : Nat) (w : AccWidth) (n : NonVol) (d : Device) : Word :=
  let x := barWord fn (a / 8 * 8) n d
  BitVec.ofNat 64 (match w with
    | .w64 => x
    | .w32 => if a % 8 = 4 then x / 2 ^ 32 else x % 2 ^ 32)

/-- The RC fields of the register at `a` lose the bits of the half that is read. -/
def rcClearReg (a mask : Nat) (d : Device) : Device :=
  match lookupReg (a / 8 * 8) with
  | none => d
  | some (rd, i, j) => rd.fields.foldl (fun d fd =>
      if fd.type = .rc then
        d.ru fd.fld (d.rg fd.fld i j &&& (2 ^ fd.fld.width - 1 - bits mask fd.fld.hi fd.fld.lo)) i j
      else d) d

/-- The counter at COUNT offset `o` loses the bits of the half that is read. -/
def rcClearCount (o mask : Nat) (d : Device) : Device :=
  { d with counters := tabSet 0 d.counters o (BitVec.ofNat 64 ((d.cnt o).toNat &&& (2 ^ 64 - 1 - mask))) }

/-- The clearing that a read of width `w` at `a` does; reads through PF1 never clear (R10). -/
def rcClear (fn : Fn) (a : Nat) (w : AccWidth) (d : Device) : Device :=
  match fn with
  | .pf1 => d
  | .pf0 =>
    if countBase ≤ a ∧ a < countEnd then rcClearCount (a / 8 * 8 - countBase) (accessMask a w) d
    else rcClearReg a (accessMask a w) d

/-- RC_READ: a read of any register, with the clearing of the RC fields it reaches. -/
def regRead (fn : Fn) (a : Nat) (w : AccWidth) (n : NonVol) (d : Device) : Device :=
  if isDoorbell fn a then d.emit (.readData fn a 0)
  else if !accessOk fn a (widthBytes w) false then accessRefuse fn d
  else (rcClear fn a w d).emit (.readData fn a (readValue fn a w n d))

/-- UNSUPPORTED_ACCESS: no register changes (R5); a doorbell knows no unsupported length (R411). -/
def unsupportedAccess (fn : Fn) (a : Nat) (isWrite : Bool) (d : Device) : Device :=
  if isDoorbell fn a then
    if isWrite then doorbellWrite (a - doorbellBase) d else d.emit (.readData fn a 0)
  else accessRefuse fn d

/-! ### Meanings -/

/-- UNSUPPORTED_ACCESS (R5). -/
def execUnsupportedAccess (fn : Fn) (a _n : Nat) (isWrite : Bool) (s : State) : Host.Outcome State Fault Refusal :=
  onHost (unsupportedAccess fn a isWrite) s
/-- REG_WRITE (R7). -/
def execRegWrite (fn : Fn) (a : Nat) (w : AccWidth) (v : Word) (s : State) : Host.Outcome State Fault Refusal :=
  onHost (regWrite fn a w v) s
/-- RC_READ (R8). -/
def execRcRead (fn : Fn) (a : Nat) (w : AccWidth) (s : State) : Host.Outcome State Fault Refusal :=
  onHostNv (fun n d => regRead fn a w n d) s

end Sys2Proof.Machine
end

