-- ==== Sys2Proof/Machine/PortRx.lean ====
section
/-!
DEFINITION. The reception of a frame (R175 to R182, R270 to R283, R297, R298, Table 03-14): reassembly, Pilot's
judgement and cut-off, the MAC counters, Garvane checks, MAC control, Hold admission, and the way to the Compass.
The choices it makes stand under notes/assumptions: 45 (DEDUCED), 46 (DEDUCED), 47 (PRESUMED), 56 (DEDUCED), 57
(DEDUCED), 60 (DEDUCED), 81 (DEDUCED).
-/

namespace Sys2Proof.Machine

/-! ### Garvane checks (R95, R544) -/

/-- Kinds that a port carries (Table 03-3). -/
def kindAllowed (uplink : Bool) (k : Nat) : Bool := if uplink then k == 3 || k == 4 else k == 1 || k == 2 || k == 5 || k == 6

/-- Whether the admitting window awaits a frame of this kind (R544). -/
def kindAwaited (w : Option Window) (k : Nat) (fromNode : Bool) : Bool :=
  match w with
  | none => k == 3 || k == 4
  | some w =>
    match w.kind with
    | .ferry => k == 1
    | .skiff => k == 2
    | .ownAcyclic => k == 5 && !fromNode
    | .nodeAcyclic => k == 5 && fromNode
    | .muster => k == 6
    | .fix => k == 3
    | .coldstart => k == 4

/-- The header bytes that the copy was sent with, for FERRY and SKIFF. -/
def sentHeader (w : Window) (chan : Nat) (d : Device) : Option Bytes :=
  match d.runOf w.branch w.crossing with
  | none => none
  | some r =>
    match w.kind with
    | .ferry => (r.frames[w.idx]?).map fun f => ferryHeader r w.idx f chan d
    | .skiff => (r.skiffs[w.idx]?).map fun s => skiffHeader r w.idx s chan d
    | _ => none

/-- The identity bytes of a train header that check 5 compares; the reserved bits of byte 13 are left to check 8. -/
def trainIdentity (pdu : Bytes) : Nat × Nat × Bytes := (beField pdu 12 1, beField pdu 13 1 % 8, slice pdu 14 4)

/-- Check 5: whether the fields other than CROSSING, and CROSSING, equal those sent. -/
def sentFields (w : Option Window) (pdu : Bytes) (d : Device) : Bool × Bool :=
  match w with
  | none => (true, true)
  | some w =>
    match w.kind with
    | .ferry | .skiff =>
      match sentHeader w (gvParse pdu).chan d with
      | none => (false, false)
      | some h => (trainIdentity h == trainIdentity pdu, slice h 4 6 == slice pdu 4 6)
    | .muster =>
      match (d.mch (musterPort w.branch (gvParse pdu).chan d)).sent with
      | none => (true, false)
      | some s => (beField pdu 20 1 == s.op && chanRuns w.branch (gvParse pdu).chan d, (gvParse pdu).crossing == s.crossing)
    | _ => (true, true)

/-- Check 6: whether PDU_LEN is right; `avail` is what of the PDU can lie in the frame as received. -/
def lengthOk (w : Option Window) (pdu : Bytes) (avail : Nat) (d : Device) : Bool :=
  let h := gvParse pdu
  let sent := fun (w : Window) =>
    match w.kind with
    | .muster => (d.mch (musterPort w.branch h.chan d)).sent.map fun s => 24 + 16 * s.entryMax
    | _ => (sentHeader w h.chan d).map fun b => beField b 10 2
  match h.kind with
  | 5 => decide (beField pdu 18 2 ≤ 1024) && h.pduLen == 24 + beField pdu 18 2 && decide (h.pduLen ≤ avail)
  | 3 | 4 => decide (h.pduLen ≤ avail)
  | _ => (w.bind sent) == some h.pduLen

/-- What a Garvane frame meets in Table 03-14: discarded under a counter, or handed on with its counters. -/
inductive GvVerdict where
  | discard (counter : Nat)
  | pass (counters : List Nat)
  deriving DecidableEq, Repr

/-- Table 03-14 for a frame on port `p`; counters are offsets of Table 03-15. DEDUCED: check 4 tests DEV, BRANCH and the
tags on branch arms only; an uplink has no branch, and R92 alone judges the DEV of a FIX or COLDSTART frame. -/
def gvCheck (p : Nat) (w : Option Window) (pdu : Bytes) (avail tags : Nat) (fl : RxFlags) (d : Device) : GvVerdict :=
  let h := gvParse pdu
  let up := d.isUplink p
  let arm := d.isArm p
  if gvVersion pdu ≠ 1 then .discard 0x08
  else if !kindAllowed up h.kind || !kindAwaited w h.kind h.fromNode then .discard 0x10
  else if !gvHcrcOk pdu then .discard 0x18
  else if h.chan = 3 || (arm && (h.dev != d.rg F.GLOBAL_ID_DEVICE_ID || h.branch != d.rg F.PILOT_ARM_CFG_BRANCH p
      || tags != 0)) then .discard 0x20
  else
    let sent := sentFields w pdu d
    if !sent.1 then .discard 0x20
    else if !sent.2 then .discard 0x28
    else if !lengthOk w pdu avail d then .discard 0x30
    else
      let train := h.kind == 1 || h.kind == 2
      if fl.trunc then (if train then .pass [0x40] else .discard 0x40)
      else if fl.fcsErr then (if train then .pass [0x38] else .discard 0x38)
      else .pass (if gvReservedSet pdu then [0x48] else [])

/-- A run whose copy was discarded may now decide (R116). -/
def copyLost (w : Option Window) (d : Device) : Device :=
  match w with
  | none => d
  | some w => if w.kind = .ferry ∨ w.kind = .skiff then runDecide w.branch w.crossing d else d

/-- A Garvane frame that Pilot admitted: the checks, then it waits for its consumer. -/
def gvReceive (p : Nat) (w : Option Window) (bytes : Bytes) (avail status : Nat) (stamp : Stamp) (endAt : Int)
    (fl : RxFlags) (d : Device) : Device :=
  let e := ethParse bytes
  let pdu := bytes.drop e.off
  let d := d.count (gvCnt p 0)
  match gvCheck p w pdu avail e.tags fl d with
  | .discard k => copyLost w (d.count (gvCnt p k))
  | .pass l =>
    let d := l.foldl (fun d k => d.count (gvCnt p k)) d
    { d with pilot.handed := d.pilot.handed ++ [{ port := p, win := w, bytes := bytes, off := e.off, stamp := stamp,
                                                  rxStatus := status, endAt := endAt }] }

/-! ### MAC counters and status (R271, R272, R275 to R277) -/

/-- The counters of Tables 09-5 and 09-8 for a frame of length `len`. -/
def macCount (p : Nat) (bytes : Bytes) (len : Nat) (fl : RxFlags) (d : Device) : Device :=
  if len < 14 then d.count (portCnt p 0x20)
  else if fl.runt then d.count (portCnt p 0x28)
  else
    let d := d.countIf fl.oversize (portCnt p 0x30)
    let d := ((d.countIf fl.fcsErr (portCnt p 0x38)).countIf fl.codeErr (portCnt p 0x40)).countIf fl.alignErr
      (portCnt p 0x48)
    let d := d.countIf fl.trunc (portCnt p 0x50)
    if fl.bad || fl.oversize then d
    else
      let da := beField bytes 0 6
      let d := (d.count (portCnt p 0)).countN (portCnt p 8) len
      if da = 2 ^ 48 - 1 then d.count (portCnt p 0x18) else d.countIf (bit da 40) (portCnt p 0x10)

/-- The receive status of a frame, with the checksum counters. -/
def rxReport (p : Nat) (bytes : Bytes) (fl : RxFlags) (d : Device) : Nat × Device :=
  let body := bytes.take (bytes.length - 4)
  let check := d.rb F.PORT_FRAME_RX_CSUM p && !({ fl with runt := false } : RxFlags).any
  let l3 := if check then l3Status body else 0
  let l4 := if check then l4Status body else 0
  let d := ((d.countIf (l3 == 2) (portCnt p 0x80)).countIf (l4 == 2) (portCnt p 0x88)).countIf (l4 == 3) (portCnt p 0x90)
  (rxStatus fl l3 l4 (tagsStatus bytes), d)

/-! ### MAC control (R282, R283) -/

/-- Whether a frame is a MAC control frame. -/
def isMacControl (bytes : Bytes) : Bool := beField bytes 0 6 == 0x0180C2000001 && beField bytes 12 2 == 0x8808

/-- The pause of class `c` becomes `q` quanta, counted from the raw count `t`. -/
def pauseSet (p c q : Nat) (t : Word) (d : Device) : Device :=
  let x := d.port p
  let e := if q = 0 then none else some (t + BitVec.ofNat 64 (quantaTicks p q d))
  d.setPort p { x with pauseEnd := tabSet none x.pauseEnd c e }

/-- A PAUSE frame acted on. -/
def pauseAct (p : Nat) (bytes : Bytes) (t : Word) (d : Device) : Device :=
  let d := (List.range 8).foldl (fun d c => pauseSet p c (beField bytes 16 2) t d) (d.count (portCnt p 0x70))
  helmRetry (portStatus p 5 d)

/-- A PFC frame acted on. -/
def pfcAct (p : Nat) (bytes : Bytes) (t : Word) (d : Device) : Device :=
  let en := beField bytes 16 2 % 256
  let d := (List.range 8).foldl (fun d c => if bit en c then pauseSet p c (beField bytes (18 + 2 * c) 2) t d else d)
    (d.count (portCnt p 0x78))
  helmRetry (if en = 0 then d else portStatus p 5 d)

/-- A MAC control frame that ended at the raw count `t`, counted and acted on. -/
def macControlRx (p : Nat) (bytes : Bytes) (t : Word) (d : Device) : Device :=
  let d := d.count (portCnt p 0x68)
  let mode := d.rg F.PORT_FLOW_MODE p
  let op := beField bytes 14 2
  if op = 0x0001 ∧ mode = 1 then pauseAct p bytes t d
  else if op = 0x0101 ∧ mode = 2 then pfcAct p bytes t d
  else d

/-! ### Standard frames (R272, R280) -/

/-- Whether R280 admits a frame of priority `q` into Hold. -/
def holdAdmits (p q : Nat) (d : Device) : Bool :=
  let m := d.rg F.PORT_FRAME_MAX_FRAME p
  let o := if d.rg F.PORT_FLOW_MODE p = 2 then occupancyOf p q d else occupancy p d
  decide (o + m ≤ d.rg F.PORT_FLOW_WM_HOLD_LIMIT p * 256) && decide (holdUsed d + m ≤ 2 ^ 25)

/-- A frame bound for the Compass: Hold, DELIVER_BAD, and its lookup. -/
def standardRx (p : Nat) (bytes : Bytes) (len status : Nat) (stamp : Stamp) (fl : RxFlags) (d : Device) : Device :=
  let prio := framePrio p bytes d
  if !holdAdmits p prio d then d.count (portCnt p 0x60)
  else if fl.bad && !d.rb F.PORT_FRAME_DELIVER_BAD p then d
  else
    let d := d.countIf fl.bad (portCnt p 0x58)
    let h := holdNew p prio bytes.length 1 d
    compassRx { port := p, bytes := bytes.take (bytes.length - 4), len := len, status := status, stamp := stamp,
                hold := h.1 } h.2

/-! ### The whole path -/

/-- Whether Pilot judges a frame (R175, R75). -/
def pilotJudges (p : Nat) (bytes : Bytes) (d : Device) : Bool :=
  let e := ethParse bytes
  let k := beField bytes e.off 1 % 16
  d.isArm p || (d.isUplink p && beField bytes 0 6 == d.netCfg.groupAddr && e.etype == d.netCfg.etherType
    && (k == 3 || k == 4))

/-- Bytes of a frame with first-bit time `x` that have arrived by `close`. -/
def bytesBy (p : Nat) (x close : Int) (d : Device) : Nat := ((close - x) * d.rate p / nsT 8).toNat

/-- Pilot's judgement of a frame with first-bit stamp `stamp`, whatever the port later finds in it; none when Pilot judges
no such frame (R175). -/
def pilotVerdict (p : Nat) (bytes : Bytes) (stamp : Stamp) (d : Device) : Option Verdict × Device :=
  if pilotJudges p bytes d then
    let r := pilotJudge p stamp d
    (some r.1, r.2)
  else (none, d)

/-- The last bit, that of the FCS, of a frame that window `w` admitted has been received at `endAt`, or Pilot cut it off
at the window's close (R116, R180, R188); the times of the worked example, Table 04-7, end a copy W after its first bit
instead, and R1 makes R116 govern. -/
def admittedEnd (p : Nat) (w : Option Window) (cut : Bool) (stamp : Stamp) (endAt : Int) (d : Device) : Device :=
  match w with
  | none => d
  | some w =>
    let d := windowDone w.id (if cut then w.close else endAt) d
    if cut then violation p 2 (deviationOf (d.timeAt .x stamp - w.expect)) d else d

/-- What the port itself makes of every frame received in RUN, before the frame is passed on or withheld: the counters of
Table 09-5, the checksums of R276, and MAC control (R283). A damaged MAC control frame is counted and not acted on. -/
def macReceive (p : Nat) (bytes : Bytes) (len : Nat) (last : Stamp) (fl : RxFlags) (d : Device) : Nat × Device :=
  let d := macCount p bytes len fl d
  if len < 14 then (0, d)
  else
    let r := rxReport p bytes fl d
    (r.1, if !isMacControl bytes then r.2
      else if fl.bad then r.2.count (portCnt p 0x68)
      else macControlRx p bytes last.count r.2)

/-- A frame after Pilot's verdict: `w` admitted it (outer none: not judged), and `cut` says that it was cut off. -/
def rxAdmitted (p : Nat) (f : RxFrame) (judged : Bool) (w : Option Window) (cut : Bool) (stamp : Stamp) (d : Device) :
    Device :=
  let maxFrame := d.rg F.PORT_FRAME_MAX_FRAME p
  let fl := rxFlags f maxFrame cut
  let len := f.bytes.length
  let bytes := f.bytes.take maxFrame
  let last := byteEnd stamp (len - 1) (d.rate p)
  let endAt := d.timeAt .x last
  let r := macReceive p bytes len last fl d
  let d := admittedEnd p w cut stamp endAt r.2
  let garvane := judged && decide (14 ≤ len) && (ethParse bytes).etype == d.netCfg.etherType
  if judged && !garvane then copyLost w (d.count (pilotCnt p 0x20))
  else if len < 14 then d
  else if garvane then
    let off := (ethParse bytes).off
    let avail := if fl.trunc || fl.oversize then bytes.length - off else len - 4 - off
    gvReceive p w bytes avail r.1 stamp endAt fl (d.countIf fl.bad (portCnt p 0x58))
  else if isMacControl bytes && !d.rb F.PORT_FRAME_PASS_CTRL p then d
  else standardRx p bytes len r.1 stamp fl d

/-- A frame that Pilot blocked: discarded whole (R179), once the port has counted and checked it. -/
def rxBlocked (p : Nat) (f : RxFrame) (stamp : Stamp) (d : Device) : Device :=
  let maxFrame := d.rg F.PORT_FRAME_MAX_FRAME p
  (macReceive p (f.bytes.take maxFrame) f.bytes.length (byteEnd stamp (f.bytes.length - 1) (d.rate p))
    (rxFlags f maxFrame false) d).2

/-- Whether Pilot cuts off a frame that window `w` admitted, and the frame up to there; `late` says that Pilot ended it.
-/
def cutAt (p : Nat) (f : RxFrame) (late : Bool) (w : Window) (stamp : Stamp) (d : Device) : Bool × RxFrame :=
  let n := bytesBy p (d.timeAt .x stamp) w.close d
  (late || decide (n < f.bytes.length), { f with bytes := f.bytes.take n })

/-- A whole frame received on port `p` in RUN. -/
def frameWhole (p : Nat) (f : RxFrame) (late : Bool) (d : Device) : Device :=
  let stamp := rxStamp p f.island f.bitPos d
  match pilotVerdict p f.bytes stamp d with
  | (none, d) => rxAdmitted p f false none false stamp d
  | (some .block, d) => rxBlocked p f stamp d
  | (some (.admitted none), d) => rxAdmitted p f true none false stamp d
  | (some (.admitted (some w)), d) =>
    let c := cutAt p f late w stamp d
    rxAdmitted p c.2 true (some w) c.1 stamp d

/-! ### Reassembly (R297, R298) -/

/-- A frame that the port discards under R297 or R298: Pilot judged it at its first bit all the same (R175), and counts
one that it admitted without the Garvane EtherType (R181). -/
def frameDiscard (p : Nat) (f : RxFrame) (late : Bool) (d : Device) : Device :=
  let stamp := rxStamp p f.island f.bitPos d
  let foreign := fun (bytes : Bytes) => bytes.length < 14 || (ethParse bytes).etype != d.netCfg.etherType
  match pilotVerdict p f.bytes stamp d with
  | (some (.admitted (some w)), d) =>
    let c := cutAt p f late w stamp d
    copyLost (some w) ((admittedEnd p (some w) c.1 stamp
      (d.timeAt .x (byteEnd stamp (c.2.bytes.length - 1) (d.rate p))) d).countIf (foreign c.2.bytes) (pilotCnt p 0x20))
  | (some (.admitted none), d) => d.countIf (foreign f.bytes) (pilotCnt p 0x20)
  | (_, d) => d

/-- The mCRC of a fragment: the CRC-32 of the frame up to the fragment's end, its low 16 bits inverted. PRESUMED: IEEE
802.3 Clause 99, which the spec names for the fragment formats. -/
def mcrcOf (bs : Bytes) : Bytes := leBytes 4 (crc32 bs ^^^ 0xFFFF)

/-- Reassembly ends without a frame: the partial frame, if any, is discarded and counted. -/
def asmFail (p : Nat) (late : Bool) (d : Device) : Device :=
  let x := d.port p
  let d := (d.setPort p { x with asm := none }).count (peCnt p 8)
  match x.asm with
  | none => d
  | some a => frameDiscard p a.frame late d

/-- Fragment `f` joins the frame `a`: the frame so far when the fragment is not the last, which then must end with its
mCRC and be as long as Table 10-1 accepts. -/
def asmJoin (p : Nat) (a : Reassembly) (f : RxFrame) (last late : Bool) (d : Device) : Option RxFrame × Device :=
  let whole := a.frame.bytes ++ f.bytes
  let part := whole.take (whole.length - 4)
  let g : RxFrame := { a.frame with codeErr := a.frame.codeErr || f.codeErr, alignErr := a.frame.alignErr || f.alignErr,
                                    invalidTerm := a.frame.invalidTerm || f.invalidTerm }
  if f.bytes.length < 64 || (!last && whole.drop (whole.length - 4) != mcrcOf part) then
    (none, asmFail p late (d.setPort p { d.port p with asm := some { a with frame := { g with bytes := part } } }))
  else if last then
    (some { g with bytes := whole }, (d.setPort p { d.port p with asm := none }).count (peCnt p 0))
  else
    (none, d.setPort p { d.port p with asm := some { a with frame := { g with bytes := part }, next := a.next + 1 } })

/-- Reassembly takes what was received: the whole frame that results, if any. The fragment count runs modulo 4 from 0 at
the second fragment. -/
def reassemble (p : Nat) (f : RxFrame) (late : Bool) (d : Device) : Option RxFrame × Device :=
  match f.delimiter with
  | .express => (some f, d)
  | .unknown => (none, frameDiscard p f late (d.count (peCnt p 0x10)))
  | .first n last =>
    let d := d.count (peCnt p 0x18)
    let d := if (d.port p).asm.isSome then asmFail p late d else d
    if last then (some f, d.count (peCnt p 0))
    else asmJoin p { frame := { f with bytes := [] }, count := n % 4, next := 0 } f false late d
  | .next n k last =>
    let d := d.count (peCnt p 0x18)
    match (d.port p).asm with
    | none => (none, asmFail p late d)
    | some a => if a.count = n % 4 ∧ a.next % 4 = k % 4 then asmJoin p a f last late d else (none, asmFail p late d)

/-- FEC_CORRECTED, FEC_UNCORRECTED, FEC_SYMBOLS and PCS_ERR_BLOCKS (Table 09-8). -/
def lineErrors (p : Nat) (e : LineErrors) (d : Device) : Device :=
  if e = {} then d
  else
    let d := (d.countN (portCnt p 0xD0) e.corrected).countN (portCnt p 0xD8) e.uncorrected
    (d.countN (portCnt p 0xE0) e.symbols).countN (portCnt p 0xE8) e.blocks

/-- The reception of a frame or fragment on port `p`; `late` says that Pilot ended it at its window's close. -/
def frameReceive (p : Nat) (f : RxFrame) (late : Bool) (d : Device) : Device :=
  if (d.port p).st = .fenced then d.count (pilotCnt p 0x30)
  else if !d.portRun p then d
  else
  let d := lineErrors p f.errors d
  if f.delimiter ≠ .express ∧ d.rb F.REDUN_PE_CFG_ENABLE p = false then
    frameDiscard p f late (d.count (peCnt p 0x10))
  else
    match reassemble p f late d with
    | (none, d) => d
    | (some g, d) => frameWhole p g late d

/-- A verify frame, or a respond frame when `resp` holds: Pilot judges it on a branch arm and discards it there (R175,
R181); an uplink without pre-emption discards it (R298), and another answers it or takes it as the answer (R299, R300).
DEDUCED: it carries 60 bytes of 0 and its mCRC. -/
def mergeRx (resp : Bool) (f : MergeFrame) (d : Device) : Device :=
  let p := f.port
  let g : RxFrame := { bytes := List.replicate 64 0, island := f.stamp.island, bitPos := f.stamp.bitPos }
  if (d.port p).st = .fenced then d.count (pilotCnt p 0x30)
  else if !d.portRun p then d
  else if !d.rb F.REDUN_PE_CFG_ENABLE p then frameDiscard p g false (d.count (peCnt p 0x10))
  else if d.isArm p then frameDiscard p g false (d.countIf resp (peCnt p 0x38))
  else if !resp then mergeSend p true d
  else
    let d := d.count (peCnt p 0x38)
    if (d.port p).verify = .verifying then peRequest p .respond d else d

/-! ### Meanings -/

/-- VERIFY_FRAME_RX (R300). -/
def execVerifyFrameRx (f : MergeFrame) (s : State) : Host.Outcome State Fault Refusal := onDev (mergeRx false f) s
/-- RESPOND_FRAME_RX (R299, R300). -/
def execRespondFrameRx (f : MergeFrame) (s : State) : Host.Outcome State Fault Refusal := onDev (mergeRx true f) s

/-- PORT_RX_FRAME (R272). -/
def execPortRxFrame (p : Nat) (f : RxFrame) (s : State) : Host.Outcome State Fault Refusal :=
  onDev (frameReceive p f false) s
/-- PILOT_CUT_OFF (R180): the frame as it had arrived at its window's close. -/
def execPilotCutOff (p : Nat) (f : RxFrame) (s : State) : Host.Outcome State Fault Refusal :=
  onDev (frameReceive p f true) s
/-- PAUSE_FRAME_RX (R282): a received frame that is a PAUSE frame. -/
def execPauseFrameRx (p : Nat) (f : RxFrame) (s : State) : Host.Outcome State Fault Refusal :=
  onDev (fun d => if isMacControl f.bytes && beField f.bytes 14 2 == 0x0001 then frameReceive p f false d else d) s
/-- PFC_FRAME_RX (R282): a received frame that is a PFC frame. -/
def execPfcFrameRx (p : Nat) (f : RxFrame) (s : State) : Host.Outcome State Fault Refusal :=
  onDev (fun d => if isMacControl f.bytes && beField f.bytes 14 2 == 0x0101 then frameReceive p f false d else d) s

end Sys2Proof.Machine
end

