-- ==== Sys2Proof/Machine/Dispatch.lean ====
section
/-!
DEFINITION. One arm per command: its meaning, written in full. The queue is the step's (Step.lean).
The choices it makes stand under notes/assumptions: 1 (DESIGN CHOICE), 4 (DESIGN CHOICE).
-/

namespace Sys2Proof.Machine

/-- The effect of a command on everything but the queue. -/
def exec (i : Instr) (s : State) : Host.Outcome State Fault Refusal :=
  match i with
  | .powerOn => Sys2Proof.Machine.execPowerOn s
  | .resetAssert pin lowNs => Sys2Proof.Machine.execResetAssert pin lowNs s
  | .resetRelease ref10MHz => Sys2Proof.Machine.execResetRelease ref10MHz s
  | .wipeComplete flash => Sys2Proof.Machine.execWipeComplete flash s
  | .perstAssert lowNs => Sys2Proof.Machine.execPerstAssert lowNs s
  | .perstRelease => Sys2Proof.Machine.execPerstRelease s
  | .flrPf0 => Sys2Proof.Machine.execFlrPf0 s
  | .flrPf1 => Sys2Proof.Machine.execFlrPf1 s
  | .busMasterEnableChange fn enable => Sys2Proof.Machine.execBusMasterEnableChange fn enable s
  | .pcieConfigWrite fn target value => Sys2Proof.Machine.execPcieConfigWrite fn target value s
  | .msixUnmask fn v => Sys2Proof.Machine.execMsixUnmask fn v s
  | .unsupportedAccess fn addr bytes isWrite => Sys2Proof.Machine.execUnsupportedAccess fn addr bytes isWrite s
  | .regWrite fn addr w value => Sys2Proof.Machine.execRegWrite fn addr w value s
  | .rcRead fn addr w => Sys2Proof.Machine.execRcRead fn addr w s
  | .flitReceive link flit crc => Sys2Proof.Machine.execFlitReceive link flit crc s
  | .fabricFailLimit link => Sys2Proof.Machine.execFabricFailLimit link s
  | .memUncorrectable kind site => Sys2Proof.Machine.execMemUncorrectable kind site s
  | .haltLogWrite => Sys2Proof.Machine.execHaltLogWrite s
  | .crossingBoundary fixDone fuseOk => Sys2Proof.Machine.execCrossingBoundary fixDone fuseOk s
  | .cargoErrLimit => Sys2Proof.Machine.execCargoErrLimit s
  | .ferryAssembled b k => Sys2Proof.Machine.execFerryAssembled b k s
  | .ferryLaunch b k => Sys2Proof.Machine.execFerryLaunch b k s
  | .ferryReturn p => Sys2Proof.Machine.execFerryReturn p s
  | .skiffReturn p => Sys2Proof.Machine.execSkiffReturn p s
  | .returnWindowClose id => Sys2Proof.Machine.execReturnWindowClose id s
  | .skiffLaunch b ready => Sys2Proof.Machine.execSkiffLaunch b ready s
  | .branchDeadline b mergeDone lateMerges => Sys2Proof.Machine.execBranchDeadline b mergeDone lateMerges s
  | .cyclePointFire n => Sys2Proof.Machine.execCyclePointFire n s
  | .claimSpare => Sys2Proof.Machine.execClaimSpare s
  | .releaseSpare => Sys2Proof.Machine.execReleaseSpare s
  | .acyclicLaunch b w => Sys2Proof.Machine.execAcyclicLaunch b w s
  | .fetchPoint => Sys2Proof.Machine.execFetchPoint s
  | .outSeqReadDone value => Sys2Proof.Machine.execOutSeqReadDone value s
  | .fetchComplete rest => Sys2Proof.Machine.execFetchComplete rest s
  | .snapshotConfirmed c => Sys2Proof.Machine.execSnapshotConfirmed c s
  | .handoverTransferFail snapshot addr fault => Sys2Proof.Machine.execHandoverTransferFail snapshot addr fault s
  | .attach alsoDetach => Sys2Proof.Machine.execAttach alsoDetach s
  | .detach => Sys2Proof.Machine.execDetach s
  | .rearm b => Sys2Proof.Machine.execRearm b s
  | .portRxFrame p f => Sys2Proof.Machine.execPortRxFrame p f s
  | .pilotCutOff p f => Sys2Proof.Machine.execPilotCutOff p f s
  | .violationLimitReached p => Sys2Proof.Machine.execViolationLimitReached p s
  | .fenceRemainExpire p => Sys2Proof.Machine.execFenceRemainExpire p s
  | .forceFence p => Sys2Proof.Machine.execForceFence p s
  | .unfence p => Sys2Proof.Machine.execUnfence p s
  | .nodeAcyclicRx p => Sys2Proof.Machine.execNodeAcyclicRx p s
  | .ownAcyclicReturn p => Sys2Proof.Machine.execOwnAcyclicReturn p s
  | .musterReturn p => Sys2Proof.Machine.execMusterReturn p s
  | .musterWindowExpire p => Sys2Proof.Machine.execMusterWindowExpire p s
  | .musterTimeout => Sys2Proof.Machine.execMusterTimeout s
  | .musterAccept b => Sys2Proof.Machine.execMusterAccept b s
  | .fixFrameSend p skew => Sys2Proof.Machine.execFixFrameSend p skew s
  | .fixRx p => Sys2Proof.Machine.execFixRx p s
  | .coldstartRx p => Sys2Proof.Machine.execColdstartRx p s
  | .listenTimeout => Sys2Proof.Machine.execListenTimeout s
  | .coldstartSend p skew => Sys2Proof.Machine.execColdstartSend p skew s
  | .backoffTimeout => Sys2Proof.Machine.execBackoffTimeout s
  | .confirmCountReached => Sys2Proof.Machine.execConfirmCountReached s
  | .integrateCountReached => Sys2Proof.Machine.execIntegrateCountReached s
  | .sourceLossLimitReached => Sys2Proof.Machine.execSourceLossLimitReached s
  | .regainCountReached => Sys2Proof.Machine.execRegainCountReached s
  | .snapshotTake => Sys2Proof.Machine.execSnapshotTake s
  | .reckonIncrWrite d value => Sys2Proof.Machine.execReckonIncrWrite d value s
  | .reckonStepWrite d value => Sys2Proof.Machine.execReckonStepWrite d value s
  | .reckonSetHiWrite d value => Sys2Proof.Machine.execReckonSetHiWrite d value s
  | .reckonSetLoWrite d value => Sys2Proof.Machine.execReckonSetLoWrite d value s
  | .deferredFold d => Sys2Proof.Machine.execDeferredFold d s
  | .servoAlive d => Sys2Proof.Machine.execServoAlive d s
  | .holdoverTimeout d => Sys2Proof.Machine.execHoldoverTimeout d s
  | .primaryArm target auto => Sys2Proof.Machine.execPrimaryArm target auto s
  | .primaryDisarm target auto => Sys2Proof.Machine.execPrimaryDisarm target auto s
  | .primarySwitch => Sys2Proof.Machine.execPrimarySwitch s
  | .refclkTimeLost => Sys2Proof.Machine.execRefclkTimeLost s
  | .refclkTimeReturn => Sys2Proof.Machine.execRefclkTimeReturn s
  | .ppsInEdge => Sys2Proof.Machine.execPpsInEdge s
  | .ptmTrigger => Sys2Proof.Machine.execPtmTrigger s
  | .ptmAutoInterval => Sys2Proof.Machine.execPtmAutoInterval s
  | .ptmDialogDone master resp => Sys2Proof.Machine.execPtmDialogDone master resp s
  | .ptmTimeout => Sys2Proof.Machine.execPtmTimeout s
  | .strecConsWrite value => Sys2Proof.Machine.execStrecConsWrite value s
  | .tioModeWrite n value => Sys2Proof.Machine.execTioModeWrite n value s
  | .tioArm n => Sys2Proof.Machine.execTioArm n s
  | .tioDisarm n => Sys2Proof.Machine.execTioDisarm n s
  | .beaconEdge n => Sys2Proof.Machine.execBeaconEdge n s
  | .tioPulseEnd n => Sys2Proof.Machine.execTioPulseEnd n s
  | .tioCaptureEdge n level => Sys2Proof.Machine.execTioCaptureEdge n level s
  | .timedLaunch p skew => Sys2Proof.Machine.execTimedLaunch p skew s
  | .frameTxStart p block => Sys2Proof.Machine.execFrameTxStart p block s
  | .frameTxEnd p => Sys2Proof.Machine.execFrameTxEnd p s
  | .preempt p frac => Sys2Proof.Machine.execPreempt p frac s
  | .preemptAtClose p c frac => Sys2Proof.Machine.execPreemptAtClose p c frac s
  | .gateChange p => Sys2Proof.Machine.execGateChange p s
  | .gateConfigChange p => Sys2Proof.Machine.execGateConfigChange p s
  | .gateCancel p => Sys2Proof.Machine.execGateCancel p s
  | .gateChangeTime p => Sys2Proof.Machine.execGateChangeTime p s
  | .shaperCfgWrite p c value => Sys2Proof.Machine.execShaperCfgWrite p c value s
  | .sampleRound => Sys2Proof.Machine.execSampleRound s
  | .portLockAcquired p trained => Sys2Proof.Machine.execPortLockAcquired p trained s
  | .portLinkFault p cause => Sys2Proof.Machine.execPortLinkFault p cause s
  | .portRecoveryTimeout p => Sys2Proof.Machine.execPortRecoveryTimeout p s
  | .anFail p => Sys2Proof.Machine.execAnFail p s
  | .refclkNetLost r => Sys2Proof.Machine.execRefclkNetLost r s
  | .refclkNetReturn r => Sys2Proof.Machine.execRefclkNetReturn r s
  | .portRestart p => Sys2Proof.Machine.execPortRestart p s
  | .portTestStart p => Sys2Proof.Machine.execPortTestStart p s
  | .portTestStop p => Sys2Proof.Machine.execPortTestStop p s
  | .portSleep p => Sys2Proof.Machine.execPortSleep p s
  | .portWake p => Sys2Proof.Machine.execPortWake p s
  | .wakePatternMatch p frame => Sys2Proof.Machine.execWakePatternMatch p frame s
  | .wakeSignal p => Sys2Proof.Machine.execWakeSignal p s
  | .pauseFrameRx p f => Sys2Proof.Machine.execPauseFrameRx p f s
  | .pfcFrameRx p f => Sys2Proof.Machine.execPfcFrameRx p f s
  | .pauseTimerExpire p c => Sys2Proof.Machine.execPauseTimerExpire p c s
  | .xoffRepeat p => Sys2Proof.Machine.execXoffRepeat p s
  | .verifyFrameRx f => Sys2Proof.Machine.execVerifyFrameRx f s
  | .respondFrameRx f => Sys2Proof.Machine.execRespondFrameRx f s
  | .verifyTimeout p => Sys2Proof.Machine.execVerifyTimeout p s
  | .verifyRestart p => Sys2Proof.Machine.execVerifyRestart p s
  | .peCfgWrite p value => Sys2Proof.Machine.execPeCfgWrite p value s
  | .frerResetTimeout id => Sys2Proof.Machine.execFrerResetTimeout id s
  | .streamCfgWrite id recovery value => Sys2Proof.Machine.execStreamCfgWrite id recovery value s
  | .genReset id => Sys2Proof.Machine.execGenReset id s
  | .rcvyReset id => Sys2Proof.Machine.execRcvyReset id s
  | .recircPass2 => Sys2Proof.Machine.execRecircPass2 s
  | .bankSwap target => Sys2Proof.Machine.execBankSwap target s
  | .ruleWrite bank index => Sys2Proof.Machine.execRuleWrite bank index s
  | .ruleRead bank index => Sys2Proof.Machine.execRuleRead bank index s
  | .ruleInvalidate bank index => Sys2Proof.Machine.execRuleInvalidate bank index s
  | .missActionWrite bank value => Sys2Proof.Machine.execMissActionWrite bank value s
  | .meterCfgWrite m value => Sys2Proof.Machine.execMeterCfgWrite m value s
  | .trimEvalInterval sensors => Sys2Proof.Machine.execTrimEvalInterval sensors s
  | .avsTransactionDone acked currentDa => Sys2Proof.Machine.execAvsTransactionDone acked currentDa s
  | .avsFaultLimit => Sys2Proof.Machine.execAvsFaultLimit s
  | .relaxLimit => Sys2Proof.Machine.execRelaxLimit s
  | .headingSelect v => Sys2Proof.Machine.execHeadingSelect v s
  | .sqDoorbell q => Sys2Proof.Machine.execSqDoorbell q s
  | .cqDoorbell q => Sys2Proof.Machine.execCqDoorbell q s
  | .sqProdWrite q value => Sys2Proof.Machine.execSqProdWrite q value s
  | .cqConsWrite q value => Sys2Proof.Machine.execCqConsWrite q value s
  | .sqInvalidate q => Sys2Proof.Machine.execSqInvalidate q s
  | .invalidateDone q => Sys2Proof.Machine.execInvalidateDone q s
  | .unitFetchDone q r => Sys2Proof.Machine.execUnitFetchDone q r s
  | .nop q => Sys2Proof.Machine.execNop q s
  | .send q sgList => Sys2Proof.Machine.execSend q sgList s
  | .sendFrameFetched q head frame => Sys2Proof.Machine.execSendFrameFetched q head frame s
  | .rxPost q => Sys2Proof.Machine.execRxPost q s
  | .acyclicSend q data => Sys2Proof.Machine.execAcyclicSend q data s
  | .tenderRun q => Sys2Proof.Machine.execTenderRun q s
  | .adminEnable value => Sys2Proof.Machine.execAdminEnable value s
  | .createCq => Sys2Proof.Machine.execCreateCq s
  | .deleteCq => Sys2Proof.Machine.execDeleteCq s
  | .createSq => Sys2Proof.Machine.execCreateSq s
  | .deleteSq => Sys2Proof.Machine.execDeleteSq s
  | .testStart => Sys2Proof.Machine.execTestStart s
  | .testEnd => Sys2Proof.Machine.execTestEnd s
  | .tenderDescriptorFetched c desc srcList dstList => Sys2Proof.Machine.execTenderDescriptorFetched c desc srcList dstList s
  | .tenderReadComplete c dst offset data => Sys2Proof.Machine.execTenderReadComplete c dst offset data s
  | .tenderReadError c what cause => Sys2Proof.Machine.execTenderReadError c what cause s
  | .barrierReadDone c => Sys2Proof.Machine.execBarrierReadDone c s
  | .tenderAbort c => Sys2Proof.Machine.execTenderAbort c s
  | .tenderClear c => Sys2Proof.Machine.execTenderClear c s
  | .msixHoldoffExpire v => Sys2Proof.Machine.execMsixHoldoffExpire v s
  | .eventRouteWrite n value => Sys2Proof.Machine.execEventRouteWrite n value s
  | .eventVecWrite v value => Sys2Proof.Machine.execEventVecWrite v value s
  | .flashHeaderReadDone => Sys2Proof.Machine.execFlashHeaderReadDone s
  | .slotReadDone readOk => Sys2Proof.Machine.execSlotReadDone readOk s
  | .slotVerifyDone => Sys2Proof.Machine.execSlotVerifyDone s
  | .chartCheckDone => Sys2Proof.Machine.execChartCheckDone s
  | .retiredEraseDone => Sys2Proof.Machine.execRetiredEraseDone s
  | .stageBegin flashOk => Sys2Proof.Machine.execStageBegin flashOk s
  | .stageWrite data flashOk => Sys2Proof.Machine.execStageWrite data flashOk s
  | .stageVerify => Sys2Proof.Machine.execStageVerify s
  | .slotInvalidate flashOk => Sys2Proof.Machine.execSlotInvalidate flashOk s
  | .persistWrite data flashOk => Sys2Proof.Machine.execPersistWrite data flashOk s
  | .persistRead => Sys2Proof.Machine.execPersistRead s
  | .lcProvision keyHash fuseOk => Sys2Proof.Machine.execLcProvision keyHash fuseOk s
  | .lcField fuseOk => Sys2Proof.Machine.execLcField fuseOk s
  | .lcRetire auth fuseOk => Sys2Proof.Machine.execLcRetire auth fuseOk s
  | .warmReset value => Sys2Proof.Machine.execWarmReset value s
  | .smbReadStatus => Sys2Proof.Machine.execSmbReadStatus s
  | .smbReadTmax => Sys2Proof.Machine.execSmbReadTmax s
  | .smbReadPower => Sys2Proof.Machine.execSmbReadPower s
  | .smbReadCurrent => Sys2Proof.Machine.execSmbReadCurrent s
  | .smbReadVoltage => Sys2Proof.Machine.execSmbReadVoltage s
  | .smbReadHeading => Sys2Proof.Machine.execSmbReadHeading s
  | .smbReadCrossing => Sys2Proof.Machine.execSmbReadCrossing s
  | .smbReadSensor code => Sys2Proof.Machine.execSmbReadSensor code s
  | .smbReadUnlisted code bytes => Sys2Proof.Machine.execSmbReadUnlisted code bytes s
  | .smbWrite code data => Sys2Proof.Machine.execSmbWrite code data s
  | .smbAlertResponse => Sys2Proof.Machine.execSmbAlertResponse s
  | .extest => Sys2Proof.Machine.execExtest s
  | .idcode => Sys2Proof.Machine.execIdcode s
  | .samplePreload => Sys2Proof.Machine.execSamplePreload s
  | .extestPulse => Sys2Proof.Machine.execExtestPulse s
  | .extestTrain => Sys2Proof.Machine.execExtestTrain s
  | .highz => Sys2Proof.Machine.execHighz s
  | .clamp => Sys2Proof.Machine.execClamp s
  | .bypass => Sys2Proof.Machine.execBypass s
  | .debugInstruction code => Sys2Proof.Machine.execDebugInstruction code s
  | .powerDown => Sys2Proof.Machine.execPowerDown s
  | .pcieLinkUp => Sys2Proof.Machine.execPcieLinkUp s
  | .patternLock p locked bitErrors => Sys2Proof.Machine.execPatternLock p locked bitErrors s

end Sys2Proof.Machine
end

