-- ==== Sys2Proof/Machine/Tick.lean ====
section
/-!
DEFINITION. The tick that an idle step stands for. DESIGN CHOICE: the spec gives the block a clock, and its table has no
row for a tick; every timer that runs out has a row of its own.
The choices it makes stand under notes/assumptions: 2 (DESIGN CHOICE).
-/

namespace Sys2Proof.Machine

/-- What is due at a tick: Tender starts put off from the tick before, pre-emptions, own frames that have left whole
with what waited for that, frames whose turn at a meter or at recovery has come, the transfers of Cargo at the rate of
R30, and the MSI-X decision (R478, R481). -/
def tickWork (d : Device) : Device :=
  let d := preemptTick (evLaterDue { d with ev.fired := [] })
  settle (reservedTick (waitDrain (linesDue d)))

/-- One tick of the timing core (R32): nothing runs in OFF and RESET. -/
def tick (d : Device) : Device :=
  if d.st = .off ∨ d.st = .reset then d else tickWork { d with raw := d.raw + 1 }

end Sys2Proof.Machine
end

