-- ==== Sys2Proof/Safety.lean ====
section
/-!
DEFINITION. What counts as safe, in the terms the statements use: when the block is powered and when the host reaches it,
what it means that a command runs, the condition on what no reset clears and how that may change over a step.
-/

namespace Sys2Proof.Safety

open Sys2Proof.Machine

/-- The device has power and is not held in RESET. -/
abbrev Powered (s : State) : Prop := s.dev.st ≠ .off ∧ s.dev.st ≠ .reset

/-- The device is powered and the host's link to it is up. -/
abbrev Linked (s : State) : Prop := (s.dev.st ≠ .off ∧ s.dev.st ≠ .reset) ∧ s.dev.pcie.linkUp = true

/-- Command `c` runs in `s`: the next state differs from `s` in the device alone, which becomes `f` of what it was, with
the interrupt messages that have become due sent (R481). -/
def Runs (c : Instr) (s : State) (f : Device → Device) : Prop := exec c s = .next { s with dev := settle (f s.dev) }

/-- Command `c` runs in `s` and the interrupt decision is none of its business: the device becomes `f` of what it was. -/
def RunsAs (c : Instr) (s : State) (f : Device → Device) : Prop := exec c s = .next { s with dev := f s.dev }

/-- Command `c` runs in `s` and also writes the fuses or the flash: they become `n`. -/
def RunsNv (c : Instr) (s : State) (n : NonVol) (f : Device → Device) : Prop :=
  exec c s = .next { s with nv := n, dev := settle (f s.dev) }

/-- Command `c` finds nothing to do in `s`: it answers `s` itself. -/
def Idles (c : Instr) (s : State) : Prop := exec c s = .next s

/-- The chart flash is in canonical form. -/
abbrev FlashOk (n : NonVol) : Prop := Memory.wf 0xFF n.flash = true

/-- A fuse never goes back: no life-cycle fuse bit that reads 1 reads 0 again, and the life-cycle state does not fall
(R515), the fused SVN does not fall (R502), the key hash changes only while the device leaves BLANK (R516), and the
device's own number and revision never change. -/
def NvForward (n m : NonVol) : Prop :=
  n.fuses.provisioned ||| m.fuses.provisioned = m.fuses.provisioned ∧
    n.fuses.fielded ||| m.fuses.fielded = m.fuses.fielded ∧ n.fuses.retired ||| m.fuses.retired = m.fuses.retired
    ∧ lcCode n.lifecycle ≤ lcCode m.lifecycle ∧ n.fusedSvn ≤ m.fusedSvn
    ∧ (n.lifecycle ≠ .blank → m.keyHash = n.keyHash) ∧ m.uid = n.uid ∧ m.revision = n.revision

/-- No PF0 vector waits for the interrupt decision of R481. -/
abbrev Settled (s : State) : Prop := s.dev.ev.touched = []

end Sys2Proof.Safety
end

