-- ==== Sys2Proof/Certificates/Slice0/Obligations.lean ====
section
/-!
DEFINITION. The statements for the provers. A clause `Runs c s f` says that command c answers a next state in which only the
device has changed, to f of what it was with due interrupt messages sent: it states what the command does and, with it,
that everything else stays (Safety.lean). Each statement's text says what it states; the spec's rules it rests on stand in
OBLIGATIONS.json.
-/

open Sys2Proof Sys2Proof.Machine Sys2Proof.Safety

/-! ### The step, the queue and what no reset clears -/

/-- For every command and every state: a step with the command at the front of the queue is exec of that command on the
state whose queue is the rest.
Where the spec leaves a choice it states the model's, of log entry 1. -/
def Obligations.StepRunsFrontCommand : Prop :=
  ∀ (c : Instr) (s : State), step (s.withCommand c) = exec c s

/-- The model's choice (log entry 2): on an empty queue a powered block runs one tick, the raw counter advancing by 1
before what is due at that tick; in OFF and RESET nothing changes. -/
def Obligations.IdleStepTicks : Prop :=
  ∀ s : State, s.pending = [] →
    (Powered s → step s = .next { s with dev := tickWork { s.dev with raw := s.dev.raw + 1 } }) ∧
    (¬ Powered s → step s = .next s)

/-- Whatever the command and the state: when exec answers a next state, its queue is the queue it was given, and when it
answers no next state it answers a refusal, never a fault.
Where the spec leaves a choice it states the model's, of log entry 1. -/
def Obligations.ExecKeepsQueue : Prop :=
  ∀ (c : Instr) (s : State), (∀ t, exec c s = .next t → t.pending = s.pending) ∧ ∀ f, exec c s ≠ .fault f

/-- In every state every command answers a next state. The one exception is a debug instruction with a code of 0x40 to
0x7F on a device that has power and is not FIELDED: it is refused, with its code, in exactly those states.
Where the spec leaves a choice it states the model's, of log entry 34. -/
def Obligations.OnlyDebugInstructionRefused : Prop :=
  ∀ (c : Instr) (s : State),
    ((∃ t, exec c s = .next t) ∨
      ∃ code, c = .debugInstruction code ∧ exec c s = .refused (.debugUnitUndescribed code.toNat)) ∧
    ∀ code : BitVec 8,
      (exec (.debugInstruction code) s = .refused (.debugUnitUndescribed code.toNat) ↔
        s.dev.st ≠ .off ∧ s.nv.lifecycle ≠ .fielded ∧ 0x40 ≤ code.toNat ∧ code.toNat ≤ 0x7F)

/-- Right after reset: the device is in WIPE with raw count 0 and no chart; no command waits; every field of every
register reads its reset value; every counter reads 0; no port is in a state other than IDLE, no arm other than SERVING,
every Tender channel IDLE, no queue present; Fix is IDLE and every timebase UNSET; nothing has been sent; the chart
flash is in canonical form and no vector waits for an interrupt decision, the two conditions that every step keeps.
Where the spec leaves a choice it states the model's, of log entry 3. -/
def Obligations.ResetState : Prop :=
  State.reset.pending = [] ∧ State.reset.dev.st = .wipe ∧ State.reset.dev.raw = 0 ∧ State.reset.dev.charted = false ∧
  (∀ (f : Fld) (i j : Nat), State.reset.dev.rg f i j = f.reset) ∧
  (∀ o, State.reset.dev.cnt o = 0) ∧
  (∀ p, (State.reset.dev.port p).st = .idle ∧ (State.reset.dev.arm p).st = .serving) ∧
  (∀ c, (State.reset.dev.chan c).st = .idle) ∧
  (∀ q, (State.reset.dev.sq q).present = false ∧ (State.reset.dev.cq q).present = false) ∧
  (∀ m, (State.reset.dev.dom m).st = .unset) ∧ State.reset.dev.fix.st = .idle ∧ State.reset.dev.out = [] ∧
  FlashOk State.reset.nv ∧ Settled State.reset

/-- From every state, reached or not, whose flash is in canonical form (addresses strictly rising, no byte listed that
reads 0xFF), a step that answers a next state leaves the flash in canonical form: erasing, programming, a program that
fails half-way, persistent records and the HALT_LOG record all keep it.
Where the spec leaves a choice it states the model's, of log entry 75. -/
def Obligations.FlashStaysCanonical : Prop :=
  ∀ s t : State, FlashOk s.nv → step s = .next t → FlashOk t.nv

/-- From every state a step that answers a next state leaves every life-cycle fuse bit that reads 1 as it is, the
life-cycle state at the same code or a higher one and the fused SVN at the same value or a higher one; it changes the
key hash only out of BLANK, and never the device's number or revision.
Where the spec leaves a choice it states the model's, of log entry 76. -/
def Obligations.FusesOnlyGoForward : Prop :=
  ∀ s t : State, step s = .next t → NvForward s.nv t.nv

/-- A command that changes the fuses or the flash is one of: the end of WIPE, a crossing boundary (BUMP_SVN), the erase
of RETIRED, a HALT_LOG write, STAGE_BEGIN, STAGE_WRITE, STAGE_VERIFY, SLOT_INVALIDATE, PERSIST_WRITE, and the three
life-cycle commands. Every other command leaves both as they are, register writes and all resets included. -/
def Obligations.OnlyTheseWriteNonVolatile : Prop :=
  ∀ (c : Instr) (s t : State), exec c s = .next t → t.nv ≠ s.nv →
    (∃ f, c = .wipeComplete f) ∨ (∃ w k, c = .crossingBoundary w k) ∨ c = .retiredEraseDone ∨ c = .haltLogWrite ∨
    (∃ k, c = .stageBegin k) ∨ (∃ r k, c = .stageWrite r k) ∨ c = .stageVerify ∨ (∃ k, c = .slotInvalidate k) ∨
    (∃ r k, c = .persistWrite r k) ∨ (∃ r k, c = .lcProvision r k) ∨ (∃ k, c = .lcField k) ∨ (∃ r k, c = .lcRetire r k)

/-- From every state in which no PF0 vector waits for the decision of R481, a step that answers a next state leaves none
waiting: what a command presents to a vector is decided within that command's step. -/
def Obligations.StepsEndDecided : Prop :=
  ∀ s t : State, Settled s → step s = .next t → Settled t

/-- Whatever the device: the decision of R481 leaves every field as it was but these: no vector waits any more, the
timers and the vectors whose message went in this tick, PF0's pending-bit array, registers, counters and what an
observer has seen. Of the registers only PENDING counts of vectors change, of the counters only MSIX_SENT of PF0 vectors
and MSIX_MERGED, and what is seen grows by MSI-X messages of PF0 alone. -/
def Obligations.DecisionOnlySendsMessages : Prop :=
  ∀ d : Device,
    settle d = { d with
      regs := (settle d).regs, counters := (settle d).counters, out := (settle d).out,
      ev.touched := [], ev.timer := (settle d).ev.timer, ev.fired := (settle d).ev.fired,
      pcie.pf0.pba := (settle d).pcie.pf0.pba } ∧
    (∀ (f : Fld) (i j : Nat), (∀ v, f.key i j ≠ F.EVENT_VEC_PENDING.key v 0) → (settle d).rg f i j = d.rg f i j) ∧
    (∀ o, o ≠ 0xD5000 → (∀ v, o ≠ 0xD1000 + 8 * v) → (settle d).cnt o = d.cnt o) ∧
    ∃ vs : List Nat, (settle d).out = vs.map (OutEvent.msix .pf0) ++ d.out

/-- While the device is OFF, every command but POWER_ON and the two movements of PERST_N answers the state it was given.
While it is held in RESET, every command but the reset and power inputs, PERST_N and the JTAG instructions does: no
register access, frame, timer or SMBus transaction changes anything.
Where the spec leaves a choice it states the model's, of log entries 12 and 30. -/
def Obligations.UnpoweredDeviceIgnoresCommands : Prop :=
  ∀ (c : Instr) (s : State),
    (s.dev.st = .off → c ≠ .powerOn → (∀ n, c ≠ .perstAssert n) → c ≠ .perstRelease → exec c s = .next s) ∧
    (s.dev.st = .reset →
      exec c s = .next s ∨ c = .powerDown ∨ (∃ r, c = .resetRelease r) ∨ (∃ n, c = .perstAssert n) ∨ c = .perstRelease ∨
        c ∈ [Instr.extest, .idcode, .samplePreload, .extestPulse, .extestTrain, .highz, .clamp, .bypass] ∨
        ∃ code, c = .debugInstruction code)

/-! ### Power, resets and the host link -/

/-- POWER_ON takes OFF to RESET and POWER_DOWN takes RESET to OFF; RESET_ASSERT of 100 ns or more takes every powered
state to RESET, ending what the plant sees first; RESET_RELEASE takes RESET to WIPE with the raw counter at 0, REF_SEL
saying which reference was found and 800 mV requested (R392). With each, the pins that behave otherwise from then on
change as Table 18-6 gives. Each leaves the fuses and the flash alone. In a state the table names no row for, nothing
changes.
Where the spec leaves a choice it states the model's, of log entries 12 and 22. -/
def Obligations.PowerAndResetMoves : Prop :=
  ∀ (s : State) (n : Nat) (pin : ResetPin) (ref : Bool),
    (s.dev.st = .off → RunsAs .powerOn s fun d => pinsGo .off (freshDevice .reset d)) ∧
    (s.dev.st ≠ .off → RunsAs .powerOn s id) ∧
    (s.dev.st = .reset → RunsAs .powerDown s fun d => { pinsGo .reset (freshDevice .off d) with tap := 0x01 }) ∧
    (s.dev.st ≠ .reset → RunsAs .powerDown s id) ∧
    (Powered s → 100 ≤ n → RunsAs (.resetAssert pin n) s fun d =>
      let idle := (List.range 32).foldl (fun d p => if (d.port p).st = .idle then d else portTo p .idle d) d
      tapEnter { pinsGo s.dev.st (freshDevice .reset (tioChangeAll (fun d => { d with st := .reset }) (tioStop idle))) with
        tap := if s.dev.st = .halt ∧ takesPins (s.dev.tap) = true then 0xFF else s.dev.tap }) ∧
    (Powered s → n < 100 → RunsAs (.resetAssert pin n) s id) ∧
    (¬ Powered s → RunsAs (.resetAssert pin n) s id) ∧
    (s.dev.st = .reset →
      RunsAs (.resetRelease ref) s fun d =>
        trimRequest 800 (pinsGo .reset ((freshDevice .wipe d).rub F.RECKON_STATUS_REF_SEL ref))) ∧
    (s.dev.st ≠ .reset → RunsAs (.resetRelease ref) s id)

/-- What RESET, WIPE and OFF are entered with: the given state, raw count 0, no register, counter, queue, timebase,
buffer or port setting that anyone wrote, the host link down; PERST_N and the lost network references as they were, and
the TAP's instruction, one that takes the pins acting as BYPASS from then on.
Where the spec leaves a choice it states the model's, of log entries 3 and 22. -/
def Obligations.FreshDeviceHoldsNothing : Prop :=
  ∀ (st : DevState) (d : Device),
    freshDevice st d =
      { ({} : Device) with
        st := st, pcie := { ({} : Pcie) with perst := d.pcie.perst }, net := { ({} : Net) with refLost := d.net.refLost },
        tap := if d.tap = 0 ∨ d.tap = 5 ∨ d.tap = 6 ∨ d.tap = 7 ∨ d.tap = 8 then 0xFF else d.tap,
        freeCtr := d.freeCtr, out := d.out }

/-- A low level below 100 ns on PWR_GOOD, SYS_RESET_N or PERST_N changes nothing in any state. One of 100 ns or more on
either whole-device input leaves a powered device in RESET, with raw count 0; on PERST_N it leaves a powered device with
PERST_N low, the link down and PF0's Bus Master Enable 0. -/
def Obligations.ShortPulsesIgnored : Prop :=
  ∀ (s : State) (n : Nat) (pin : ResetPin),
    (n < 100 → exec (.resetAssert pin n) s = .next s ∧ exec (.perstAssert n) s = .next s) ∧
    (Powered s → 100 ≤ n →
      (∃ t, exec (.resetAssert pin n) s = .next t ∧ t.dev.st = .reset ∧ t.dev.raw = 0 ∧ t.nv = s.nv) ∧
      (∃ t, exec (.perstAssert n) s = .next t ∧ t.dev.pcie.perst = true ∧ t.dev.pcie.linkUp = false ∧
        t.dev.pcie.pf0.busMaster = false))

/-- WARM_RESET of a value with KEY 0x9640 and bit 0 set answers what RESET_ASSERT of SYS_RESET_N for 1,000 ns followed
by RESET_RELEASE answers, the reference staying the one REF_SEL reports; with another KEY, or bit 0 clear, the device
stays as it is but for the interrupt decision. -/
def Obligations.WarmResetIsShortReset : Prop :=
  ∀ (s : State) (v : Word), Linked s →
    (bits v.toNat 63 48 = 0x9640 → bit v.toNat 0 = true →
      ∃ t u, exec (.resetAssert .sysResetN 1000) s = .next t ∧
        exec (.resetRelease (s.dev.rb F.RECKON_STATUS_REF_SEL)) t = .next u ∧ exec (.warmReset v) s = .next u) ∧
    ((bits v.toNat 63 48 ≠ 0x9640 ∨ bit v.toNat 0 = false) → Runs (.warmReset v) s id)

/-- PERST_ASSERT of 100 ns or more on a powered device answers a next state with PERST_N low, and FLR_PF0 over a live
link answers one with PERST_N as it was; in both the fuses and the flash, the device state, the raw counter, the
timebases, the crossing runs, Pilot, Fix and Trim are as before, the link is down, PF0 is back at its reset values,
every Tender channel is IDLE, no host queue is present and no staging session is open. The hand-over is detached:
ATTACHED is 0, no request waits, no fetch or snapshot is in progress (R169). Every PENDING count of a PF0 vector is 0,
no timer runs, and no held delivery goes to one (R486). No host frame waits, offered, in a class, in a launch list or
for an ACYCLIC window, and none completes any more (R379). PERST_ASSERT also resets PF1; FLR_PF0 leaves its
configuration space. PERST_ASSERT below 100 ns changes nothing, and one without power lowers PERST_N alone. FLR_PF0
without a link changes nothing. PERST_RELEASE raises PERST_N, whatever the state, and changes nothing else.
Where the spec leaves a choice it states the model's, of log entries 21 and 22. -/
def Obligations.HostResetLeavesCrossings : Prop :=
  ∀ (s : State) (n : Nat),
    let kept := fun (t : State) =>
      t.nv = s.nv ∧ t.pending = s.pending ∧ t.dev.st = s.dev.st ∧ t.dev.raw = s.dev.raw ∧ t.dev.reckon = s.dev.reckon ∧
      t.dev.cross.runs = s.dev.cross.runs ∧ t.dev.pilot = s.dev.pilot ∧ t.dev.fix = s.dev.fix ∧ t.dev.trim = s.dev.trim
    let detached := fun (d : Device) =>
      d.rg F.CARGO_STATUS_ATTACHED = 0 ∧ d.cargo.attachReq = none ∧ d.cargo.fetch = .none ∧ d.cargo.snap = none
    let eventsReset := fun (d : Device) =>
      (∀ v, v < 2048 → d.rg F.EVENT_VEC_PENDING v = 0) ∧ d.ev.timer = [] ∧ d.ev.touched = [] ∧
      ∀ i h, tabGet none d.ev.held i = some h → h.pf0 = false ∧ h.vecs = []
    let framesGone := fun (d : Device) =>
      d.net.offers = [] ∧ d.net.jobs = [] ∧
      (∀ p, (d.port p).launch = [] ∧ (d.port p).waits = [] ∧ ∀ c ∈ (d.port p).classes, ∀ f ∈ c.2.frames, f.job = none) ∧
      ∀ b, (d.branch b).acyQueue = []
    let lost := fun (t : State) =>
      t.dev.pcie.linkUp = false ∧ t.dev.pcie.pf0 = {} ∧ t.dev.tender = [] ∧ t.dev.hq.sqs = [] ∧ t.dev.hq.cqs = [] ∧
      t.dev.boot.stage = none ∧ detached t.dev ∧ eventsReset t.dev ∧ framesGone t.dev
    (Powered s → 100 ≤ n → ∃ t, exec (.perstAssert n) s = .next t ∧ kept t ∧ lost t ∧ t.dev.pcie.perst = true ∧
      t.dev.pcie.pf1 = {}) ∧
    (Linked s → ∃ t, exec .flrPf0 s = .next t ∧ kept t ∧ lost t ∧ t.dev.pcie.perst = s.dev.pcie.perst ∧
      t.dev.pcie.pf1 = s.dev.pcie.pf1) ∧
    (s.dev.pcie.linkUp = false → RunsAs .flrPf0 s id) ∧
    (n < 100 → RunsAs (.perstAssert n) s id) ∧
    (¬ Powered s → 100 ≤ n → RunsAs (.perstAssert n) s fun d => { d with pcie.perst := true }) ∧
    exec .perstRelease s = .next { s with dev.pcie.perst := false }

/-- PCIE_LINK_UP brings the link up unless PERST_N is low. PERST_RELEASE raises PERST_N and leaves every other part of
the device as it was. FLR of PF0 takes PF0 to its reset values and the link down. FLR of PF1 resets PF1's configuration
space and discards what is held for its vectors. A change of Bus Master Enable sets the bit. For PF1 its pending
messages are then sent. Set for PF0 in D0, stalled completions drain, fetches and Tender channels resume and pending
messages are sent; in D3hot, in which the function issues no request, the bit is all that changes. Cleared for a PF0
that could issue requests, a hand-over transfer in progress fails; for one that could not, the bit is all that changes.
Where the spec leaves a choice it states the model's, of log entries 21 and 23.
-/
def Obligations.LinkAndBusMaster : Prop :=
  ∀ (s : State) (en : Bool),
    (Powered s → s.dev.pcie.perst = false → Runs .pcieLinkUp s fun d => { d with pcie.linkUp := true }) ∧
    (Powered s → s.dev.pcie.perst = true → Runs .pcieLinkUp s id) ∧
    RunsAs .perstRelease s (fun d => { d with pcie.perst := false }) ∧
    (Linked s → ∃ t, exec .flrPf0 s = .next t ∧ t.nv = s.nv ∧ t.dev.pcie = { s.dev.pcie with linkUp := false, pf0 := {} }) ∧
    (Linked s → Runs .flrPf1 s fun d => { evDropHeld .pf1 d with pcie.pf1 := {} }) ∧
    (Linked s → Runs (.busMasterEnableChange .pf1 en) s fun d =>
      pendingSend .pf1 { d with pcie.pf1.busMaster := en }) ∧
    (Linked s → s.dev.pcie.pf0.d3hot = false → Runs (.busMasterEnableChange .pf0 true) s fun d =>
      pendingSend .pf0 (tenderPump (fetchAll
        (d.hq.cqs.foldl (fun d c => cqDrain c.1 d) { d with pcie.pf0.busMaster := true })))) ∧
    (Linked s → s.dev.pcie.pf0.d3hot = true → Runs (.busMasterEnableChange .pf0 true) s fun d =>
      { d with pcie.pf0.busMaster := true }) ∧
    (Linked s → s.dev.pcie.pf0.master = true → Runs (.busMasterEnableChange .pf0 false) s fun d =>
      handoverNoBme { d with pcie.pf0.busMaster := false }) ∧
    (Linked s → s.dev.pcie.pf0.master = false → Runs (.busMasterEnableChange .pf0 false) s fun d =>
      { d with pcie.pf0.busMaster := false })

/-- A write of the MSI-X control sets the enable and the function mask, and then every pending message whose conditions
hold is sent; the PTM enable takes the value written; the device control sets the payload and read sizes, at most 512
and 4,096 bytes; the power state acts as a change of the function's right to issue requests does; an AER status bit
written as 1 is cleared, and the AER severity takes the value written; another configuration dword takes the value
written, and the command register's bit 2 is Bus Master Enable. A dword of an MSI-X entry takes the value written, and
dword 3 sets its Mask Bit and releases pending messages; no other has effect; the pending-bit array takes no write.
MSIX_UNMASK clears a pending bit and sends its message when the four conditions of R482 hold, and does nothing when they
do not.
Where the spec leaves a choice it states the model's, of log entry 23. -/
def Obligations.ConfigurationWrites : Prop :=
  ∀ (s : State) (fn : Fn) (v : BitVec 32) (o vec k : Nat) (a b : Bool), Linked s →
    let f := s.dev.fnState fn
    Runs (.pcieConfigWrite fn (.msixControl a b) v) s (fun d =>
      pendingSend fn (d.setFn fn { f with msixEnable := a, funcMask := b })) ∧
    Runs (.pcieConfigWrite fn (.ptmControl a) v) s (fun d => d.setFn fn { f with ptmEnable := a }) ∧
    Runs (.pcieConfigWrite fn (.deviceControl o k) v) s (fun d => d.setFn fn
      { f with maxPayload := min 512 (128 * 2 ^ o), maxRead := min 4096 (128 * 2 ^ k) }) ∧
    Runs (.pcieConfigWrite fn (.powerState a) v) s (masterChange fn { f with d3hot := a }) ∧
    Runs (.pcieConfigWrite fn .aerStatus v) s (fun d => d.setFn fn { f with aer := f.aer &&& (2 ^ 32 - 1 - v.toNat) }) ∧
    Runs (.pcieConfigWrite fn .aerSeverity v) s (fun d => d.setFn fn { f with aerFatal := v.toNat }) ∧
    (o ≠ 4 → Runs (.pcieConfigWrite fn (.configSpace o) v) s
      (fun d => d.setFn fn { f with cfg := tabSet 0 f.cfg o v })) ∧
    Runs (.pcieConfigWrite fn (.configSpace 4) v) s
      (fun d => busMasterChange fn (v.toNat.testBit 2) (d.setFn fn { f with cfg := tabSet 0 f.cfg 4 v })) ∧
    (vec < fnVectors fn → k < 3 → Runs (.pcieConfigWrite fn (.msixTable vec k) v) s
      (fun d => d.setFn fn { f with table := tabSet 0 f.table (4 * vec + k) v })) ∧
    (vec < fnVectors fn → Runs (.pcieConfigWrite fn (.msixTable vec 3) v) s (fun d =>
      pendingSend fn (d.setFn fn { f with unmasked := tabSet false f.unmasked vec (!v.toNat.testBit 0) }))) ∧
    ((fnVectors fn ≤ vec ∨ 3 < k) → Runs (.pcieConfigWrite fn (.msixTable vec k) v) s id) ∧
    Runs (.pcieConfigWrite fn (.pendingBits o) v) s id ∧
    (tabGet false f.pba vec = true → msixOpen f vec = true →
      Runs (.msixUnmask fn vec) s (fun d => msixEmit fn vec
        (d.setFn fn { f with pba := tabSet false f.pba vec false }))) ∧
    ((tabGet false f.pba vec = false ∨ msixOpen f vec = false) → Runs (.msixUnmask fn vec) s id)

/-! ### Register access and the event matrix -/

/-- Over a live link and away from the doorbells, to which R4 does not apply, an access with a width or an alignment
that R4 does not permit, a register write or read that R4 does not permit (32-bit writes of the timebases' INCR, STEP,
SET_HI and SET_LO among them) answers with a completion of Unsupported Request status; the function's AER status in
configuration space reports it, fatal or not as its AER severity has it, and nothing else in the device changes.
Where the spec leaves a choice it states the model's, of log entries 18 and 23. -/
def Obligations.UnsupportedRequestChangesNothing : Prop :=
  ∀ (s : State) (fn : Fn) (a n : Nat) (b : Bool) (w : AccWidth) (v : Word), Linked s → isDoorbell fn a = false →
    let refused := fun (d : Device) =>
      (d.setFn fn { d.fnState fn with aer := (d.fnState fn).aer ||| 2 ^ 20 }).emit
        (.unsupportedRequest fn ((d.fnState fn).aerFatal.testBit 20))
    Runs (.unsupportedAccess fn a n b) s refused ∧
    (accessOk fn a (widthBytes w) true = false → Runs (.regWrite fn a w v) s refused) ∧
    (accessOk fn a (widthBytes w) false = false → Runs (.rcRead fn a w) s refused)

/-- A permitted write below BAR4 through PF1 changes nothing, nor does one through PF0 to a reserved address. Through
PF0, a write to any register that is not among those with an effect of their own writes each field by its type under the
mask of the access width, and a write to one of those does what its table says. A write of any width to a doorbell
address of PF0 rings the doorbell of that submission or completion queue, and one to BAR4 writes the dwords of MSI-X
entries. An access of a length that no register knows rings a doorbell too.
Where the spec leaves a choice it states the model's, of log entries 17 and 20. -/
def Obligations.RegisterWrites : Prop :=
  ∀ (s : State) (a n : Nat) (w : AccWidth) (v : Word) (fn : Fn), Linked s →
    (accessOk .pf1 a (widthBytes w) true = true → a < msixBase .pf1 → Runs (.regWrite .pf1 a w v) s id) ∧
    (accessOk .pf0 a (widthBytes w) true = true → a < doorbellBase → lookupReg (a / 8 * 8) = none →
      Runs (.regWrite .pf0 a w v) s id) ∧
    (∀ (rd : RegDef) (i j : Nat), accessOk .pf0 a (widthBytes w) true = true → a < doorbellBase →
      lookupReg (a / 8 * 8) = some (rd, i, j) →
      let m := accessMask a w
      let x := fun (d : Device) => mergeWord rd i j m (accessValue a w v) d
      ((writeTo.find? fun e => e.1 == rd.addr) = none →
        Runs (.regWrite .pf0 a w v) s fun d => writeFields a m (x d) d) ∧
      ∀ (k : Nat) (g : WriteFn), (writeTo.find? fun e => e.1 == rd.addr) = some (k, g) →
        Runs (.regWrite .pf0 a w v) s fun d => g { addr := a, i := i, j := j, mask := m, word := x d } d) ∧
    (doorbellBase ≤ a → a < doorbellBase + 0x8000 →
      Runs (.regWrite .pf0 a w v) s (sqDoorbell ((a - doorbellBase) / 8)) ∧
      Runs (.unsupportedAccess .pf0 a n true) s (sqDoorbell ((a - doorbellBase) / 8))) ∧
    (doorbellBase + 0x8000 ≤ a → a < msixBase .pf0 →
      Runs (.regWrite .pf0 a w v) s (cqDoorbell ((a - doorbellBase - 0x8000) / 8)) ∧
      Runs (.unsupportedAccess .pf0 a n true) s (cqDoorbell ((a - doorbellBase - 0x8000) / 8))) ∧
    (accessOk fn a (widthBytes w) true = true → msixBase fn ≤ a →
      Runs (.regWrite fn a w v) s (msixAccess fn (a - msixBase fn) w v))

/-- A write that reaches bits m of a field with bits v: an RW or RWA field takes v in those bits and keeps the others,
unless the result is an encoding its table marks reserved, when it keeps its value; a W1C field loses the bits written
as 1; RO, RC, WO and RL fields keep their value; a write that reaches no bit of a field leaves it alone.
Where the spec leaves a choice it states the model's, of log entry 20. -/
def Obligations.FieldWritesByType : Prop :=
  ∀ (fd : FieldDef) (i j mask value : Nat) (d : Device),
    let m := bits mask fd.fld.hi fd.fld.lo
    let v := bits value fd.fld.hi fd.fld.lo
    let new := (d.rg fd.fld i j &&& (2 ^ fd.fld.width - 1 - m)) ||| (v &&& m)
    (m = 0 → writeField fd i j mask value d = d) ∧
    (m ≠ 0 → (fd.type = .rw ∨ fd.type = .rwa) → fd.isReserved new = true → writeField fd i j mask value d = d) ∧
    (m ≠ 0 → (fd.type = .rw ∨ fd.type = .rwa) → fd.isReserved new = false →
      writeField fd i j mask value d = d.ru fd.fld new i j) ∧
    (m ≠ 0 → fd.type = .w1c →
      writeField fd i j mask value d = d.ru fd.fld (d.rg fd.fld i j &&& (2 ^ fd.fld.width - 1 - (v &&& m))) i j) ∧
    ((fd.type = .ro ∨ fd.type = .rc ∨ fd.type = .wo ∨ fd.type = .rl) → writeField fd i j mask value d = d)

/-- A permitted read returns the value that the register or counter had; through PF1 nothing is cleared. A 64-bit read
of a counter through PF0 returns it and sets it to 0; a 32-bit read clears only the half that it addresses; no other
counter and no register changes. A read of any other address of PF0 clears the bits it reads of that register's RC
fields. A read of a doorbell returns 0 and clears nothing.
Where the spec leaves a choice it states the model's, of log entries 18 and 19. -/
def Obligations.ReadsReturnAndClear : Prop :=
  ∀ (s : State) (fn : Fn) (a n : Nat) (w : AccWidth), Linked s →
    (isDoorbell fn a = true → Runs (.rcRead fn a w) s (fun d => d.emit (.readData fn a 0)) ∧
      Runs (.unsupportedAccess fn a n false) s (fun d => d.emit (.readData fn a 0))) ∧
    (isDoorbell fn a = false → accessOk fn a (widthBytes w) false = true →
      (fn = .pf1 → Runs (.rcRead fn a w) s fun d => d.emit (.readData fn a (readValue fn a w s.nv d))) ∧
      (fn = .pf0 → countBase ≤ a → a < countEnd → Runs (.rcRead fn a w) s fun d =>
        { d with counters := tabSet 0 d.counters (a / 8 * 8 - countBase) (BitVec.ofNat 64
            ((d.cnt (a / 8 * 8 - countBase)).toNat &&& (2 ^ 64 - 1 - accessMask a w))) }.emit
          (.readData fn a (readValue fn a w s.nv d))) ∧
      (fn = .pf0 → (a < countBase ∨ countEnd ≤ a) → Runs (.rcRead fn a w) s fun d =>
        (rcClearReg a (accessMask a w) d).emit (.readData fn a (readValue fn a w s.nv d))))

/-- Once a chart is loaded, a write of a route sets its fields and, when it changes DEFER_EN or DEFER_CP, presents what
the source held to the route as it then stands; before, it changes nothing (R486). A write of a vector's settings sends
at once when N is not 0 and has reached THRESH. A holdoff timer that has run HOLDOFF_NS, not 0, sends the vector's
message, which then stands for what else is presented in that tick, sets N to 0 and stops the timer; before that time,
or with HOLDOFF_NS 0, nothing happens.
Where the spec leaves a choice it states the model's, of log entries 35 and 36. -/
def Obligations.RoutesAndVectors : Prop :=
  ∀ (s : State) (i v : Nat) (x t : Word),
    (Linked s → s.dev.charted = false → Runs (.eventRouteWrite i x) s id) ∧
    (Linked s → s.dev.charted = true → let d := writeReg64 (F.EVENT_ROUTE_MSIX_EN.addr i) x s.dev
      ((d.rg F.EVENT_ROUTE_DEFER_EN i = s.dev.rg F.EVENT_ROUTE_DEFER_EN i ∧
          d.rg F.EVENT_ROUTE_DEFER_CP i = s.dev.rg F.EVENT_ROUTE_DEFER_CP i →
        Runs (.eventRouteWrite i x) s fun _ => d) ∧
       (¬ (d.rg F.EVENT_ROUTE_DEFER_EN i = s.dev.rg F.EVENT_ROUTE_DEFER_EN i ∧
          d.rg F.EVENT_ROUTE_DEFER_CP i = s.dev.rg F.EVENT_ROUTE_DEFER_CP i) →
        Runs (.eventRouteWrite i x) s fun _ => evRelease i d))) ∧
    (Linked s → Runs (.eventVecWrite v x) s fun d => vecSettle v (writeReg64 (F.EVENT_VEC_THRESH.addr v) x d)) ∧
    (Powered s → tabGet none s.dev.ev.timer v = some t → s.dev.rg F.EVENT_VEC_HOLDOFF_NS v ≠ 0 →
      s.dev.passedNs t (s.dev.rg F.EVENT_VEC_HOLDOFF_NS v) = true →
      Runs (.msixHoldoffExpire v) s fun d =>
        msixSend .pf0 v { d.ru F.EVENT_VEC_PENDING 0 v with
          ev.timer := tabSet none d.ev.timer v none, ev.fired := v :: d.ev.fired }) ∧
    (Powered s → (tabGet none s.dev.ev.timer v = none ∨ s.dev.rg F.EVENT_VEC_HOLDOFF_NS v = 0 ∨
        ∃ t, tabGet none s.dev.ev.timer v = some t ∧ s.dev.passedNs t (s.dev.rg F.EVENT_VEC_HOLDOFF_NS v) = false) →
      Runs (.msixHoldoffExpire v) s id)

/-- Whatever the device: an occurrence of a source that Table 16-1 raises sets its status bit and advances its
OCCURRENCES, and with DEFER_EN set that is all that changes, but for the delivery held when a target of its route is
enabled: no vector, pin or Tender channel sees it. A source that the table never raises changes nothing.
Where the spec leaves a choice it states the model's, of log entry 35. -/
def Obligations.OccurrencesLatchAndDefer : Prop :=
  ∀ (i : Nat) (d : Device),
    (neverRaised i = true → evRaise i d = d) ∧
    (neverRaised i = false → d.rb F.EVENT_ROUTE_DEFER_EN i = true →
      let latched := (d.ror F.EVENT_STATUS_BITS (2 ^ (i % 64)) (i / 64)).count (0xD0000 + 8 * i)
      let routed := d.rb F.EVENT_ROUTE_MSIX_EN i || d.rb F.EVENT_ROUTE_PF1_EN i || d.rb F.EVENT_ROUTE_TENDER_EN i ||
        d.rg F.EVENT_ROUTE_TIO_MASK i != 0
      (routed = false → evRaise i d = latched) ∧
      (routed = true → ∃ h : Held, h.pf0 = true ∧ h.pf1 = true ∧ h.other = true ∧
        evRaise i d = { latched with ev.held := tabSet none d.ev.held i (some h) }))

/-! ### The Reckoner -/

/-- For every parameter set p and fold tick k: after an INCR write the domain reads at k what p read, and from k on
advances by the new INCR; after a STEP of t it reads at every count t more than p; after a SET it reads at k the time
set. Times are in units of 2^-56 ns, which hold every value of R36 exactly.
Where the spec leaves a choice it states the model's, of log entry 15. -/
def Obligations.FoldsMoveTime : Prop :=
  ∀ (p : ParamSet) (k r : Word) (f : BitVec 16) (v : Nat) (t : Int),
    (foldSet p k (.incr v)).timeAt { count := k } = p.timeAt { count := k } ∧
    (foldSet p k (.incr v)).timeAt { count := r, frac := f } = p.timeAt { count := k }
      + v * (((r.toNat : Int) - k.toNat) * 2 ^ 16 + f.toNat) ∧
    (foldSet p k (.step t)).timeAt { count := r, frac := f } = p.timeAt { count := r, frac := f } + t * 2 ^ 40 ∧
    (foldSet p k (.set t)).timeAt { count := k } = t * 2 ^ 40

/-- A write of INCR in range, of STEP that keeps the time at or above 0, or of SET_LO with at most 999,999,999 ns, to a
domain without a pending write: when 1,600 ticks have passed since the previous fold the set in force is folded at the
present tick, the domain becomes TRACKING with its holdover timer restarted, and FOLDS advances; otherwise the write is
kept for the previous fold + 1,600. DEFERRED_FOLD applies a kept write once its tick has come, and does nothing before
it or when none is kept. A STEP that would take the time below 0 at its fold tick is rejected there. Host writes of
INCR, STEP, SET_HI and SET_LO of the crossing clock and of its SERVO_ALIVE change nothing, whatever the value.
Where the spec leaves a choice it states the model's, of log entry 38. -/
def Obligations.ParameterWritesFold : Prop :=
  ∀ (s : State) (m : Dom) (v k : Word) (w : ParamWrite),
    let ns := bits v.toNat 47 16
    let set := ParamWrite.set
      (((((s.dev.dom m).staged * 1000000000 + ns) * 2 ^ 16 + bits v.toNat 15 0 : Nat) : Int))
    let applied := fun (k : Word) (w : ParamWrite) (d : Device) =>
      let e := (d.setDom m { d.dom m with
        cur := foldSet (d.dom m).cur k w, prev := (d.dom m).cur, older := (d.dom m).prev :: (d.dom m).older,
        lastFold := some k }).radd F.RECKON_D_CTRL_FOLDS 1 (domIx m)
      e.setDom m { e.dom m with st := .tracking, holdStart := k, pend := none }
    let kept := fun (w : ParamWrite) (d : Device) => d.setDom m { d.dom m with pend := some (w, foldTick (d.dom m) d.raw) }
    let rejected := fun (d : Device) =>
      evRaise 35 ((d.setDom m { d.dom m with pend := none }).ru F.RECKON_D_CTRL_REJECT 1 (domIx m))
    (m ≠ .x → Linked s → (s.dev.dom m).pend = none →
      (foldTick (s.dev.dom m) s.dev.raw = s.dev.raw →
        (incrInRange (v.toNat % 2 ^ 48) = true → Runs (.reckonIncrWrite m v) s fun d =>
          (applied d.raw (.incr (v.toNat % 2 ^ 48)) d).ru F.RECKON_D_INCR_INCR (v.toNat % 2 ^ 48) (domIx m)) ∧
        (stepAllowed (s.dev.dom m) s.dev.raw (.step (stepOf v)) = true → Runs (.reckonStepWrite m v) s fun d =>
          applied d.raw (.step (stepOf v)) d) ∧
        (stepAllowed (s.dev.dom m) s.dev.raw (.step (stepOf v)) = false → Runs (.reckonStepWrite m v) s rejected) ∧
        (ns ≤ 999999999 → Runs (.reckonSetLoWrite m v) s fun d => applied d.raw set d)) ∧
      (foldTick (s.dev.dom m) s.dev.raw ≠ s.dev.raw →
        (incrInRange (v.toNat % 2 ^ 48) = true → Runs (.reckonIncrWrite m v) s fun d =>
          (kept (.incr (v.toNat % 2 ^ 48)) d).ru F.RECKON_D_INCR_INCR (v.toNat % 2 ^ 48) (domIx m)) ∧
        Runs (.reckonStepWrite m v) s (kept (.step (stepOf v))) ∧
        (ns ≤ 999999999 → Runs (.reckonSetLoWrite m v) s (kept set)))) ∧
    (m ≠ .x → Powered s → (s.dev.dom m).pend = some (w, k) →
      (k.toNat ≤ s.dev.raw.toNat → stepAllowed (s.dev.dom m) k w = true → Runs (.deferredFold m) s (applied k w)) ∧
      (k.toNat ≤ s.dev.raw.toNat → stepAllowed (s.dev.dom m) k w = false → Runs (.deferredFold m) s rejected) ∧
      (s.dev.raw.toNat < k.toNat → Runs (.deferredFold m) s id)) ∧
    (Powered s → (s.dev.dom m).pend = none → Runs (.deferredFold m) s id) ∧
    (Linked s → Runs (.reckonIncrWrite .x v) s id ∧ Runs (.reckonStepWrite .x v) s id ∧ Runs (.reckonSetHiWrite .x v) s id ∧
      Runs (.reckonSetLoWrite .x v) s id ∧ Runs (.servoAlive .x) s id)

/-- A write of SET_HI to domain A or B keeps its seconds and changes nothing else, also while a write is pending. A
write of SET_LO that folds at once sets the domain's time at that tick to the staged seconds with the written
nanoseconds and fraction, and leaves the staged seconds as they were for the next SET.
Where the spec leaves a choice it states the model's, of log entry 38. -/
def Obligations.SetHiStagesSeconds : Prop :=
  ∀ (s : State) (m : Dom) (v : Word), Linked s → m ≠ .x →
    (Runs (.reckonSetHiWrite m v) s fun d => d.setDom m { d.dom m with staged := v.toNat % 2 ^ 48 }) ∧
    ((s.dev.dom m).pend = none → bits v.toNat 47 16 ≤ 999999999 → foldTick (s.dev.dom m) s.dev.raw = s.dev.raw →
      ∃ t, exec (.reckonSetLoWrite m v) s = .next t ∧ (t.dev.dom m).staged = (s.dev.dom m).staged ∧
        t.dev.timeAt m { count := s.dev.raw } = (((((s.dev.dom m).staged * 1000000000 + bits v.toNat 47 16) * 2 ^ 16
          + bits v.toNat 15 0 : Nat) : Int)) * 2 ^ 40)

/-- A write of INCR, STEP or SET_LO to domain A or B while it has a write pending sets REJECT, raises
RECKON_PARAM_REJECT and changes no parameter and no pending write; so does a write of an INCR out of range or of
nanoseconds above 999,999,999 with none pending.
Where the spec leaves a choice it states the model's, of log entry 38. -/
def Obligations.RejectedParameterWrites : Prop :=
  ∀ (s : State) (m : Dom) (v : Word), Linked s → m ≠ .x →
    let rejected := fun (d : Device) => evRaise 35 (d.ru F.RECKON_D_CTRL_REJECT 1 (domIx m))
    ((s.dev.dom m).pend ≠ none → Runs (.reckonIncrWrite m v) s rejected ∧ Runs (.reckonStepWrite m v) s rejected ∧
      Runs (.reckonSetLoWrite m v) s rejected) ∧
    ((s.dev.dom m).pend = none → incrInRange (v.toNat % 2 ^ 48) = false → Runs (.reckonIncrWrite m v) s rejected) ∧
    ((s.dev.dom m).pend = none → 999999999 < bits v.toNat 47 16 → Runs (.reckonSetLoWrite m v) s rejected)

/-- SERVO_ALIVE makes a domain that is not UNSET TRACKING and restarts its timer; an UNSET one stays. A holdover timer
that reaches its timeout makes a TRACKING domain HOLDOVER and raises its event, without changing a parameter; with AUTO
set, when the domain is primary and the other is TRACKING, PRIMARY moves to the other and ARM clears. Writes of
RECKON_PRIMARY set TARGET, AUTO and ARM; an armed switch whose count has come sets PRIMARY to TARGET and clears ARM
unless the automatic switch is due at that tick, which then takes its place; before its count nothing happens.
Where the spec leaves a choice it states the model's, of log entries 13 and 38. -/
def Obligations.HoldoverAndPrimary : Prop :=
  ∀ (s : State) (m : Dom) (a b : Bool),
    (Linked s → m ≠ .x → (s.dev.dom m).st ≠ .unset → Runs (.servoAlive m) s fun d =>
      d.setDom m { d.dom m with st := .tracking, holdStart := d.raw }) ∧
    (Linked s → (s.dev.dom m).st = .unset → Runs (.servoAlive m) s id) ∧
    (Powered s → holdoverDue m s.dev = true → Runs (.holdoverTimeout m) s fun d =>
      let e := evRaise (32 + domIx m) (d.setDom m { d.dom m with st := .holdover })
      if e.rb F.RECKON_PRIMARY_AUTO && e.rg F.RECKON_PRIMARY_PRIMARY == domIx m && (e.dom (otherDom m)).st == .tracking then
        setPrimary (otherDom m) (e.ru F.RECKON_PRIMARY_ARM 0)
      else e) ∧
    (Powered s → holdoverDue m s.dev = false → Runs (.holdoverTimeout m) s id) ∧
    (Linked s → Runs (.primaryArm a b) s fun d => ((d.rub F.RECKON_PRIMARY_TARGET a).rub F.RECKON_PRIMARY_AUTO b).rub
      F.RECKON_PRIMARY_ARM true) ∧
    (Linked s → Runs (.primaryDisarm a b) s fun d => ((d.rub F.RECKON_PRIMARY_TARGET a).rub F.RECKON_PRIMARY_AUTO b).rub
      F.RECKON_PRIMARY_ARM false) ∧
    (Powered s → s.dev.rb F.RECKON_PRIMARY_ARM = true → s.dev.rg F.RECKON_SWITCH_AT_VALUE ≤ s.dev.raw.toNat →
      (autoSwitchDue s.dev = false → Runs .primarySwitch s fun d =>
        setPrimary (if d.rb F.RECKON_PRIMARY_TARGET then .b else .a) (d.ru F.RECKON_PRIMARY_ARM 0)) ∧
      (autoSwitchDue s.dev = true → Runs .primarySwitch s id)) ∧
    (Powered s → (s.dev.rb F.RECKON_PRIMARY_ARM = false ∨ s.dev.raw.toNat < s.dev.rg F.RECKON_SWITCH_AT_VALUE) →
      Runs .primarySwitch s id)

/-- SNAPSHOT_TAKE answers one next state in which the snapshot registers hold the raw count and the times of domain A,
domain B and the crossing clock at the present tick, SEQ is one more, and nothing else has changed. -/
def Obligations.SnapshotCapturesAll : Prop :=
  ∀ s : State, Linked s → Runs .snapshotTake s fun d =>
    snapTime F.RECKON_SNAP_X_HI_SECONDS F.RECKON_SNAP_X_LO_NANOSECONDS F.RECKON_SNAP_X_LO_FRACTION
        (d.timeAt .x { count := d.raw })
      (snapTime F.RECKON_SNAP_B_HI_SECONDS F.RECKON_SNAP_B_LO_NANOSECONDS F.RECKON_SNAP_B_LO_FRACTION
          (d.timeAt .b { count := d.raw })
        (snapTime F.RECKON_SNAP_A_HI_SECONDS F.RECKON_SNAP_A_LO_NANOSECONDS F.RECKON_SNAP_A_LO_FRACTION
            (d.timeAt .a { count := d.raw })
          ((d.ru F.RECKON_SNAP_RAW_VALUE d.raw.toNat).ru F.RECKON_SNAP_CTRL_SEQ
            ((d.ru F.RECKON_SNAP_RAW_VALUE d.raw.toNat).rg F.RECKON_SNAP_CTRL_SEQ + 1))))

/-- On every powered device a PPS_IN edge writes the raw count to RECKON_PPS_RAW and raises source 38, and nothing else.
-/
def Obligations.PpsEdgeStamped : Prop :=
  ∀ s : State, Powered s → Runs .ppsInEdge s fun d => evRaise 38 (d.ru F.RECKON_PPS_RAW_VALUE d.raw.toNat)

/-- Loss of REFCLK_TIME sets both bits and raises source 39; its return clears REF_LOST alone; neither moves the raw
count, and an idle step advances the raw count by 1 whether the reference is there or not. That an idle step is one tick
is the model's choice.
Where the spec leaves a choice it states the model's, of log entry 2. -/
def Obligations.ReferenceLoss : Prop :=
  ∀ s : State, Powered s →
    (Runs .refclkTimeLost s fun d =>
      evRaise 39 ((d.ru F.RECKON_STATUS_REF_LOST 1).ru F.RECKON_STATUS_REF_LOST_SEEN 1)) ∧
    (∀ t, exec .refclkTimeLost s = .next t → t.dev.raw = s.dev.raw) ∧
    (Runs .refclkTimeReturn s fun d => d.ru F.RECKON_STATUS_REF_LOST 0) ∧
    (∀ t, exec .refclkTimeReturn s = .next t → t.dev.raw = s.dev.raw) ∧
    (s.pending = [] → step s = .next { s with dev := tickWork { s.dev with raw := s.dev.raw + 1 } })

/-- TRIGGER sends one request and starts its dialog when PTM is enabled and the link is up, and does nothing when PTM is
not enabled; the automatic interval does the same every INTERVAL_MS while AUTO is set, and nothing before. A dialog
whose response comes within 100 µs writes the master time and the raw stamp computed from the stamps of its request and
response and the root port's turnaround in one update, sets VALID, increments SEQ and raises RECKON_PTM_DONE. A dialog
without an answer for 100 µs sets FAIL, raises RECKON_PTM_FAIL and leaves the previous result in place; before, or
without a dialog, nothing happens.
Where the spec leaves a choice it states the model's, of log entry 39. -/
def Obligations.PtmDialogs : Prop :=
  ∀ (s : State) (master : Word) (resp : Stamp) (turn : Nat) (t : Word) (rest : List Word),
    let due := s.dev.rb F.RECKON_PTM_CTRL_AUTO = true ∧
      s.dev.passedNs s.dev.reckon.ptmAutoFrom (s.dev.rg F.RECKON_PTM_CTRL_INTERVAL_MS * 1000000) = true
    (Linked s → s.dev.pcie.pf0.ptmEnable = true → Runs .ptmTrigger s fun d =>
      { d with reckon.ptmDialogs := d.reckon.ptmDialogs ++ [d.raw] }.emit .ptmRequest) ∧
    (Linked s → s.dev.pcie.pf0.ptmEnable = false → Runs .ptmTrigger s id) ∧
    (Linked s → due → s.dev.pcie.pf0.ptmEnable = true → Runs .ptmAutoInterval s fun d =>
        { d with reckon.ptmAutoFrom := d.raw, reckon.ptmDialogs := d.reckon.ptmDialogs ++ [d.raw] }.emit .ptmRequest) ∧
    (Powered s → due → (s.dev.pcie.pf0.ptmEnable = false ∨ s.dev.pcie.linkUp = false) →
      Runs .ptmAutoInterval s fun d => { d with reckon.ptmAutoFrom := d.raw }) ∧
    (Powered s → ¬ due → Runs .ptmAutoInterval s id) ∧
    (Powered s → s.dev.reckon.ptmDialogs = t :: rest → s.dev.passedNs t 100000 = false →
      (Runs (.ptmDialogDone master { stamp := resp, turn }) s fun d =>
        let r := ptmStamp t resp turn
        evRaise 36 (((((({ d with reckon.ptmDialogs := rest }).ru F.RECKON_PTM_MASTER_VALUE master.toNat).ru
          F.RECKON_PTM_RAW_VALUE r.count.toNat).ru F.RECKON_PTM_STATUS_RAW_FRACTION r.frac.toNat).ru
          F.RECKON_PTM_STATUS_VALID 1).radd F.RECKON_PTM_STATUS_SEQ 1)) ∧
      Runs .ptmTimeout s id) ∧
    (Powered s → s.dev.reckon.ptmDialogs = t :: rest → s.dev.passedNs t 100000 = true →
      (Runs .ptmTimeout s fun d =>
        evRaise 37 (({ d with reckon.ptmDialogs := rest }).ru F.RECKON_PTM_STATUS_FAIL 1)) ∧
      Runs (.ptmDialogDone master { stamp := resp, turn }) s id) ∧
    (Powered s → s.dev.reckon.ptmDialogs = [] →
      Runs .ptmTimeout s id ∧ Runs (.ptmDialogDone master { stamp := resp, turn }) s id)

/-! ### Stamp records and TIO pins -/

/-- A write of RECKON_STREC_CONS leaves the device as it is when PROD − CONS, as an unsigned 32-bit number, would exceed
4,096, and sets CONS otherwise. Through PF1 no write of any register changes anything; RESET sets both counts to 0. -/
def Obligations.StampRecordConsWrites : Prop :=
  ∀ (s : State) (v : BitVec 32) (n : Nat) (pin : ResetPin) (a : Nat) (w : AccWidth) (x : Word),
    (Linked s → (s.dev.rg F.RECKON_STREC_PROD_PROD + 2 ^ 32 - v.toNat) % 2 ^ 32 ≤ 4096 →
      Runs (.strecConsWrite v) s fun d => d.ru F.RECKON_STREC_CONS_CONS v.toNat) ∧
    (Linked s → 4096 < (s.dev.rg F.RECKON_STREC_PROD_PROD + 2 ^ 32 - v.toNat) % 2 ^ 32 →
      Runs (.strecConsWrite v) s id) ∧
    (Linked s → accessOk .pf1 a (widthBytes w) true = true → a < msixBase .pf1 → Runs (.regWrite .pf1 a w x) s id) ∧
    (∀ t, Powered s → 100 ≤ n → exec (.resetAssert pin n) s = .next t →
      t.dev.rg F.RECKON_STREC_PROD_PROD = 0 ∧ t.dev.rg F.RECKON_STREC_CONS_CONS = 0)

/-- Whatever the device: with PROD − CONS at 4,096 a new record leaves every record of the ring as it was and counts one
more drop, and no register is written before event 46 is raised; otherwise it stands in the ring at PROD mod 4,096,
every other record stays, PROD is one more modulo 2^32 before event 45 is raised, and the drop count it carried starts
again from 0.
Where the spec leaves a choice it states the model's, of log entry 41. -/
def Obligations.StampRecordQueue : Prop :=
  ∀ (kind source tag : Nat) (r : Stamp) (d : Device),
    let i := d.rg F.RECKON_STREC_PROD_PROD % 4096
    (strecUsed d = 4096 → (strecWrite kind source tag r d).strec.ring = d.strec.ring ∧
      (strecWrite kind source tag r d).strec.dropped = d.strec.dropped + 1 ∧
      strecWrite kind source tag r d = evRaise 46 ({ d with strec.dropped := d.strec.dropped + 1 }.count 0x62008)) ∧
    (strecUsed d ≠ 4096 →
      tabGet [] (strecWrite kind source tag r d).strec.ring i = strecWords kind source tag r d ∧
      (∀ k, k ≠ i → tabGet [] (strecWrite kind source tag r d).strec.ring k = tabGet [] d.strec.ring k) ∧
      (strecWrite kind source tag r d).strec.dropped = 0 ∧
      let ring := tabSet [] d.strec.ring i (strecWords kind source tag r d)
      strecWrite kind source tag r d =
        evRaise 45 (({ d with strec := { ring := ring, dropped := 0 } }.radd F.RECKON_STREC_PROD_PROD 1).count 0x62000))

/-- A write of RECKON_TIO_CFG writes its fields, with the level the pin then takes; one that changes MODE first ends the
pulse and disarms the pin. ARM of a beacon pin whose period and width pass R246 sets ARMED with its first target at or
after the present time, or disarms it when BEACON_ONCE's target is past; one that does not pass sets ARM_ERR and raises
the pin's event; on a pin of another mode nothing happens. DISARM clears the target and ARMED and leaves a pulse in
progress. An edge that EDGES selects on a driven CAPTURE pin writes the raw count, advances CAP_SEQ, sets LEVEL, CAP_NEW
and, on an unread capture, OVERRUN, raises the pin's event and, with RECORD set, writes a stamp record; an edge that
EDGES does not select, or on a pin of another mode or not driven, does nothing.
Where the spec leaves a choice it states the model's, of log entry 40. -/
def Obligations.TioPins : Prop :=
  ∀ (s : State) (i : Nat) (v : Word) (t : Int) (lvl : Bool),
    let once := s.dev.rg F.RECKON_TIO_CFG_MODE i == 1
    let start := u16Of (s.dev.rg F.RECKON_TIO_START_S_SECONDS i) (s.dev.rg F.RECKON_TIO_START_NS_NANOSECONDS i)
      (s.dev.rg F.RECKON_TIO_START_NS_FRACTION i)
    let period : Int := s.dev.rg F.RECKON_TIO_PERIOD_NANOSECONDS i * 2 ^ 16 + s.dev.rg F.RECKON_TIO_PERIOD_FRACTION i
    let write := writeReg64 (F.RECKON_TIO_CFG_MODE.addr i) v
    let written := write s.dev
    let beacon := s.dev.rg F.RECKON_TIO_CFG_MODE i = 1 ∨ s.dev.rg F.RECKON_TIO_CFG_MODE i = 2
    let first := tioFirstTarget once start period (s.dev.now (s.dev.tb (s.dev.rg F.RECKON_TIO_CFG_TB i)))
    let ok := tioArmOk once period (s.dev.rg F.RECKON_TIO_CFG_WIDTH_NS i)
    let picked := s.dev.rg F.RECKON_TIO_CFG_MODE i = 3 ∧ tioDriven s.dev.st = true ∧
      bit (s.dev.rg F.RECKON_TIO_CFG_EDGES i) (if lvl then 0 else 1) = true
    (Linked s → written.rg F.RECKON_TIO_CFG_MODE i = s.dev.rg F.RECKON_TIO_CFG_MODE i →
      Runs (.tioModeWrite i v) s fun d => if tioLevel i written = tioLevel i d then written
        else written.emit (.tioEdge i (tioLevel i written) written.raw)) ∧
    (Linked s → written.rg F.RECKON_TIO_CFG_MODE i ≠ s.dev.rg F.RECKON_TIO_CFG_MODE i →
      Runs (.tioModeWrite i v) s fun d => tioDisarm i (tioChange i write (tioPulseOff i d))) ∧
    (Linked s → beacon → ok = true → first = some t → Runs (.tioArm i) s fun d =>
      (d.setPin i { d.pin i with start := start, period := period, next := some t }).ru F.RECKON_TIO_STATUS_ARMED 1 i) ∧
    (Linked s → beacon → ok = true → first = none → Runs (.tioArm i) s (tioDisarm i)) ∧
    (Linked s → beacon → ok = false → Runs (.tioArm i) s fun d =>
      evRaise (48 + i) ((tioDisarm i d).ru F.RECKON_TIO_STATUS_ARM_ERR 1 i)) ∧
    (Linked s → ¬ beacon → Runs (.tioArm i) s id) ∧
    (Linked s → Runs (.tioDisarm i) s fun d =>
      (d.setPin i { d.pin i with next := none }).ru F.RECKON_TIO_STATUS_ARMED 0 i) ∧
    (Powered s → picked → Runs (.tioCaptureEdge i lvl) s fun d =>
        let seen := d.rb F.RECKON_TIO_STATUS_CAP_NEW i
        let e := (d.ru F.RECKON_TIO_CAPTURE_RAW d.raw.toNat i).radd F.RECKON_TIO_STATUS_CAP_SEQ 1 i
        let e := (e.rub F.RECKON_TIO_STATUS_LEVEL lvl i).ru F.RECKON_TIO_STATUS_CAP_NEW 1 i
        let e := evRaise (48 + i) (if seen then e.ru F.RECKON_TIO_STATUS_OVERRUN 1 i else e)
        if e.rb F.RECKON_TIO_CFG_RECORD i then
          strecWrite (if lvl then 2 else 3) i (e.rg F.RECKON_TIO_STATUS_CAP_SEQ i) e.nowStamp e
        else e) ∧
    (Powered s → ¬ picked → Runs (.tioCaptureEdge i lvl) s id)

/-- A beacon edge before its target, without a target, or on a pin that is not driven, not armed or no beacon does
nothing. At the target of a pin that is not late, neither a tick or more after it nor carried past it by a jump of the
timebase, the pulse begins at this tick; a once-only beacon has no further target, and a periodic one has the first
target after this tick. A late edge also sets LATE, adds the other targets passed to MISSED and raises the pin's event.
A pulse that has lasted WIDTH_NS ends with the inactive level; that of a once-only beacon also raises the pin's event
and disarms the pin unless it has been armed anew. Before that, or without a pulse, nothing happens.
Where the spec leaves a choice it states the model's, of log entry 40. -/
def Obligations.BeaconsAndPulses : Prop :=
  ∀ (s : State) (i : Nat) (t : Int) (r : Word),
    let p := s.dev.pin i
    let m := s.dev.tb (s.dev.rg F.RECKON_TIO_CFG_TB i)
    let mode := s.dev.rg F.RECKON_TIO_CFG_MODE i
    let ready := s.dev.rb F.RECKON_TIO_STATUS_ARMED i = true ∧ (mode = 1 ∨ mode = 2) ∧ tioDriven s.dev.st = true
    let late := carriedPast (s.dev.rg F.RECKON_TIO_CFG_TB i) (ofU16 t) s.dev = true ∨
      ((s.dev.dom m).cur.incr : Int) * 2 ^ 16 ≤ s.dev.now m - ofU16 t
    let passed := ((s.dev.now m - ofU16 t) / ofU16 p.period).toNat
    let begin_ := fun (d : Device) => if mode = 1 then tioPulse i true (d.setPin i { p with next := none })
      else tioPulse i false (d.setPin i { p with next := some (t + p.period * (passed + 1 : Nat)) })
    (Powered s → p.next = none → Runs (.beaconEdge i) s id) ∧
    (Powered s → p.next = some t → s.dev.now m < ofU16 t → Runs (.beaconEdge i) s id) ∧
    (Powered s → p.next = some t → ¬ ready → Runs (.beaconEdge i) s id) ∧
    (Powered s → p.next = some t → ready → ofU16 t ≤ s.dev.now m → ¬ late → Runs (.beaconEdge i) s begin_) ∧
    (Powered s → p.next = some t → ready → ofU16 t ≤ s.dev.now m → late → Runs (.beaconEdge i) s fun d =>
      evRaise (48 + i) (((begin_ d).ru F.RECKON_TIO_STATUS_LATE 1 i).rsat F.RECKON_TIO_STATUS_MISSED
        (if mode = 1 then 0 else passed) i)) ∧
    (Powered s → p.pulse = some r → s.dev.passedNs r (s.dev.rg F.RECKON_TIO_CFG_WIDTH_NS i) = true →
      (p.once = false → Runs (.tioPulseEnd i) s (tioPulseOff i)) ∧
      (p.once = true → Runs (.tioPulseEnd i) s fun d =>
        let e := tioPulseOff i d
        evRaise (48 + i) (if (e.pin i).next = none then tioDisarm i e else e))) ∧
    (Powered s → p.pulse = some r → s.dev.passedNs r (s.dev.rg F.RECKON_TIO_CFG_WIDTH_NS i) = false →
      Runs (.tioPulseEnd i) s id) ∧
    (Powered s → p.pulse = none → Runs (.tioPulseEnd i) s id)

/-! ### SMBus and the test access port -/

/-- From WIPE on, each listed SMBus read returns the bytes of its value, low byte first, in the length Table 18-8 gives;
a sensor read outside 0x10 to 0x27 and an unlisted read return bytes of 0xFF; a write with data bytes is not
acknowledged and one without does nothing. A device that pulls SMB_ALERT_N low answers the Alert Response Address with
its own address (the byte 0x4E is the model's form of it, log entry 32) and releases the pin; one that does not pull it
low does nothing. None changes anything else of the device.
Where the spec leaves a choice it states the model's, of log entries 32 and 33. -/
def Obligations.SmbusTransactions : Prop :=
  ∀ (s : State) (code : BitVec 8) (n : Nat) (data : Bytes), Powered s →
    let reads := fun (k len : Nat) (d : Device) => d.emit (.smbData (leBytes len (tabGet 0 d.trim.smb k)))
    Runs .smbReadStatus s (reads 0x00 2) ∧ Runs .smbReadTmax s (reads 0x01 2) ∧ Runs .smbReadPower s (reads 0x02 2) ∧
    Runs .smbReadCurrent s (reads 0x03 2) ∧ Runs .smbReadVoltage s (reads 0x04 2) ∧
    Runs .smbReadHeading s (reads 0x05 2) ∧ Runs .smbReadCrossing s (reads 0x06 6) ∧
    (0x10 ≤ code.toNat → code.toNat ≤ 0x27 → Runs (.smbReadSensor code) s (reads code.toNat 2)) ∧
    ((code.toNat < 0x10 ∨ 0x27 < code.toNat) →
      Runs (.smbReadSensor code) s fun d => d.emit (.smbData (List.replicate 2 0xFF))) ∧
    Runs (.smbReadUnlisted code n) s (fun d => d.emit (.smbData (List.replicate n 0xFF))) ∧
    (data ≠ [] → Runs (.smbWrite code data) s fun d => d.emit .smbNak) ∧ Runs (.smbWrite code []) s id ∧
    (s.dev.trim.alert = true →
      Runs .smbAlertResponse s fun d => { d with trim.alert := false }.emit (.smbData [0x4E])) ∧
    (s.dev.trim.alert = false → Runs .smbAlertResponse s id)

/-- EXTEST, EXTEST_PULSE, EXTEST_TRAIN, HIGHZ and CLAMP act as themselves with the rails up in RESET or HALT and as
BYPASS in every other powered state; none touches anything but the TAP. When the device leaves RESET for WIPE, or HALT
for RESET, it has become BYPASS. -/
def Obligations.PinTakingInstructions : Prop :=
  ∀ s : State, s.dev.st ≠ .off →
    (∀ p ∈ [(Instr.extest, 0x00), (.extestPulse, 0x05), (.extestTrain, 0x06), (.highz, 0x07), (.clamp, 0x08)],
      ((s.dev.st = .reset ∨ s.dev.st = .halt) → RunsAs p.1 s fun d => { d with tap := p.2 }.emit (.jtag p.2 none)) ∧
      (¬ (s.dev.st = .reset ∨ s.dev.st = .halt) →
        RunsAs p.1 s fun d => { d with tap := p.2 }.emit (.jtag 0xFF none))) ∧
    (∀ (c : Instr) (t : State), (s.dev.st = .reset ∧ (∃ r, c = .resetRelease r) ∨
        s.dev.st = .halt ∧ (∃ pin n, c = .resetAssert pin n ∧ 100 ≤ n)) →
      s.dev.tap ∈ [0x00, 0x05, 0x06, 0x07, 0x08] → exec c s = .next t → t.dev.tap = 0xFF)

/-- With the rails up, IDCODE selects the identification code of the revision, the part number 0x9640, the
manufacturer's code and a 1; SAMPLE/PRELOAD leaves the pins their functions; BYPASS and a code outside 0x40 to 0x7F
select BYPASS, and so does every debug code on a FIELDED device. Nothing but the TAP changes. An instruction that takes
the pins and is still loaded when RESET_ASSERT takes a device that is not in HALT into RESET acts as itself from then
on.
Where the spec leaves a choice it states the model's, of log entries 10, 30, 31 and 34. -/
def Obligations.TapInstructions : Prop :=
  ∀ (s : State) (code : BitVec 8), s.dev.st ≠ .off →
    (RunsAs .idcode s fun d => { d with tap := 0x01 }.emit (.jtag 0x01 (some (BitVec.ofNat 32
      (s.nv.revision.toNat % 16 * 2 ^ 28 + 0x9640 * 2 ^ 12 + Config.jep106.toNat * 2 + 1))))) ∧
    (RunsAs .samplePreload s fun d => { d with tap := 0x02 }.emit (.jtag 0x02 none)) ∧
    (RunsAs .bypass s fun d => { d with tap := 0xFF }.emit (.jtag 0xFF none)) ∧
    ((s.nv.lifecycle = .fielded ∨ code.toNat < 0x40 ∨ 0x7F < code.toNat) →
      RunsAs (.debugInstruction code) s fun d => { d with tap := 0xFF }.emit (.jtag 0xFF none)) ∧
    (∀ (n : Nat) (pin : ResetPin) (t : State), Powered s → s.dev.st ≠ .halt → 100 ≤ n →
      s.dev.tap ∈ [0x00, 0x05, 0x06, 0x07, 0x08] → exec (.resetAssert pin n) s = .next t →
      t.dev.tap = s.dev.tap ∧ t.dev.out.head? = some (.jtag s.dev.tap none))

/-! ### Fabric and SRAM errors -/

/-- While no replay is owed, a flit whose CRC is good sets its link's count to 0 and is accepted; one whose CRC is bad
makes the count one more, asks for a replay from that flit on and counts it under the link's region, and where that
makes the count 8 the device enters HALT with cause 1. While a replay is owed the receiver discards what is sent for the
first time, and the replay brings the failing flit and all after it from the sender's buffer, oldest first, each of
which counts in the same way. No other link's count changes below the limit. A link whose count stands at 8 puts the
device into HALT.
Where the spec leaves a choice it states the model's, of log entries 26 and 27. -/
def Obligations.FabricLinkCounts : Prop :=
  ∀ (s : State) (l : Nat) (sent data : Bytes) (crc : BitVec 16), Powered s →
    let x := s.dev.link l
    let first := fun (owed : Nat) => { x with buffer := (sent :: x.buffer).take 32, owed := owed }
    let good := fun (y : FabricLink) (d : Device) =>
      (d.setLink l y).setLink l { y with fails := 0, accepted := some data }
    let failed := fun (y : FabricLink) (d : Device) =>
      let n := y.fails + 1
      let e := (d.setLink l { y with fails := n }).rsat F.TRIM_FABRIC_REPLAYS 1 (l % 16)
      let e := (e.ru F.TRIM_FABRIC_MAX_RUN (max (e.rg F.TRIM_FABRIC_MAX_RUN (l % 16)) (min n 8)) (l % 16)).emit (.replay l)
      let e := if n = 4 then trimEvent 7 e else e
      fabricFailLimit l e
    let again := fun (d : Device) => d.emit (.resent l (x.buffer[x.owed - 1]?))
    (x.owed = 0 → crc16 data = crc.toNat → ∃ t, exec (.flitReceive l { sent, data } crc) s = .next t ∧
      t = { s with dev := settle (good (first 0) s.dev) } ∧ (t.dev.link l).fails = 0 ∧
        ∀ k, k ≠ l → t.dev.link k = s.dev.link k) ∧
    (x.owed = 0 → crc16 data ≠ crc.toNat → ∃ t, exec (.flitReceive l { sent, data } crc) s = .next t ∧
      t = { s with dev := settle (failed (first 1) (s.dev.setLink l (first 1))) } ∧
      (x.fails < 7 → (t.dev.link l).fails = x.fails + 1 ∧ ∀ k, k ≠ l → t.dev.link k = s.dev.link k)) ∧
    (0 < x.owed → Runs (.flitReceive l { sent, data } crc) s fun d =>
      d.setLink l (first (min (x.owed + 1) 32))) ∧
    (0 < x.owed → crc16 data = crc.toNat → Runs (.flitReceive l { sent, data, replayed := true } crc) s fun d =>
      good { x with owed := x.owed - 1 } (again d)) ∧
    (0 < x.owed → crc16 data ≠ crc.toNat →
      Runs (.flitReceive l { sent, data, replayed := true } crc) s fun d => failed x (again d)) ∧
    (x.owed = 0 → Runs (.flitReceive l { sent, data, replayed := true } crc) s id) ∧
    (8 ≤ x.fails → Runs (.fabricFailLimit l) s (halt 1)) ∧
    (x.fails < 8 → Runs (.fabricFailLimit l) s id)

/-- MEM_UNCORRECTABLE completes at every site. A single-bit error counts one under its region and changes nothing else.
An uncorrectable error raises MEM_UNCORRECTABLE and then: in Hold the frame at the place named is dropped and counted,
and where no frame is there nothing more happens; in State and Queue the device enters HALT; in a Cargo buffer the
berths that overlap the word are marked; a discarded counter holds a free value and the next stamp record carries LOST;
a discarded stamp record counts as dropped; a discarded latency sample holds a free value and the next stamp record
carries LOST.
Where the spec leaves a choice it states the model's, of log entry 28. -/
def Obligations.SramErrors : Prop :=
  ∀ (s : State) (m : MemSite) (a : Nat) (place : HoldPlace) (e : Device), Powered s →
    Runs (.memUncorrectable .singleBit m) s (fun d =>
      let n := tabGet 0 d.core.single (siteRegion m) + 1
      { d with core.single := tabSet 0 d.core.single (siteRegion m) n }) ∧
    (holdDrop place (evRaise 0 s.dev) = none → Runs (.memUncorrectable .uncorrectable (.hold place)) s (evRaise 0)) ∧
    (holdDrop place (evRaise 0 s.dev) = some e → Runs (.memUncorrectable .uncorrectable (.hold place)) s fun _ =>
      { e with core.holdDrops := e.core.holdDrops + 1 }) ∧
    Runs (.memUncorrectable .uncorrectable .state) s (fun d => halt 2 (evRaise 0 d)) ∧
    Runs (.memUncorrectable .uncorrectable .queue) s (fun d => halt 3 (evRaise 0 d)) ∧
    Runs (.memUncorrectable .uncorrectable (.cargoIn a)) s (fun d =>
      let e := evRaise 0 d
      let base := e.rg F.CARGO_LAYOUT_IN_DATA_BASE
      let l := (berthsWhere (fun i b => a / 8 == i || wordOverlaps a (base + b.inOff) b.inLen) e).filter
        fun i => !e.cargo.inErr.contains i
      { e with cargo.inErr := e.cargo.inErr ++ l }) ∧
    Runs (.memUncorrectable .uncorrectable (.cargoOut a)) s (fun d =>
      let e := evRaise 0 d
      let l := (berthsWhere (fun _ b => wordOverlaps a b.outOff b.outLen) e).filter fun i => !e.cargo.outErr.contains i
      { e with cargo.outErr := e.cargo.outErr ++ l }) ∧
    Runs (.memUncorrectable .uncorrectable (.recordCounter a)) s (fun d =>
      let e := evRaise 0 d
      { e with freeCtr := e.freeCtr + 1, counters := tabSet 0 e.counters a (Config.freeValue e.freeCtr),
               strec.mark := true }) ∧
    Runs (.memUncorrectable .uncorrectable (.recordStamp a)) s (fun d =>
      let e := evRaise 0 d
      let r := List.replicate 8 (Config.freeValue e.freeCtr)
      strecDrop { e with freeCtr := e.freeCtr + 1, strec.ring := tabSet [] e.strec.ring (a % 4096) r }) ∧
    Runs (.memUncorrectable .uncorrectable (.recordSample a)) s (fun d =>
      let e := evRaise 0 d
      let r := List.replicate 4 (Config.freeValue e.freeCtr)
      { e with freeCtr := e.freeCtr + 1, net.samples := tabPut r e.net.samples (a % 16384), strec.mark := true })

/-! ### Trim -/

/-- Before EVAL_US has passed an interval does not end. At its end the 24 readings enter the sensor registers, the
thermal limits act, CAP_W comes into force and the margin is reported; an AVSBus transaction that failed is sent again;
where the loop runs and the last voltage has settled, the loop decides on the margin; a pending heading that was written
in MUSTER takes effect; and the SMBus values become those of this interval. An acknowledged transaction takes the
requested voltage as acknowledged, records the current, and clears FAULT_RUN and AVS_FAULT. One without acknowledgement
is due again and advances FAULT_RUN; a FAULT_RUN of 3 sets AVS_FAULT and raises its event once. When RELAX reaches
RELAX_INTERVALS above rung 0 the ladder falls by one rung, RELAX starts again, and frames that waited are offered again;
at rung 0, or before, nothing happens.
Where the spec leaves a choice it states the model's, of log entry 70. -/
def Obligations.TrimBusAndLadder : Prop :=
  ∀ (s : State) (i : Nat) (l : List Sensor), Powered s →
    let relaxed := 0 < s.dev.rung ∧ s.dev.rg F.TRIM_LOOP_CFG_RELAX_INTERVALS ≤ s.dev.trim.relax ∧ 0 < s.dev.trim.relax
    (Runs (.avsTransactionDone true i) s fun d =>
      let e := (d.ru F.TRIM_AVS_ACKED_MV (d.rg F.TRIM_AVS_REQUEST_MV)).ru F.TRIM_POWER_CORE_CURRENT_DA (min i 65535)
      trimReport (({ e with trim.retry := false }.ru F.TRIM_AVS_FAULT_RUN 0).ru F.TRIM_STATUS_AVS_FAULT 0)) ∧
    (Runs (.avsTransactionDone false i) s fun d =>
      avsFaultLimit ({ d with trim.retry := d.st != DevState.halt }.rsat F.TRIM_AVS_FAULT_RUN 1)) ∧
    (3 ≤ s.dev.rg F.TRIM_AVS_FAULT_RUN → s.dev.rb F.TRIM_STATUS_AVS_FAULT = false → Runs .avsFaultLimit s fun d =>
      trimEvent 4 (d.ru F.TRIM_STATUS_AVS_FAULT 1)) ∧
    ((s.dev.rg F.TRIM_AVS_FAULT_RUN < 3 ∨ s.dev.rb F.TRIM_STATUS_AVS_FAULT = true) → Runs .avsFaultLimit s id) ∧
    (relaxed → Runs .relaxLimit s fun d =>
        helmRetry (trimEvent 1 ({ d.ru F.TRIM_STATUS_RUNG (d.rung - 1) with trim.relax := 0 }.ru F.TRIM_STATUS_RELAX 0))) ∧
    (¬ relaxed → Runs .relaxLimit s id) ∧
    (s.dev.passedNs s.dev.trim.evalFrom (s.dev.rg F.TRIM_LOOP_CFG_EVAL_US * 1000) = false →
      Runs (.trimEvalInterval l) s id) ∧
    (s.dev.passedNs s.dev.trim.evalFrom (s.dev.rg F.TRIM_LOOP_CFG_EVAL_US * 1000) = true →
      Runs (.trimEvalInterval l) s fun d =>
        let e := capTake (thermal (readSensors l { d with trim.evalFrom := d.raw }))
        let r := trimReport (reportMargin (marginOf e) e)
        let r := if r.trim.retry then { r with trim.retry := false }.emit (.avsWrite (r.rg F.TRIM_AVS_REQUEST_MV)) else r
        let r := if loopRuns r.st = true ∧ trimSettled r = true then trimDecide (marginOf e) { r with trim.settle := none }
          else r
        let q := trimReport (if r.trim.soon = true then headingDue r else r)
        { q with trim.smb := (smbValues (lcCode s.nv.lifecycle) q).filter fun e => e.2 != 0 })

/-- A write of TRIM_HEADING.SELECT does nothing in WIPE and LOAD. In RUN every value, and in MUSTER, FIRST_CROSSING,
TEST and RECOVERY every value but 7, is kept for its point of effect, the last governing: one written in MUSTER for the
end of the interval, every other for a crossing boundary; 7 is refused in those states and in HALT; in DORMANT every
value but 7 ends DORMANT with that heading.
Where the spec leaves a choice it states the model's, of log entry 71. -/
def Obligations.HeadingSelection : Prop :=
  ∀ (s : State) (v : BitVec 3), Linked s →
    ((s.dev.st = .wipe ∨ s.dev.st = .load) → Runs (.headingSelect v) s id) ∧
    (s.dev.st = .run → Runs (.headingSelect v) s fun d =>
      { d with trim.pend := some v.toNat, trim.soon := false }.ru F.TRIM_HEADING_SELECT v.toNat) ∧
    (s.dev.st ∈ [DevState.muster, .firstCrossing, .test, .recovery] → v ≠ 7 → Runs (.headingSelect v) s fun d =>
      { d with trim.pend := some v.toNat, trim.soon := decide (s.dev.st =
        DevState.muster) }.ru F.TRIM_HEADING_SELECT v.toNat) ∧
    (s.dev.st ∈ [DevState.muster, .firstCrossing, .test, .recovery, .halt] → v = 7 →
      Runs (.headingSelect v) s (trimEvent 6)) ∧
    (s.dev.st = .halt → v ≠ 7 → Runs (.headingSelect v) s id) ∧
    (s.dev.st = .dormant → v ≠ 7 → Runs (.headingSelect v) s fun d =>
      dormantLeave v.toNat (d.ru F.TRIM_HEADING_SELECT v.toNat)) ∧
    (s.dev.st = .dormant → v = 7 → Runs (.headingSelect v) s id)

/-! ### Ports, redundancy and Helm -/

/-- On an uplink in RUN with ENABLE a verify frame is answered, at once on a free line and else in turn, and a respond
frame is counted and, while VERIFYING, is the row of Table 10-2 that succeeds. On a branch arm Pilot judges either, and
it is discarded; without ENABLE either is counted as a fragment error and discarded. A FENCED port counts it as
discarded, and another port not in RUN does nothing. A verify timer that has run VERIFY_TIME_MS on a VERIFYING port is
the row of a timeout; before that it does nothing. RESTART and a write of PE_CFG are the row of a restart. A row
applied: respond means SUCCEEDED; a timeout below VERIFY_LIMIT sends another verify frame, at it FAILED. A stream's
reset timer that has run sets TAKE_ANY, is counted and raises its event; before that, or stopped, it does nothing. A
write that changes RECOVER or HISTORY_LEN sets TAKE_ANY, another write does not; GEN_RESET sets the next number to 0 and
RCVY_RESET sets TAKE_ANY. A sequence number that has passed the vector algorithm does not pass at once again.
Where the spec leaves a choice it states the model's, of log entries 47 and 48. -/
def Obligations.VerificationAndRecovery : Prop :=
  ∀ (s : State) (p i : Nat) (v t : Word) (rcvy : Bool) (d : Device) (q : Nat) (stamp : BlockStamp),
    let f : MergeFrame := { port := p, stamp }
    let g : RxFrame := { bytes := List.replicate 64 0, island := stamp.island, bitPos := stamp.bitPos }
    let arm := s.dev.isArm p
    let on := s.dev.rb F.REDUN_PE_CFG_ENABLE p
    let x := s.dev.stream i
    let y := s.dev.port p
    let verified := y.verify = .verifying ∧
      s.dev.passedNs y.verifyFrom (s.dev.rg F.REDUN_PE_CFG_VERIFY_TIME_MS p * 1000000) = true
    (Powered s → s.dev.portRun p = true → on = true → arm = false → lineFree p s.dev = true → y.mergeDue = [] →
      Runs (.verifyFrameRx f) s fun d =>
        ((d.setPort p { y with gapEnd := d.raw + BitVec.ofNat 64 (byteTicks p 84 d),
                               mergeEnd := d.raw + BitVec.ofNat 64 (byteTicks p 72 d) }).count (peCnt p 0x30)).emit
          (.respond p)) ∧
    (Powered s → s.dev.portRun p = true → on = true → arm = false → (lineFree p s.dev = false ∨ y.mergeDue ≠ []) →
      Runs (.verifyFrameRx f) s fun d => d.setPort p { y with mergeDue := y.mergeDue ++ [true] }) ∧
    (Powered s → s.dev.portRun p = true → on = true → arm = false → y.verify = .verifying →
      Runs (.respondFrameRx f) s fun d => peRequest p .respond (d.count (peCnt p 0x38))) ∧
    (Powered s → s.dev.portRun p = true → on = true → arm = false → y.verify ≠ .verifying →
      Runs (.respondFrameRx f) s fun d => d.count (peCnt p 0x38)) ∧
    (Powered s → s.dev.portRun p = true → on = true → arm = true → Runs (.verifyFrameRx f) s (frameDiscard p g false) ∧
      Runs (.respondFrameRx f) s fun d => frameDiscard p g false (d.count (peCnt p 0x38))) ∧
    (Powered s → s.dev.portRun p = true → on = false →
      Runs (.verifyFrameRx f) s (fun d => frameDiscard p g false (d.count (peCnt p 0x10))) ∧
      Runs (.respondFrameRx f) s fun d => frameDiscard p g false (d.count (peCnt p 0x10))) ∧
    (Powered s → y.st = .fenced → Runs (.verifyFrameRx f) s (fun d => d.count (pilotCnt p 0x30)) ∧
      Runs (.respondFrameRx f) s fun d => d.count (pilotCnt p 0x30)) ∧
    (Powered s → s.dev.portRun p = false → y.st ≠ .fenced →
      Runs (.verifyFrameRx f) s id ∧ Runs (.respondFrameRx f) s id) ∧
    (Powered s → verified → Runs (.verifyTimeout p) s (peRequest p .timeout)) ∧
    (Powered s → ¬ verified → Runs (.verifyTimeout p) s id) ∧
    (Linked s → Runs (.verifyRestart p) s (peRequest p .restart) ∧
      Runs (.peCfgWrite p v) s fun d => peRequest p .restart (writeReg64 (F.REDUN_PE_CFG_ENABLE.addr p) v d)) ∧
    ((d.port p).verify = .verifying → peApply p .respond d = peChange p .succeeded d ∧
      (d.rg F.REDUN_PE_STATUS_ATTEMPTS p < d.rg F.REDUN_PE_CFG_VERIFY_LIMIT p →
        peApply p .timeout d = peVerifySend p (d.radd F.REDUN_PE_STATUS_ATTEMPTS 1 p)) ∧
      (d.rg F.REDUN_PE_CFG_VERIFY_LIMIT p ≤ d.rg F.REDUN_PE_STATUS_ATTEMPTS p →
        peApply p .timeout d = peChange p .failed d)) ∧
    (Powered s → x.timer = some t → s.dev.rg F.REDUN_STREAM_RCVY_RESET_US i * 800 < s.dev.since t →
      Runs (.frerResetTimeout i) s fun d => streamEvent F.REDUN_STATUS_FRER_RESET F.REDUN_EVT_EN_FRER_RESET 378 i
        ((d.setStream i { x with takeAny := true, timer := none }).count (streamCnt i 0x30))) ∧
    (Powered s → (x.timer = none ∨ x.timer = some t ∧
        s.dev.since t ≤ s.dev.rg F.REDUN_STREAM_RCVY_RESET_US i * 800) →
      Runs (.frerResetTimeout i) s id) ∧
    (Linked s → Runs (.streamCfgWrite i rcvy v) s fun d =>
      let e := writeReg64 ((if rcvy then F.REDUN_STREAM_RCVY_RESET_US else F.REDUN_STREAM_CFG_TX_PORTS).addr i) v d
      if e.rg F.REDUN_STREAM_CFG_RECOVER i = d.rg F.REDUN_STREAM_CFG_RECOVER i ∧
          e.rg F.REDUN_STREAM_RCVY_HISTORY_LEN i = d.rg F.REDUN_STREAM_RCVY_HISTORY_LEN i then e
      else e.setStream i { e.stream i with takeAny := true }) ∧
    (Linked s → Runs (.genReset i) s (fun d => d.setStream i { x with gen := 0 }) ∧
      Runs (.rcvyReset i) s fun d => d.setStream i { x with takeAny := true }) ∧
    ((frerVector i q d).1 = true → (frerVector i q (frerVector i q d).2).1 = false)

/-- A port not in RUN, or whose line is busy, starts nothing. On a free line, once the frame before it and the
verification rows that waited for it are done, a due verify or respond frame goes first, then a PAUSE or PFC frame, each
only where it reaches no scheduled launch; a port that is no uplink starts nothing else; then the express class picked
starts, else the pre-empted frame that may resume does, else a preemptable class. The end of a frame counts it, sends
its bytes out with its stamp, starts the gap of 12 bytes, writes its stamp record, frees its Hold space and settles its
entry and waiting rows; where the frame has been due to be pre-empted since before this tick and a byte that R295
permits is left, its fragment ends instead. Before a listed time comes nothing launches; the first listed frame whose
time has come leaves when at most 2 ns late on a free line, and otherwise completes LAUNCH_TIME_PAST, as does one that
still waits for the list. A frame in transmission is cut to a fragment at the first byte of the tick at which R295
permits it when an express frame is ready or its gate is closed, or at its class's close; otherwise it goes on. A shaper
write sets its tokens to 0 from now. A sample round that is due writes one sample for each class that is enabled;
otherwise nothing.
Where the spec leaves a choice it states the model's, of log entries 14, 43, 47 and 50. -/
def Obligations.Transmission : Prop :=
  ∀ (s : State) (p c skew : Nat) (frac : BitVec 16) (block : BlockStamp) (b : Bytes) (rest : List Bytes) (resp : Bool)
      (more : List Bool) (f : TxFrame) (pre post : List TxFrame) (x : SendCtx) (t h : TxNow) (v : Word),
    let y := s.dev.port p
    let w := peSettle p (ownDone p s.dev)
    let z := w.port p
    let g := guardWaits p w
    let r := txStamp p block.island block.bitPos w
    let free := Powered s ∧ s.dev.portRun p = true ∧ lineFree p s.dev = true
    let classes := free ∧ w.isUplink p = true ∧ z.mergeDue = [] ∧
      (z.ctrlDue = [] ∨ z.ctrlDue = b :: rest ∧ reachesLaunch p (txLen b.length) w = true)
    let come := fun (e : TxFrame) => ∃ k, e.ctx = some k ∧ nsT k.launchTime ≤ s.dev.now (s.dev.tb k.tb)
    let u := s.dev.setPort p { y with launch := y.launch.erase f }
    let late := nsT 2 < s.dev.now (s.dev.tb x.tb) - nsT x.launchTime ∨ lineFree p u = false
    let least := t.sent + (64 * (1 + s.dev.rg F.REDUN_PE_CFG_ADD_FRAG_SIZE p) - 4)
    let cut := fun (fr : Nat) => max (sentBytes p t (if t.due then 0 else fr) s.dev) least
    let may := fun (fr : Nat) => t.pe = true ∧ cut fr ≤ sentBytes p t 65535 s.dev ∧ cut fr + 64 ≤ t.bytes.length
    let shut := match t.cls with | some k => !gateOpen p k s.dev | none => false
    let wanted := fun (fr : Nat) =>
      (shut || expressReady p (t.bytes.length - sentBytes p t fr s.dev) s.dev) = true
    let closing := t.cls = some c ∧ (inGuard p c true s.dev || !gateOpen p c s.dev) = true
    let left := fun (d : Device) =>
      let e := (gapStart p 12 (d.setPort p { y with now := none })).count (portCnt p 0x98)
      let e := (e.countN (portCnt p 0xA0) t.bytes.length).emit (.frame p t.bytes t.stamp)
      let e := e.countIf t.frame.bad (portCnt p 0xB0)
      let e := match t.cls with
        | some c => e.count (helmCnt p c 0)
        | none => e.countIf t.frame.ctx.isNone (portCnt p 0xA8)
      let e := e.countIf (t.skips % 4 != 0) (portCnt p 0xC8)
      let e := e.countIf (match t.frame.ctx with | some x => x.stampOp != 0 | none => false) (stampCnt p 0)
      let q := txRecord p t e
      peSettle p (jobLeft t.frame.job p t.stamp (t.skips + q.1) (holdReleaseOpt t.frame.hold q.2))
    let due := s.dev.rb F.HELM_SAMPLE_CFG_ENABLE = true ∧ s.dev.rung = 0 ∧ samplePeriod s.dev ≠ 0 ∧
      s.dev.passedNs s.dev.net.sampleAt (samplePeriod s.dev) = true
    (Powered s → (s.dev.portRun p = false ∨ lineFree p s.dev = false) → Runs (.frameTxStart p block) s id) ∧
    (free → z.mergeDue = resp :: more →
      (reachesLaunch p 64 w = false → Runs (.frameTxStart p block) s fun _ =>
        mergeOut p resp (w.setPort p { z with mergeDue := more })) ∧
      (reachesLaunch p 64 w = true → Runs (.frameTxStart p block) s fun _ => w)) ∧
    (free → z.mergeDue = [] → z.ctrlDue = b :: rest → reachesLaunch p (txLen b.length) w = false →
      Runs (.frameTxStart p block) s fun _ =>
        let n : TxNow := { frame := { bytes := b, flow := 0 }, cls := none, bytes := withFcs b, stamp := r, from_ := r }
        w.setPort p { z with ctrlDue := rest, now := some n }) ∧
    (free → z.mergeDue = [] → w.isUplink p = false →
      (z.ctrlDue = [] ∨ z.ctrlDue = b :: rest ∧ reachesLaunch p (txLen b.length) w = true) →
      Runs (.frameTxStart p block) s fun _ => w) ∧
    (classes → pickClass p false g = some (c, f) → Runs (.frameTxStart p block) s fun _ => startClass p c f r g) ∧
    (classes → pickClass p false g = none → (g.port p).held = some h →
      (heldMay p g = some t → Runs (.frameTxStart p block) s fun _ =>
        g.setPort p { g.port p with held := none, now := some { t with from_ := r } }) ∧
      (heldMay p g = none → Runs (.frameTxStart p block) s fun _ => g)) ∧
    (classes → pickClass p false g = none → (g.port p).held = none →
      (pickClass p true g = some (c, f) → Runs (.frameTxStart p block) s fun _ => startClass p c f r g) ∧
      (pickClass p true g = none → Runs (.frameTxStart p block) s fun _ => g)) ∧
    (Powered s → y.now = some t → (t.due = false ∨ ¬ may 0 ∨ ¬ wanted 0 ∧ ∀ k, closesFor p t k s.dev = false) →
      Runs (.frameTxEnd p) s left) ∧
    (Powered s → y.now = some t → t.due = true → may 0 → wanted 0 → Runs (.frameTxEnd p) s (fragEnd p t (cut 0))) ∧
    (Powered s → y.now = some t → t.due = true → may 0 → ¬ wanted 0 → closing → Runs (.frameTxEnd p) s fun d =>
      (fragEnd p t (cut 0) d).count (helmCnt p c 8)) ∧
    (Powered s → y.now = none → Runs (.frameTxEnd p) s fun d => peSettle p (ownDone p d)) ∧
    (Powered s → (∀ e ∈ y.launch ++ y.waits.map (·.2), ¬ come e) → Runs (.timedLaunch p skew) s id) ∧
    (Powered s → y.launch = pre ++ f :: post → (∀ e ∈ pre, ¬ come e) → f.ctx = some x → come f →
      (late → Runs (.timedLaunch p skew) s fun _ => refill p (timedPast p f u)) ∧
      (¬ late → Runs (.timedLaunch p skew) s fun _ =>
        let e := peSettle p (ownDone p u)
        let k := launchAt skew (launchUnits (e.tb x.tb) (nsT x.launchTime) e)
        let o := txFinal f k e
        let n : TxNow := { frame := f, cls := none, bytes := o.1, stamp := k, from_ := k, skips := o.2.1 }
        refill p ((o.2.2.setPort p { o.2.2.port p with now := some n }).count (stampCnt p 8)))) ∧
    (Powered s → (∀ e ∈ y.launch, ¬ come e) → y.waits.map (·.2) = pre ++ f :: post → (∀ e ∈ pre, ¬ come e) → come f →
      Runs (.timedLaunch p skew) s fun d =>
        timedPast p f (d.setPort p { y with waits := y.waits.filter fun w => w.2 != f })) ∧
    (Powered s → y.now = some t → may frac.toNat → wanted frac.toNat →
      Runs (.preempt p frac) s (fragEnd p t (cut frac.toNat))) ∧
    (Powered s → y.now = some t → ¬ (may frac.toNat ∧ wanted frac.toNat) → Runs (.preempt p frac) s id) ∧
    (Powered s → y.now = some t → may frac.toNat → closing → Runs (.preemptAtClose p c frac) s fun d =>
      (fragEnd p t (cut frac.toNat) d).count (helmCnt p c 8)) ∧
    (Powered s → y.now = some t → ¬ (may frac.toNat ∧ closing) → Runs (.preemptAtClose p c frac) s id) ∧
    (Powered s → y.now = none → Runs (.preempt p frac) s id ∧ Runs (.preemptAtClose p c frac) s id) ∧
    (Linked s → Runs (.shaperCfgWrite p c v) s fun d =>
      let e := writeReg64 (F.HELM_SHAPER_CFG_ENABLE.addr p c) v d
      e.setCls p c { e.cls p c with tokens := 0, last := e.raw }) ∧
    (Powered s → due → Runs .sampleRound s fun d =>
      (List.range 32).foldl (fun d p => (List.range 8).foldl (fun d c =>
        if d.rb F.HELM_CLASS_CFG_SAMPLE_EN p c then sampleWrite p c d else d) d) { d with net.sampleAt := d.raw }) ∧
    (Powered s → ¬ due → Runs .sampleRound s id)

/-- With a change pending CONFIG_CHANGE only sets ADMIN_BUSY. With none pending, a list that passes R369 becomes the
pending list with its change time, which the CHANGE registers show; one that does not sets CONFIG_ERROR with its event.
CANCEL withdraws a pending change; where the change would have ended or prolonged the entry in force, that entry takes
its own end again, and one held past it gives way at once. Before the change time GATE_CHANGE_TIME does nothing; at it
the pending list is operational, frames it cannot send are removed, the frame on the line is treated as R367 says, and
CONFIG_CHANGED raises its event. GATE_CHANGE takes the entry in force once the entry before it has ended, with the frame
on the line treated as R367 says, and does nothing before it or with GATE_EN 0; where the change time has come, it is
that change.
Where the spec leaves a choice it states the model's, of log entry 50. -/
def Obligations.GateLists : Prop :=
  ∀ (s : State) (p : Nat) (pd : GatePend),
    let x := s.dev.port p
    let g := adminList p s.dev
    let ok := gateListOk g = true ∧ s.dev.rg F.HELM_GATE_CTRL_ADMIN_LIST_LEN p ≤ 1024
    let ended := x.oper.en = true ∧ x.entryEnd ≤ nowNs x.oper.tb s.dev
    let waits := x.pend = none ∨ x.pend = some pd ∧ nowNs pd.list.tb s.dev < pd.ct
    let changed := fun (d : Device) =>
      let e := gateCaught p (gateStates x) (gateLoad p (d.setPort p { x with oper := pd.list, pend := none }))
      let e := abandonHeld p ((List.range 8).foldl (fun d c => removeUnsendable p c d) e)
      helmRetry (helmEvent F.HELM_STATUS_CONFIG_CHANGED F.HELM_EVT_EN_CONFIG_CHANGED 336 p e)
    (Linked s → x.pend.isSome → Runs (.gateConfigChange p) s fun d => d.ru F.HELM_GATE_STATUS_ADMIN_BUSY 1 p) ∧
    (Linked s → x.pend = none → ok → Runs (.gateConfigChange p) s fun d =>
      let ct := changeTime g (d.now (d.tb g.tb))
      let e := d.setPort p { x with pend := some { list := g, ct := ct } }
      (e.ru F.HELM_GATE_CHANGE_S_SECONDS (ct.toNat / 1000000000) p).ru F.HELM_GATE_CHANGE_NS_NANOSECONDS
        (ct.toNat % 1000000000) p) ∧
    (Linked s → x.pend = none → ¬ ok → Runs (.gateConfigChange p) s fun d =>
      helmEvent F.HELM_STATUS_CONFIG_ERROR F.HELM_EVT_EN_CONFIG_ERROR 337 p (d.ru F.HELM_GATE_STATUS_CONFIG_ERROR 1 p)) ∧
    (Linked s → x.pend = none → Runs (.gateCancel p) s id) ∧
    (Linked s → x.pend = some pd → let ct := changeOper x pd s.dev
      ((x.oper.en = false ∨ x.entryEnd ≠ nsUp ct) → Runs (.gateCancel p) s fun d => d.setPort p { x with pend := none }) ∧
      (x.oper.en = true → x.entryEnd = nsUp ct → Runs (.gateCancel p) s fun d =>
        let r := gateAt x.oper (match holdFrom x.oper ct with
          | some h => max (nowNs x.oper.tb d) (h - 1)
          | none => nsUp ct - 1)
        gateCaught p (gateStates x) (d.setPort p { x with pend := none, entry := r.1, entryEnd := r.2.2 }))) ∧
    (Powered s → waits → Runs (.gateChangeTime p) s id) ∧
    (Powered s → x.pend = some pd → pd.ct ≤ nowNs pd.list.tb s.dev →
      Runs (.gateChangeTime p) s changed ∧ Runs (.gateChange p) s changed) ∧
    (Powered s → waits → ¬ ended → Runs (.gateChange p) s id) ∧
    (Powered s → waits → ended → Runs (.gateChange p) s fun d => gateCaught p (gateStates x) (gateLoad p d))

/-- A port that seeks with its reference present enters RUN when it has locked, with the lock bits set. A link fault
takes a port in RUN to RECOVERY, counted, with LINK_DOWN; 10 ms in RECOVERY take it to START. Negotiation that resolves
otherwise is counted, sets AN_FAIL and begins again. Losing a reference takes its ports in RUN to RECOVERY and stops the
10 ms of those in it, and its return starts them. RESTART goes to START from START, RUN and RECOVERY; TEST_START enters
TEST where R266 permits it, and TEST_STOP leaves it to IDLE or, for a branch arm, to START; SLEEP enters SLEEP from RUN
where R269 permits it and otherwise sets SLEEP_REFUSED; WAKE goes from SLEEP to START. A matching frame or a lasting
signal wakes a sleeping port, and says which; any other does not. The pattern checker reports only in TEST. In another
state each command does nothing.
Where the spec leaves a choice it states the model's, of log entry 44. -/
def Obligations.PortStates : Prop :=
  ∀ (s : State) (p n r k : Nat) (b : Bool) (cause : LinkLoss) (t : Word) (bs : Bytes),
    let x := s.dev.port p
    let seeks := x.st = .start ∨ x.st = .recovery
    let match_ := (List.range 8).find? fun k => wakeMatches p k bs s.dev
    let unlock := fun (d : Device) => (d.ru F.PORT_STATE_PCS_LOCK 0 p).ru F.PORT_STATE_FEC_LOCK 0 p
    let lost := fun (training : Bool) (d : Device) =>
      let e := (portTo p .recovery (d.setPort p { d.port p with training })).count (portCnt p 0xF0)
      portStatus p 1 (e.setPort p { e.port p with recoverFrom := if refLost p e then none else some e.raw })
    (Powered s → seeks → refLost p s.dev = false → Runs (.portLockAcquired p b) s fun d =>
      let e := d.setPort p { x with recoverFrom := none }
      let e := (e.ru F.PORT_STATE_SIGNAL 1 p).ru F.PORT_STATE_PCS_LOCK 1 p
      let e := (e.rub F.PORT_STATE_FEC_LOCK (e.rg F.PORT_MODE_FEC p != 0) p).ru F.PORT_STATE_HI_BER 0 p
      let an := e.rb F.PORT_MODE_AN_EN p
      let e := (e.rub F.PORT_STATE_AN_DONE an p).rub F.PORT_STATE_TRAINED (an && b) p
      musterSend p (peInitial p (portTo p .run e))) ∧
    (Powered s → (¬ seeks ∨ refLost p s.dev = true) → Runs (.portLockAcquired p b) s id) ∧
    (Powered s → x.st = .run →
      Runs (.portLinkFault p .highBer) s (fun d => portLinkLost p false (portStatus p 3 (d.ru F.PORT_STATE_HI_BER 1 p))) ∧
      Runs (.portLinkFault p .lossOfSignal) s (fun d => portLinkLost p false (unlock (d.ru F.PORT_STATE_SIGNAL 0 p))) ∧
      Runs (.portLinkFault p .lossOfLock) s (fun d => portLinkLost p false (unlock d)) ∧
      Runs (.portLinkFault p .partnerRestart) s
        (fun d => portLinkLost p true (unlock ((d.ru F.PORT_STATE_AN_DONE 0 p).ru F.PORT_STATE_TRAINED 0 p))) ∧
      portLinkLost p b s.dev = lost b s.dev) ∧
    (Powered s → x.st ≠ .run → Runs (.portLinkFault p cause) s id) ∧
    (Powered s → x.st = .recovery → x.recoverFrom = some t →
      (s.dev.passedNs t 10000000 = true → Runs (.portRecoveryTimeout p) s fun d =>
        portTo p .start (d.setPort p { x with recoverFrom := none })) ∧
      (s.dev.passedNs t 10000000 = false → Runs (.portRecoveryTimeout p) s id)) ∧
    (Powered s → (x.st ≠ .recovery ∨ x.recoverFrom = none) → Runs (.portRecoveryTimeout p) s id) ∧
    (Powered s → seeks → s.dev.rb F.PORT_MODE_AN_EN p = true → Runs (.anFail p) s fun d =>
      negotiate p (portStatus p 6 (d.count (portCnt p 0xF8)))) ∧
    (Powered s → (¬ seeks ∨ s.dev.rb F.PORT_MODE_AN_EN p = false) → Runs (.anFail p) s id) ∧
    (Powered s → Runs (.refclkNetLost r) s fun d => (refPorts r).foldl (fun d p =>
        if (d.port p).st = .recovery then d.setPort p { d.port p with recoverFrom := none } else portLinkLost p false d)
      { d with net.refLost := tabSet false d.net.refLost r true }) ∧
    (Powered s → tabGet false s.dev.net.refLost r = true → Runs (.refclkNetReturn r) s fun d =>
      (refPorts r).foldl (fun d p =>
        if (d.port p).st = .recovery then d.setPort p { d.port p with recoverFrom := some d.raw } else d)
        { d with net.refLost := tabSet false d.net.refLost r false }) ∧
    (Powered s → tabGet false s.dev.net.refLost r = false → Runs (.refclkNetReturn r) s id) ∧
    (Linked s → (seeks ∨ x.st = .run) → Runs (.portRestart p) s fun d =>
      portTo p .start (d.setPort p { x with recoverFrom := none })) ∧
    (Linked s → ¬ (seeks ∨ x.st = .run) → Runs (.portRestart p) s id) ∧
    (Linked s → portTestOk p s.dev = true → Runs (.portTestStart p) s fun d =>
      portTo p .test (d.setPort p { x with recoverFrom := none })) ∧
    (Linked s → portTestOk p s.dev = false → Runs (.portTestStart p) s id) ∧
    (Linked s → x.st = .test → s.dev.rg F.PILOT_ARM_CFG_ROLE p = 0 → Runs (.portTestStop p) s (portTo p .idle)) ∧
    (Linked s → x.st = .test → s.dev.rg F.PILOT_ARM_CFG_ROLE p ≠ 0 → Runs (.portTestStop p) s (portTo p .start)) ∧
    (Linked s → x.st ≠ .test → Runs (.portTestStop p) s id) ∧
    (Linked s → x.st = .run → Runs (.portSleep p) s
      (if sleepPermitted p s.dev then portTo p .sleep else portStatus p 7)) ∧
    (Linked s → x.st ≠ .run → Runs (.portSleep p) s id) ∧
    (Linked s → x.st = .sleep → Runs (.portWake p) s (portTo p .start)) ∧
    (Linked s → x.st ≠ .sleep → Runs (.portWake p) s id) ∧
    (Powered s → x.st = .sleep → wakesByPattern p s.dev = true →
      (match_ = some k → Runs (.wakePatternMatch p bs) s fun d =>
        portWakes p ((d.ru F.PORT_WAKE_CTRL_LAST_SIGNAL 0 p).ru F.PORT_WAKE_CTRL_LAST_PATTERN k p)) ∧
      (match_ = none → Runs (.wakePatternMatch p bs) s id)) ∧
    (Powered s → (x.st ≠ .sleep ∨ wakesByPattern p s.dev = false) → Runs (.wakePatternMatch p bs) s id) ∧
    (Powered s → x.st = .sleep → wakesByPattern p s.dev = false → s.dev.rb F.PORT_WAKE_CTRL_WAKE_ON_SIGNAL p = true →
      Runs (.wakeSignal p) s fun d => portWakes p (d.ru F.PORT_WAKE_CTRL_LAST_SIGNAL 1 p)) ∧
    (Powered s → (x.st ≠ .sleep ∨ wakesByPattern p s.dev = true ∨ s.dev.rb F.PORT_WAKE_CTRL_WAKE_ON_SIGNAL p = false) →
      Runs (.wakeSignal p) s id) ∧
    (Powered s → x.st = .test → Runs (.patternLock p b n) s fun d =>
      (d.rub F.PORT_STATE_PATTERN_LOCK b p).rsat F.PORT_TEST_ERRORS_ERRORS n p) ∧
    (Powered s → x.st ≠ .test → Runs (.patternLock p b n) s id)

/-- A frame on a FENCED port is only counted, and one on a port not in RUN does nothing. On a port in RUN what its
decoders counted is added first. A fragment or unknown delimiter without pre-emption is counted as an error and dropped;
with it, what reassembly makes whole is received as a frame, and until then nothing more happens. A whole frame that
Pilot does not judge is admitted whole; one that it judges and blocks is counted and dropped; one admitted by a window
is cut at the window's close, and PILOT_CUT_OFF is that cut. A MAC control frame is counted, acted on when good as the
port's flow control says, and passed on only under PASS_CTRL; any other unjudged frame of 14 bytes or more is a standard
frame, which Hold's limits drop, counted, when it finds no room. PAUSE_FRAME_RX and PFC_FRAME_RX are PORT_RX_FRAME of
such a frame, and nothing for another. PAUSE in PAUSE mode sets every class's pause from the frame's end and raises
RX_PAUSED, and PFC in PFC mode that of the classes it enables. A pause that has run out is removed and waiting frames
are offered again; XOFF priorities whose half time has passed are sent again.
Where the spec leaves a choice it states the model's, of log entries 45, 46, 47 and 81. -/
def Obligations.Reception : Prop :=
  ∀ (s : State) (p c : Nat) (f g : RxFrame) (late : Bool) (w : Window) (t : Word) (d e : Device),
    let cmd := if late then Instr.pilotCutOff p f else .portRxFrame p f
    let run := Powered s ∧ s.dev.portRun p = true ∧ (s.dev.port p).st ≠ .fenced
    let on := s.dev.rb F.REDUN_PE_CFG_ENABLE p
    let a := lineErrors p f.errors s.dev
    let stamp := rxStamp p f.island f.bitPos a
    let pause := (isMacControl f.bytes && beField f.bytes 14 2 == 1) = true
    let pfc := (isMacControl f.bytes && beField f.bytes 14 2 == 0x101) = true
    (Powered s → (s.dev.port p).st = .fenced → Runs cmd s fun d => d.count (pilotCnt p 0x30)) ∧
    (Powered s → (s.dev.port p).st ≠ .fenced → s.dev.portRun p = false → Runs cmd s id) ∧
    (run → f.delimiter ≠ .express → on = false → Runs cmd s fun _ => frameDiscard p f late (a.count (peCnt p 0x10))) ∧
    (run → f.delimiter = .unknown → on = true → Runs cmd s fun _ => frameDiscard p f late (a.count (peCnt p 0x10))) ∧
    (run → f.delimiter ≠ .express → on = true →
      (reassemble p f late a = (none, e) → Runs cmd s fun _ => e) ∧
      (reassemble p f late a = (some g, e) → Runs cmd s fun _ => frameWhole p g late e)) ∧
    (run → f.delimiter = .express →
      (pilotJudges p f.bytes a = false → Runs cmd s fun _ => rxAdmitted p f false none false stamp a) ∧
      (pilotJudges p f.bytes a = true → pilotJudge p stamp a = (.block, e) → Runs cmd s fun _ => rxBlocked p f stamp e) ∧
      (pilotJudges p f.bytes a = true → pilotJudge p stamp a = (.admitted none, e) →
        Runs cmd s fun _ => rxAdmitted p f true none false stamp e) ∧
      (pilotJudges p f.bytes a = true → pilotJudge p stamp a = (.admitted (some w), e) → Runs cmd s fun _ =>
        let n := bytesBy p (e.timeAt .x stamp) w.close e
        rxAdmitted p { f with bytes := f.bytes.take n } true (some w) (late || decide (n < f.bytes.length)) stamp e)) ∧
    (pause → exec (.pauseFrameRx p f) s = exec (.portRxFrame p f) s) ∧
    (pfc → exec (.pfcFrameRx p f) s = exec (.portRxFrame p f) s) ∧
    (run → f.delimiter = .express → pilotJudges p f.bytes a = false →
      (pause → Runs (.pauseFrameRx p f) s fun _ => rxAdmitted p f false none false stamp a) ∧
      (pfc → Runs (.pfcFrameRx p f) s fun _ => rxAdmitted p f false none false stamp a)) ∧
    (Powered s → (¬ pause → Runs (.pauseFrameRx p f) s id) ∧ (¬ pfc → Runs (.pfcFrameRx p f) s id)) ∧
    (let fl := rxFlags f (d.rg F.PORT_FRAME_MAX_FRAME p) false
      let bytes := f.bytes.take (d.rg F.PORT_FRAME_MAX_FRAME p)
      let last := byteEnd stamp (f.bytes.length - 1) (d.rate p)
      let m := rxReport p bytes fl (macCount p bytes f.bytes.length fl d)
      let q := if !isMacControl bytes then m.2 else if fl.bad then m.2.count (portCnt p 0x68)
        else macControlRx p bytes last.count m.2
      14 ≤ f.bytes.length → rxAdmitted p f false none false stamp d =
        if isMacControl bytes && !q.rb F.PORT_FRAME_PASS_CTRL p then q
        else standardRx p bytes f.bytes.length m.1 stamp fl q) ∧
    (∀ (bytes : Bytes) (len st : Nat) (fl : RxFlags), holdAdmits p (framePrio p bytes d) d = false →
      standardRx p bytes len st stamp fl d = d.count (portCnt p 0x60)) ∧
    (∀ bytes : Bytes, let m := d.count (portCnt p 0x68)
      (beField bytes 14 2 = 1 → m.rg F.PORT_FLOW_MODE p = 1 → macControlRx p bytes t d =
        helmRetry (portStatus p 5 ((List.range 8).foldl (fun d c => pauseSet p c (beField bytes 16 2) t d)
          (m.count (portCnt p 0x70))))) ∧
      (beField bytes 14 2 = 0x101 → m.rg F.PORT_FLOW_MODE p = 2 → macControlRx p bytes t d = pfcAct p bytes t m)) ∧
    (Powered s → tabGet none (s.dev.port p).pauseEnd c = some t →
      (t.toNat ≤ s.dev.raw.toNat → Runs (.pauseTimerExpire p c) s fun d =>
        helmRetry (d.setPort p { d.port p with pauseEnd := tabSet none (d.port p).pauseEnd c none })) ∧
      (s.dev.raw.toNat < t.toNat → Runs (.pauseTimerExpire p c) s id)) ∧
    (Powered s → tabGet none (s.dev.port p).pauseEnd c = none → Runs (.pauseTimerExpire p c) s id) ∧
    (let q := s.dev.rg F.PORT_FLOW_PAUSE_QUANTA p
      let y := s.dev.port p
      let due := (List.range 8).filter fun k => bit (s.dev.rg F.PORT_FLOW_STATUS_XOFF p) k &&
        decide (quantaTicks p (q / 2) s.dev ≤ s.dev.since (tabGet 0 y.xoffAt k))
      let mask := due.foldl (fun m k => m + 2 ^ k) 0
      (Powered s → due = [] → Runs (.xoffRepeat p) s id) ∧
      (Powered s → due ≠ [] → Runs (.xoffRepeat p) s fun d =>
        let e := d.setPort p { y with xoffAt := due.foldl (fun t k => tabPut d.raw t k) y.xoffAt }
        ctrlSend p (if e.rg F.PORT_FLOW_MODE p = 1 then pauseFrame q e else pfcFrame mask mask q e) e))

/-- Pass 2 of an empty recirculation queue does nothing; otherwise the oldest frame leaves the queue, is counted, looked
up in its bank and acted on, or waits for frames stamped before it, those that may still arrive elsewhere among them,
and frames that waited for it are acted on. A bank swap sets ACTIVE. While a rule command is in progress another only
sets CMD_IGNORED; otherwise BANK and INDEX take the command's and BUSY stands for at most 100 ns, and then: a write to a
bank that may be written, with a staged action that R329 accepts, puts the staged rule at its index and its hit counter
to 0, and another sets REJECTED and raises the event; an invalidation of an entry of a bank that may be written makes it
invalid and its hit counter 0, and another is rejected in the same way; a read puts the entry and whether it is valid
into the staging registers. A miss action is written in a bank that may be written and rejected otherwise. A meter write
empties the meter from now.
Where the spec leaves a choice it states the model's, of log entries 29 and 49. -/
def Obligations.CompassCommands : Prop :=
  ∀ (s : State) (b : Bool) (i m : Nat) (v : Word) (q : Recirc) (rest : List Recirc),
    let busy := s.dev.raw.toNat < s.dev.compass.busyEnd.toNat
    let v0 := Config.freeValue s.dev.freeCtr
    let stop := s.dev.raw + BitVec.ofNat 64 (v0.toNat % 81)
    let r := ({ s.dev with freeCtr := s.dev.freeCtr + 1, compass.busyEnd := stop }.rub F.COMPASS_RULE_CMD_BANK b).ru
      F.COMPASS_RULE_CMD_INDEX i
    let rejected := writeReject (r.ru F.COMPASS_RULE_CMD_REJECTED 1)
    let zeroed := fun (e : Device) => { e with counters := tabSet 0 e.counters (ruleHits b i) 0 }
    (Powered s → s.dev.compass.queue = [] → Runs .recircPass2 s id) ∧
    (Powered s → s.dev.compass.queue = q :: rest → Runs .recircPass2 s fun d =>
      let e := { d with compass.queue := rest }.count 0x90008
      let w1 := q.act1.toNat
      let base := (if bits w1 63 62 = 1 then q.stop else 0) + 8 * bits w1 54 44
      let node := if bit w1 61 then q.stopNode else bits w1 60 55
      let k := parseFrom q.bytes base e 12 0 node {}
      let conflict := k.conflict || q.lenConflict
      let l := ruleLookup q.bank (ruleKey true q.port q.status (bits q.act0.toNat 7 0) conflict k) k.trunc conflict e
      let y : RxCtx :=
        { port := q.port, bytes := q.bytes, len := q.len, status := q.status, stamp := q.stamp, hold := q.hold }
      waitDrain (actOrWait l.1 y
        (logSlack 7 (slackRaw q.at_ 2000 e.raw) (bankFree q.bank (l.2.2.countIf (bit l.1 59) 0x90060))))) ∧
    (Linked s → Runs (.bankSwap b) s fun d => d.rub F.COMPASS_BANK_ACTIVE b) ∧
    (Linked s → busy → Runs (.ruleWrite b i) s (fun d => d.ru F.COMPASS_RULE_CMD_CMD_IGNORED 1) ∧
      Runs (.ruleInvalidate b i) s (fun d => d.ru F.COMPASS_RULE_CMD_CMD_IGNORED 1) ∧
      Runs (.ruleRead b i) s fun d => d.ru F.COMPASS_RULE_CMD_CMD_IGNORED 1) ∧
    (Linked s → ¬ busy → bankWritable b r = true → actionBad r = false → Runs (.ruleWrite b i) s fun _ =>
      let y : RuleEnt :=
        { value := staged F.COMPASS_RULE_KEY_VALUE r, mask := staged F.COMPASS_RULE_MASK_MASK r,
          act0 := BitVec.ofNat 64 (r.rg F.COMPASS_RULE_ACT0_WORD0),
          act1 := BitVec.ofNat 64 (r.rg F.COMPASS_RULE_ACT1_WORD1) }
      zeroed (r.setBank b (tabSet none (r.bank b) i (some y)))) ∧
    (Linked s → ¬ busy → (bankWritable b r = false ∨ actionBad r = true) →
      Runs (.ruleWrite b i) s fun _ => rejected) ∧
    (Linked s → ¬ busy → bankWritable b r = true → Runs (.ruleInvalidate b i) s fun _ => zeroed (ruleClear b i r)) ∧
    (Linked s → ¬ busy → bankWritable b r = false → Runs (.ruleInvalidate b i) s fun _ => rejected) ∧
    (Linked s → ¬ busy → Runs (.ruleRead b i) s fun _ =>
      let x := (tabGet none (r.bank b) i).getD { value := 0, mask := 0, act0 := 0, act1 := 0, valid := false }
      let e := unstage F.COMPASS_RULE_KEY_VALUE x.value.toNat (unstage F.COMPASS_RULE_MASK_MASK x.mask.toNat r)
      ((e.ru F.COMPASS_RULE_ACT0_WORD0 x.act0.toNat).ru F.COMPASS_RULE_ACT1_WORD1 x.act1.toNat).rub
        F.COMPASS_RULE_CMD_ENTRY_VALID x.valid) ∧
    (Linked s → bankWritable b s.dev = true → Runs (.missActionWrite b v) s fun d =>
      d.ru (if b then F.COMPASS_MISS1_ACTION else F.COMPASS_MISS0_ACTION) v.toNat) ∧
    (Linked s → bankWritable b s.dev = false → Runs (.missActionWrite b v) s writeReject) ∧
    (Linked s → Runs (.meterCfgWrite m v) s fun d =>
      let e := writeReg64 (F.COMPASS_METER_CFG_ENABLE.addr m) v d
      e.setMeter m { tokens := 0, last := d.nowStamp })

/-! ### Host queues and the Tender -/

/-- Over a live link: a ring makes its queue fetch, and one for a queue that does not exist, or for a disabled admin
pair, is counted; a ring of a completion queue arms it and announces at once what is not yet consumed, and does nothing
when NOTIFY is 0; a P or C within its range is taken, one out of range is counted and raises its event, and one for an
absent queue does nothing. SQ_INVALIDATE empties an I/O queue's cache until INVALIDATE_DONE, which makes it fetch again.
With power, a fetch read that succeeds adds its units; one that fails is made due again while retries are left, and then
the queue faults with its event; one of an invalidated or deleted queue is discarded; with no read in flight nothing
happens. ADMIN_ENABLE sets NOTIFY and VECTOR and clears CFG_ERR on request; ENABLE 0 empties the pair's cache; ENABLE 1
on a disabled pair enables it from the registers when the sizes are legal and otherwise sets CFG_ERR.
Where the spec leaves a choice it states the model's, of log entries 52 and 53. -/
def Obligations.QueueRegisters : Prop :=
  ∀ (s : State) (q cause : Nat) (v : BitVec 32) (w : Word) (r : HostRead) (b : Bytes),
    let x := s.dev.sq q
    let c := s.dev.cq q
    let rings := x.present = true ∧ (q ≠ adminQ ∨ s.dev.rb F.QUEUE_ADMIN_CFG_ENABLE = true)
    (Linked s → rings → Runs (.sqDoorbell q) s fun d => fetchAll (d.setSq q { x with wanted := true })) ∧
    (Linked s → ¬ rings → Runs (.sqDoorbell q) s fun d => d.count 0xB0000) ∧
    (Linked s → c.present = false → Runs (.cqDoorbell q) s (fun d => d.count 0xB0000) ∧
      Runs (.cqConsWrite q v) s id) ∧
    (Linked s → c.present = true → c.notify = false → Runs (.cqDoorbell q) s id) ∧
    (Linked s → c.present = true → c.notify = true → c.prod = c.cons →
      Runs (.cqDoorbell q) s fun d => d.setCq q { c with armed := true }) ∧
    (Linked s → c.present = true → c.notify = true → c.prod ≠ c.cons →
      Runs (.cqDoorbell q) s fun d => evRaiseWith 384 [c.vector] (d.setCq q { c with armed := true })) ∧
    (Linked s → x.present = false → Runs (.sqProdWrite q v) s id) ∧
    (Linked s → x.present = true → prodRejected x v = false → Runs (.sqProdWrite q v) s fun d =>
      fetchAll (d.setSq q { x with prod := v })) ∧
    (Linked s → x.present = true → prodRejected x v = true → Runs (.sqProdWrite q v) s fun d =>
      queueEvent F.QUEUE_EVT_STATUS_SQ_OVERRUN F.QUEUE_EVT_EN_SQ_OVERRUN 386 q (d.count 0xB0008)) ∧
    (Linked s → c.present = true → (v - c.cons).toNat ≤ (c.prod - c.cons).toNat → Runs (.cqConsWrite q v) s fun d =>
      fetchAll (cqDrain q (d.setCq q { c with cons := v }))) ∧
    (Linked s → c.present = true → (c.prod - c.cons).toNat < (v - c.cons).toNat → Runs (.cqConsWrite q v) s fun d =>
      queueEvent F.QUEUE_EVT_STATUS_CQ_CONS_INVALID F.QUEUE_EVT_EN_CQ_CONS_INVALID 387 q (d.count 0xB0010)) ∧
    (Linked s → x.present = true → q ≠ adminQ → Runs (.sqInvalidate q) s fun d =>
      (d.setSq q { x with cache := [], sending := none, listTries := 0, invalidating := true }).count 0xB0028) ∧
    (Linked s → (x.present = false ∨ q = adminQ) → Runs (.sqInvalidate q) s id) ∧
    (Powered s → x.invalidating = true → Runs (.invalidateDone q) s fun d =>
      fetchAll (d.setSq q { x with invalidating := false, cache := [], inflight := 0, tries := 0, wanted := true })) ∧
    (Powered s → x.invalidating = false → Runs (.invalidateDone q) s id) ∧
    (Powered s → x.inflight = 0 → Runs (.unitFetchDone q r) s id) ∧
    (Powered s → x.inflight ≠ 0 → (x.invalidating = true ∨ x.deleting.isSome = true) →
      Runs (.unitFetchDone q r) s fun d => d.setSq q { x with inflight := 0, tries := 0 }) ∧
    (Powered s → x.inflight ≠ 0 → x.invalidating = false → x.deleting = none →
      (b.length = 32 * x.inflight → Runs (.unitFetchDone q (.ok b)) s fun d =>
        fetchAll (d.setSq q { x with inflight := 0, tries := 0, cache := x.cache ++ chunks 32 b })) ∧
      (b.length ≠ 32 * x.inflight → Runs (.unitFetchDone q (.ok b)) s id) ∧
      (x.tries < s.dev.rg F.QUEUE_CFG_RETRY_MAX → Runs (.unitFetchDone q (.failed cause)) s fun d =>
        fetchAll (d.setSq q { x with inflight := 0, tries := x.tries + 1, wanted := true })) ∧
      (s.dev.rg F.QUEUE_CFG_RETRY_MAX ≤ x.tries → Runs (.unitFetchDone q (.failed cause)) s fun d =>
        queueEvent F.QUEUE_EVT_STATUS_QUEUE_FAULT F.QUEUE_EVT_EN_QUEUE_FAULT 389 q
          (d.setSq q { x with inflight := 0, tries := 0, fault := true, wanted := false }))) ∧
    (Linked s →
      let a := s.dev.cq adminQ
      let sl := bits w.toNat 28 24
      let cl := bits w.toNat 36 32
      let ve := bits w.toNat 10 0
      let no := bit w.toNat 62
      let e := if bit w.toNat 61 = true then s.dev.ru F.QUEUE_ADMIN_CFG_CFG_ERR 0 else s.dev
      let e := (e.rub F.QUEUE_ADMIN_CFG_NOTIFY_EN no).ru F.QUEUE_ADMIN_CFG_VECTOR ve
      let e := if a.present = true then e.setCq adminQ { a with vector := ve, notify := no } else e
      let sized := (e.ru F.QUEUE_ADMIN_CFG_CQ_SIZE_LOG2 cl).ru F.QUEUE_ADMIN_CFG_SQ_SIZE_LOG2 sl
      let f := if s.dev.rb F.QUEUE_ADMIN_CFG_ENABLE = true then e else sized
      let legal := 6 ≤ sl ∧ sl ≤ 12 ∧ 6 ≤ cl ∧ cl ≤ 12
      (bit w.toNat 63 = false → (f.sq adminQ).present = false → Runs (.adminEnable w) s fun _ =>
        f.ru F.QUEUE_ADMIN_CFG_ENABLE 0) ∧
      (bit w.toNat 63 = false → (f.sq adminQ).present = true → Runs (.adminEnable w) s fun _ =>
        (f.setSq adminQ { f.sq adminQ with cache := [], inflight := 0, wanted := false,
                                           prod := (f.sq adminQ).cons }).ru F.QUEUE_ADMIN_CFG_ENABLE 0) ∧
      (bit w.toNat 63 = true → s.dev.rb F.QUEUE_ADMIN_CFG_ENABLE = true → Runs (.adminEnable w) s fun _ => e) ∧
      (bit w.toNat 63 = true → s.dev.rb F.QUEUE_ADMIN_CFG_ENABLE = false →
        (legal → Runs (.adminEnable w) s fun _ =>
          let g := sized.ru F.QUEUE_ADMIN_CFG_ENABLE 1
          let g := g.setSq adminQ { present := true, base := g.rg F.QUEUE_ADMIN_SQ_BASE_ADDR * 4096, cq := adminQ,
                                    kind := 3, sizeLog2 := sl, live := (g.sq adminQ).live }
          g.setCq adminQ { present := true, base := g.rg F.QUEUE_ADMIN_CQ_BASE_ADDR * 4096, sizeLog2 := cl,
                           reserve := 4, vector := ve, notify := no, armed := no }) ∧
        (¬ legal → Runs (.adminEnable w) s fun _ => sized.ru F.QUEUE_ADMIN_CFG_CFG_ERR 1)))

/-- The head entry is taken up by its own command: with no entry free to start nothing happens, a malformed, forbidden
or reserved head is refused, and an entry of another opcode waits. Then NOP starts and completes OK; RX_POST leaves a
good entry as a buffer; SEND refuses a wrong list (0x04) and stamp request (0x0D), asks for a list held in host memory,
again while retries are left and then refusing it (0x09), and with good pairs asks for its first 8 bytes and its frame.
SEND_FRAME_FETCHED offers the frame, refuses it with CACHE_STALE_DETECTED when those bytes changed and with
HOST_MEMORY_ERROR when the read failed. ACYCLIC_SEND is refused for a branch without a path (0x0F), a DOWN window (0x0A)
or room (0x05); otherwise it takes the node's next SEQ and waits. TENDER_RUN starts an IDLE host channel, waits for a
RUNNING one, and is refused on a HALTED one and on channels 0 to 15. SEND and ACYCLIC_SEND wait while PF0 may issue no
request or no tag is free.
Where the spec leaves a choice it states the model's, of log entries 51 and 55. -/
def Obligations.QueueEntries : Prop :=
  ∀ (s : State) (q op st cause : Nat) (e : Entry) (x : SendCtx) (r : HostRead) (bs head : Bytes) (res : Bytes → Bool)
      (d f : Device) (l : List (Nat × Nat × Bool)),
    let w0 := leWord e.bytes 0
    let runRes := fun b => word0Reserved b || entryUnits b != 1
    (headEntry q d = none → entryPick q op res d = .inl d) ∧
    (headEntry q d = some e → entryBadStatus (d.sq q).kind e = some st →
      entryPick q op res d = .inl (entryRefuse q e st d)) ∧
    (headEntry q d = some e → entryBadStatus (d.sq q).kind e = none →
      (bits w0 63 56 ≠ op → entryPick q op res d = .inl d) ∧
      (bits w0 63 56 = op → res e.bytes = true → entryPick q op res d = .inl (entryRefuse q e 0x03 d)) ∧
      (bits w0 63 56 = op → res e.bytes = false → entryPick q op res d = .inr e)) ∧
    (Powered s → entryPick q 0 word0Reserved s.dev = .inl f → Runs (.nop q) s fun _ => f) ∧
    (Powered s → entryPick q 0 word0Reserved s.dev = .inr e → Runs (.nop q) s fun d =>
      let o := entryStart q e 0 d
      entryComplete o.1 0 {} o.2) ∧
    (Powered s → entryPick q 2 rxPostReserved s.dev = .inl f → Runs (.rxPost q) s fun _ => f) ∧
    (Powered s → entryPick q 2 rxPostReserved s.dev = .inr e → Runs (.rxPost q) s id) ∧
    (Powered s → (s.dev.bme = false ∨ queueTag s.dev = false) → Runs (.send q r) s id ∧ Runs (.acyclicSend q r) s id) ∧
    (Powered s → s.dev.bme = true → queueTag s.dev = true → entryPick q 1 sendReserved s.dev =
      .inl f → Runs (.send q r) s fun _ => f) ∧
    (Powered s → s.dev.bme = true → queueTag s.dev = true → entryPick q 1 sendReserved s.dev = .inr e →
      sgEntryOk e.bytes = false → Runs (.send q r) s (entryRefuse q e 0x04)) ∧
    (Powered s → s.dev.bme = true → queueTag s.dev = true → entryPick q 1 sendReserved s.dev = .inr e →
      sgEntryOk e.bytes = true →
      let n := w0 % 512
      let asked := s.dev.emitRead (leWord e.bytes 1) (16 * n)
      let y := asked.sq q
      (bit w0 30 = true → r = .failed cause → y.listTries < s.dev.rg F.QUEUE_CFG_RETRY_MAX → Runs (.send q r) s fun _ =>
        asked.setSq q { y with listTries := y.listTries + 1 }) ∧
      (bit w0 30 = true → r = .failed cause → s.dev.rg F.QUEUE_CFG_RETRY_MAX ≤ y.listTries → Runs (.send q r) s fun _ =>
        entryRefuse q e 0x09 (asked.setSq q { y with listTries := 0 })) ∧
      (bit w0 30 = true → r = .ok bs → bs.length ≠ 16 * n → Runs (.send q r) s fun _ => asked) ∧
      ((bit w0 30 = true ∧ r = .ok bs ∧ bs.length = 16 * n ∧ l = sgPairs n bs ∧
        f = asked.setSq q { y with listTries := 0 } ∨
        bit w0 30 = false ∧ f = s.dev ∧
          l = sgPairs n (slice e.bytes 16 16 ++ e.bytes.drop (if bit w0 31 then 64 else 32))) →
        let z := f.sq q
        let ctx := sendCtx e.bytes z.tb (sgTotal l)
        let ok := stampOk ctx (bits (leWord e.bytes 7) 63 32) (sgTotal l)
        (sgPairsOk l = false → Runs (.send q r) s fun _ => entryRefuse q e 0x04 f) ∧
        (sgPairsOk l = true → ok = false → Runs (.send q r) s fun _ => entryRefuse q e 0x0D f) ∧
        (sgPairsOk l = true → ok = true → Runs (.send q r) s fun _ =>
          let slot := z.cons.toNat % 2 ^ z.sizeLog2
          l.foldl (fun d p => d.emitRead p.1 p.2.1)
            ((f.setSq q { z with sending := some ctx }).emit (.hostRead (z.base + 32 * slot) 8))))) ∧
    (Powered s → ((s.dev.sq q).sending = none ∨ (s.dev.sq q).entryAt 0 = none) →
      Runs (.sendFrameFetched q head r) s id) ∧
    (Powered s → (s.dev.sq q).sending = some x → (s.dev.sq q).entryAt 0 = some e →
      let d := s.dev.setSq q { s.dev.sq q with sending := none }
      ((bs.length ≠ x.frameLen ∨ head.length ≠ 8) → Runs (.sendFrameFetched q head (.ok bs)) s id) ∧
      (bs.length = x.frameLen → head.length = 8 → head = x.head → Runs (.sendFrameFetched q head (.ok bs)) s fun _ =>
        let o := entryStart q e x.tb d
        fetchAll (sendOffer q o.1 x bs o.2)) ∧
      (bs.length = x.frameLen → head.length = 8 → head ≠ x.head → Runs (.sendFrameFetched q head (.ok bs)) s fun _ =>
        entryRefuse q e 0x0C d) ∧
      Runs (.sendFrameFetched q head (.failed cause)) s fun _ => entryRefuse q e 0x09 d) ∧
    (Powered s → s.dev.bme = true → queueTag s.dev = true → entryPick q 3 acyclicReserved s.dev = .inl f →
      Runs (.acyclicSend q r) s fun _ => f) ∧
    (Powered s → s.dev.bme = true → queueTag s.dev = true → entryPick q 3 acyclicReserved s.dev = .inr e →
      let b := bits w0 31 27
      let node := bits w0 26 13
      let n := leWord e.bytes 2 % 2 ^ 11
      let downs := downWindows b s.dev
      let gone := s.dev.rb F.CROSS_BR_CFG_ENABLE b = false ∨ s.dev.rg F.FIX_MUSTER_BR_RESULT b = 3 ∨ pathsOf b s.dev = []
      let wide := downs.any fun w => decide (n ≤ s.dev.rg F.PILOT_ACY_CFG_MAX_DATA b w)
      let refused := fun (st : Nat) (d : Device) =>
        let o := entryStart q e 0 d
        entryComplete o.1 st {} o.2
      let queued := fun (bytes : Bytes) (d : Device) =>
        let o := entryStart q e 0 d
        let seq := tabGet 0 o.2.cross.acySeq node
        let a : AcyOut := { node := node, mbx := bits w0 12 5, seq := seq, data := bytes, entry := o.1 }
        let f := { o.2 with cross.acySeq := tabSet 0 o.2.cross.acySeq node ((seq + 1) % 256) }
        fetchAll (f.setBranch b { f.branch b with acyQueue := (f.branch b).acyQueue ++ [a] })
      let asked := fun (d : Device) => d.emitRead (leWord e.bytes 1) n
      (gone → Runs (.acyclicSend q r) s (refused 0x0F)) ∧
      (¬ gone → downs = [] → Runs (.acyclicSend q r) s (refused 0x0A)) ∧
      (¬ gone → downs ≠ [] → wide = false → Runs (.acyclicSend q r) s (refused 0x05)) ∧
      (¬ gone → wide = true → n = 0 → Runs (.acyclicSend q r) s (queued [])) ∧
      (¬ gone → wide = true → n ≠ 0 →
        (bs.length = n → Runs (.acyclicSend q (.ok bs)) s fun d => queued bs (asked d)) ∧
        (bs.length ≠ n → Runs (.acyclicSend q (.ok bs)) s asked) ∧
        Runs (.acyclicSend q (.failed cause)) s fun d => refused 0x09 (asked d))) ∧
    (Powered s → entryPick q 4 runRes s.dev = .inl f → Runs (.tenderRun q) s fun _ => f) ∧
    (Powered s → entryPick q 4 runRes s.dev = .inr e →
      let c := w0 % 64
      (16 ≤ c → (s.dev.chan c).st = .idle → Runs (.tenderRun q) s fun d =>
        let o := entryStart q e 0 d
        tenderStart c (leWord e.bytes 1) (some o.1) o.2) ∧
      (16 ≤ c → (s.dev.chan c).st = .running → Runs (.tenderRun q) s id) ∧
      (16 ≤ c → (s.dev.chan c).st = .halted → Runs (.tenderRun q) s fun d =>
        let o := entryStart q e 0 d
        entryComplete o.1 0x10 {} o.2) ∧
      (c < 16 → Runs (.tenderRun q) s fun d =>
        let o := entryStart q e 0 d
        entryComplete o.1 0x12 {} o.2))

/-- The head of the admin pair that is taken up but may not run ends as adminPick gives: a QID above 4,095 with 0x40, a
reserved field with 0x03, in a state that does not permit it with 0x46. Otherwise CREATE_CQ and CREATE_SQ complete with
the first of STATE_NOT_PERMITTED, QUEUE_EXISTS, INVALID_QUEUE_NUMBER or NO_SUCH_QUEUE, bad base, bad size, no pool or
bad egress port, and else make the queue and complete OK; DELETE_CQ completes with NO_SUCH_QUEUE or CQ_IN_USE, and else
removes the queue; DELETE_SQ gives up what has not been sent, completes once nothing of the queue is left, and lets
other frames that wait have the room. TEST_START in RUN with TEST_PERMITTED, and TEST_END in TEST, are kept for the
boundary; elsewhere they complete with TEST_NOT_PERMITTED.
Where the spec leaves a choice it states the model's, of log entry 52. -/
def Obligations.AdminCommands : Prop :=
  ∀ (s : State) (e : Entry) (d f : Device) (op : Nat) (qid : Bool) (res : Bytes → Bool),
    let no := fun (_ : Bytes) => false
    let kind3 := fun (b : Bytes) => bits (leWord b 2) 51 50 == 3
    let qn := leWord e.bytes 0 % 2 ^ 16
    let done := fun (st : Nat) (d : Device) =>
      let o := entryStart adminQ e 0 d
      entryComplete o.1 st {} o.2
    (entryPick adminQ op no d = .inl f → adminPick op qid res d = .inl f) ∧
    (entryPick adminQ op no d = .inr e →
      let reserved := word0Reserved e.bytes = true ∨ 2 < entryUnits e.bytes ∨ res e.bytes = true
      let permitted := if op < 0x20 then d.st ≠ .halt else chartOpAllowed op d.st = true
      (qid = true → 4095 < qn → adminPick op qid res d = .inl (done 0x40 d)) ∧
      ((qid = false ∨ qn ≤ 4095) → reserved → adminPick op qid res d = .inl (entryRefuse adminQ e 0x03 d)) ∧
      ((qid = false ∨ qn ≤ 4095) → ¬ reserved → ¬ permitted → adminPick op qid res d = .inl (done 0x46 d)) ∧
      ((qid = false ∨ qn ≤ 4095) → ¬ reserved → permitted → adminPick op qid res d = .inr e)) ∧
    (Powered s →
      let o := entryStart adminQ e 0 s.dev
      let w := leWord e.bytes 2
      (adminPick 0x01 true no s.dev = .inl f → Runs .createCq s fun _ => f) ∧
      (adminPick 0x02 true no s.dev = .inl f → Runs .deleteCq s fun _ => f) ∧
      (adminPick 0x03 true kind3 s.dev = .inl f → Runs .createSq s fun _ => f) ∧
      (adminPick 0x04 true no s.dev = .inl f → Runs .deleteSq s fun _ => f) ∧
      (adminPick 0x07 false no s.dev = .inl f → Runs .testStart s fun _ => f) ∧
      (adminPick 0x08 false no s.dev = .inl f → Runs .testEnd s fun _ => f) ∧
      (adminPick 0x01 true no s.dev = .inr e →
        (createOk o.2 = false → Runs .createCq s (done 0x46)) ∧
        (createOk o.2 = true →
          ((o.2.cq qn).present = true → Runs .createCq s (done 0x41)) ∧
          ((o.2.cq qn).present = false →
            (leWord e.bytes 1 % 4096 ≠ 0 → Runs .createCq s (done 0x44)) ∧
            (leWord e.bytes 1 % 4096 = 0 →
              ((w % 32 < 6 ∨ 16 < w % 32 ∨ bits w 63 48 < 4) → Runs .createCq s (done 0x43)) ∧
              (6 ≤ w % 32 → w % 32 ≤ 16 → 4 ≤ bits w 63 48 →
                (32768 < reservations o.2 + bits w 63 48 → Runs .createCq s (done 0x48)) ∧
                (reservations o.2 + bits w 63 48 ≤ 32768 → Runs .createCq s fun _ =>
                  entryComplete o.1 0 {} (o.2.setCq qn
                    { present := true, base := leWord e.bytes 1, sizeLog2 := w % 32, reserve := bits w 63 48,
                      vector := bits w 42 32, notify := bit w 31, armed := bit w 31 }))))))) ∧
      (adminPick 0x02 true no s.dev = .inr e →
        let used := o.2.hq.sqs.any fun x => x.1 != adminQ && x.2.present && x.2.cq == qn
        ((o.2.cq qn).present = false → Runs .deleteCq s (done 0x42)) ∧
        ((o.2.cq qn).present = true → used = true → Runs .deleteCq s (done 0x45)) ∧
        ((o.2.cq qn).present = true → used = false → Runs .deleteCq s fun _ =>
          entryComplete o.1 0 {} (o.2.setCq qn {}))) ∧
      (adminPick 0x03 true kind3 s.dev = .inr e →
        (createOk o.2 = false → Runs .createSq s (done 0x46)) ∧
        (createOk o.2 = true →
          ((o.2.sq qn).present = true → Runs .createSq s (done 0x41)) ∧
          ((o.2.sq qn).present = false →
            ((o.2.cq (bits w 63 52)).present = false → Runs .createSq s (done 0x42)) ∧
            ((o.2.cq (bits w 63 52)).present = true →
              (leWord e.bytes 1 % 4096 ≠ 0 → Runs .createSq s (done 0x44)) ∧
              (leWord e.bytes 1 % 4096 = 0 →
                ((w % 32 < 6 ∨ 16 < w % 32) → Runs .createSq s (done 0x43)) ∧
                (6 ≤ w % 32 → w % 32 ≤ 16 →
                  (bits w 51 50 = 0 → egressOk (bits w 46 42) o.2 = false → Runs .createSq s (done 0x47)) ∧
                  ((bits w 51 50 ≠ 0 ∨ egressOk (bits w 46 42) o.2 = true) → Runs .createSq s fun _ =>
                    entryComplete o.1 0 {} (o.2.setSq qn
                      { present := true, base := leWord e.bytes 1, cq := bits w 63 52, kind := bits w 51 50,
                        tb := bits w 49 48, batching := bit w 47, port := bits w 46 42, cls := bits w 41 39,
                        sizeLog2 := w % 32 }))))))) ) ∧
      (adminPick 0x04 true no s.dev = .inr e →
        ((s.dev.sq qn).present = false → Runs .deleteSq s (done 0x42)) ∧
        ((s.dev.sq qn).present = true → Runs .deleteSq s fun _ =>
          let g := o.2.setSq qn { o.2.sq qn with sending := none, listTries := 0, wanted := false, invalidating := false }
          let l := unsentJobs qn g
          let g := l.foldl (fun d j => jobRefuse (some j) 0x08 d) (pullJobs l g)
          let g := dropCached qn 16 (dropAcyclic qn g)
          helmRetry (sqDeleteDone qn (g.setSq qn { g.sq qn with deleting := some o.1.cid })))) ∧
      (adminPick 0x07 false no s.dev = .inr e →
        (s.dev.st = .run → s.dev.rb F.GLOBAL_CFG_TEST_PERMITTED = true → Runs .testStart s fun _ =>
          { o.2 with hq.testReq := some (true, o.1) }) ∧
        ((s.dev.st ≠ .run ∨ s.dev.rb F.GLOBAL_CFG_TEST_PERMITTED = false) → Runs .testStart s (done 0x4E))) ∧
      (adminPick 0x08 false no s.dev = .inr e →
        (s.dev.st = .test → Runs .testEnd s fun _ => { o.2 with hq.testReq := some (false, o.1) }) ∧
        (s.dev.st ≠ .test → Runs .testEnd s (done 0x4E))))

/-- For channels 16 to 63. A start enters the descriptor under PROGRESS and reads it as soon as the read engine may. A
channel that runs nothing takes no descriptor, completion, error or barrier. A descriptor is ignored while its read has
not been issued, a descriptor is at work, or it has lists that Bus Master Enable 0 keeps from being read; else its lists
that have not been read are, and one that parses is worked on and one that does not halts the channel with CLASS 3. A
completion that a read in flight covers is staged; another does nothing. A failed read of the descriptor or of a list,
which follow one another and have retries of their own, is counted and issued again while retries are left (with Bus
Master Enable 0 as soon as it may), and then halts the channel with CLASS 2; a failed data or confirming read halts it
with CLASS 1 at the byte that failed. A confirming read that completes finishes its descriptor. ABORT halts a running
channel with CLASS 5; CLEAR makes a halted one IDLE and clears its latch. Neither, nor a descriptor, touches a channel
that is not the host's.
Where the spec leaves a choice it states the model's, of log entries 54 and 55. -/
def Obligations.TenderChannels : Prop :=
  ∀ (s : State) (c i cause a : Nat) (dst : Bool) (desc src ds data : Bytes) (r : TenderRun) (t : TenderDesc)
      (k : TenderReadKind),
    let lists := bit (leWord desc 0) 53 = true ∨ bit (leWord desc 0) 52 = true
    let open_ := r.metaDue = false ∧ r.again = none ∧ r.desc = none
    let e := if bit (leWord desc 0) 53 && !r.listed.contains false then s.dev.emitRead (leWord desc 1) src.length else s.dev
    let e := if bit (leWord desc 0) 52 && !r.listed.contains true then e.emitRead (leWord desc 2) ds.length else e
    let read := match k with | .list _ b n => (b, n) | _ => (r.descAddr, 64)
    let listed := match k with | .list b _ _ => b :: r.listed | _ => r.listed
    let r1 := if k = r.reading then r else { r with reading := k, tries := 0, listed }
    let d1 := if k = r.reading then s.dev else (s.dev.setRun c r1).emitRead read.1 read.2
    let again := fun (x : Option (Nat × Nat)) =>
      (d1.setRun c { r1 with tries := r1.tries + 1, again := x }).count (tenderCnt c 0x20)
    let max := s.dev.rg F.TENDER_CFG_RETRY_MAX
    let metaKind := k = .desc ∨ ∃ b x n, k = .list b x n
    (tenderStart c a none s.dev =
      let f := ((s.dev.setChan c { st := .running, run := some { descAddr := a, metaDue := !readFree s.dev } }).ru
        F.TENDER_CH_PROGRESS_DESC_LO (a / 64) c).ru F.TENDER_CH_PROGRESS_BYTES_DONE 0 c
      if readFree s.dev = true then f.emit (.hostRead a 64) else f) ∧
    (hostChan c = true → Powered s → (s.dev.chan c).run = none →
      Runs (.tenderDescriptorFetched c desc src ds) s id ∧ Runs (.tenderReadComplete c dst i data) s id ∧
      Runs (.tenderReadError c k cause) s id ∧ Runs (.barrierReadDone c) s id) ∧
    (hostChan c = true → Powered s → (s.dev.chan c).run = some r →
      ((¬ open_ ∨ lists ∧ s.dev.bme = false) → Runs (.tenderDescriptorFetched c desc src ds) s id) ∧
      (open_ → (¬ lists ∨ s.dev.bme = true) →
        (parseDesc desc src ds = some t → Runs (.tenderDescriptorFetched c desc src ds) s fun _ =>
          tenderPump (e.setRun c { r with desc := some t, reading := .desc, listed := [], tries := 0 })) ∧
        (parseDesc desc src ds = none → Runs (.tenderDescriptorFetched c desc src ds) s fun _ =>
          tenderPump (tenderHalt c 3 0x10 0 r.descAddr 0 none e))) ∧
      (data ≠ [] → readCovers dst i data.length r.reads = true → Runs (.tenderReadComplete c dst i data) s fun d =>
        let g := { r with reads := readArrive dst i data.length r.reads }
        tenderPump (d.setRun c (if dst then { g with dstGot := gotPut g.dstGot i data }
          else { g with srcGot := gotPut g.srcGot i data }))) ∧
      ((data = [] ∨ readCovers dst i data.length r.reads = false) → Runs (.tenderReadComplete c dst i data) s id) ∧
      (metaKind → metaComes r k = false → Runs (.tenderReadError c k cause) s id) ∧
      (metaKind → metaComes r k = true → r1.tries < max →
        (s.dev.bme = true → Runs (.tenderReadError c k cause) s fun _ => (again none).emitRead read.1 read.2) ∧
        (s.dev.bme = false → Runs (.tenderReadError c k cause) s fun _ => again (some read))) ∧
      (metaKind → metaComes r k = true → max ≤ r1.tries → Runs (.tenderReadError c k cause) s fun _ =>
        tenderPump (tenderHalt c 2 cause 0 read.1 0 none d1)) ∧
      (r.desc = some t → readCovers dst i 1 r.reads = true → Runs (.tenderReadError c (.data dst i) cause) s fun d =>
        tenderPump (tenderHalt c 1 cause 0 (if dst then dstAddr t i else srcAddr t i) i (some (copyPos t i)) d)) ∧
      ((r.desc = none ∨ readCovers dst i 1 r.reads = false) → Runs (.tenderReadError c (.data dst i) cause) s id) ∧
      (r.desc = some t → r.confirming = true → Runs (.tenderReadError c .confirm cause) s fun d =>
        tenderPump (tenderHalt c 1 cause 1 (lastWritten t) (lastOffset t) none d)) ∧
      ((r.desc = none ∨ r.confirming = false) → Runs (.tenderReadError c .confirm cause) s id ∧
        Runs (.barrierReadDone c) s id) ∧
      (r.desc = some t → r.confirming = true → Runs (.barrierReadDone c) s fun d =>
        tenderPump (tenderDescDone c t r d))) ∧
    (hostChan c = true → Linked s → (s.dev.chan c).run = some r → Runs (.tenderAbort c) s fun d =>
      tenderPump (tenderHalt c 5 0x30 0 r.descAddr 0 none d)) ∧
    (hostChan c = true → Linked s → (s.dev.chan c).run = none → Runs (.tenderAbort c) s id) ∧
    (hostChan c = true → Linked s → (s.dev.chan c).st = .halted → Runs (.tenderClear c) s fun d =>
      tenderUnlatch c (d.setChan c {})) ∧
    (hostChan c = true → Linked s → (s.dev.chan c).st ≠ .halted → Runs (.tenderClear c) s id) ∧
    (hostChan c = false → Linked s → Runs (.tenderAbort c) s id ∧ Runs (.tenderClear c) s id) ∧
    (hostChan c = false → Powered s → Runs (.tenderDescriptorFetched c desc src ds) s id)

/-! ### Crossings, the hand-over, Pilot and muster -/

/-- Each command acts on the run, window, entry or frame it is about and does nothing when there is none. A ferry frame
whole before its launch time is ready, and late when past its margin; one whole only later is logged and stays unsent.
At its launch time a ready frame is sent on every channel, one not ready is given up, and the run decides. A skiff at
its time leaves on every channel when it was whole and no ferry frame it copies from was lost, and ends the run's skiffs
otherwise. A returned copy's berths are merged and the run decides. A window that closes without its copy counts as
done. At the deadline every berth takes its final entry. A cycle point fires what is met and due. CLAIM_SPARE and
RELEASE_SPARE that pass their tests are kept for the branch's boundary and complete OK, and else complete with the first
test they fail. An own ACYCLIC frame leaves while its DOWN window is open, its last bit leaves before the close, and its
ports are free; one that returns is discarded. A node's is a violation when another node owns the window, counted when
its WINDOW is wrong or it is a duplicate, and else delivered or, with no receive queue for it, counted.
Where the spec leaves a choice it states the model's, of log entries 14, 56, 60, 61, 62, 63 and 64. -/
def Obligations.CrossingCommands : Prop :=
  ∀ (s : State) (b k p i wid : Nat) (m : Word) (ready : Option Word) (l : List LateMerge) (r : Run) (f : FrameRun) (g : SkiffRun)
      (h : Handed) (w : Window) (e : Entry) (rest x : Device) (a : AcyOut) (more : List AcyOut), Powered s →
    let d := s.dev
    (d.runWith b (frameWaiting k) = none → Runs (.ferryAssembled b k) s id) ∧
    (d.runWith b (frameWaiting k) = some r → r.frames[k]? = some f →
      let limit := f.launchAt - readyMargin d
      let y := logSlack 0 (slackX limit d.raw d) d
      (f.launchAt ≤ d.xNow → Runs (.ferryAssembled b k) s fun _ =>
        y.putRun { r with frames := r.frames.set k { f with whole := true } }) ∧
      (d.xNow < f.launchAt → Runs (.ferryAssembled b k) s fun _ =>
        let late := decide (limit < d.xNow)
        let y := y.putRun { r with frames := r.frames.set k { f with whole := true, ready := true } }
        let y := brStatusIf late b 0 (y.countIf late (crossCnt b 0x60))
        let mine := r.berths.filter fun z => z.frame == k
        (y.countN (cargoCnt 0x30) (mine.filter (·.safe)).length).countN (cargoCnt 0x38)
          (mine.filter (·.stale)).length)) ∧
    (d.runWith b (frameDue k d.xNow) = none → Runs (.ferryLaunch b k) s id) ∧
    (d.runWith b (frameDue k d.xNow) = some r → r.frames[k]? = some f →
      (f.ready = true → Runs (.ferryLaunch b k) s fun _ =>
        let body := (berthsOf r ((r.berths.filter fun y => y.frame == k).map (·.idx))).map (·.sent)
        let y := trainSend .ferry (crossCnt b 8) r k f.launchAt
          (fun c => armFrame b (ferryHeader r k f c d ++ body.flatten) d) d
        let st := if y.1 then LaunchState.launched else .unlaunched
        runDecide b r.crossing (y.2.putRun { r with frames := r.frames.set k { f with st := st } })) ∧
      (f.ready = false → Runs (.ferryLaunch b k) s fun _ => runDecide b r.crossing
        ((unlaunched .ferry r k d).putRun { r with frames := r.frames.set k { f with st := .unlaunched } }))) ∧
    (d.runWith b (skiffDue d.xNow) = none → Runs (.skiffLaunch b ready) s id) ∧
    (d.runWith b (skiffDue d.xNow) = some r → r.skiffs.getLast? = some g →
      let n := r.skiffs.length - 1
      let limit := g.launchAt - readyMargin d
      let y := logSlack 1 (slackX limit m d) d
      let t := y.timeAt .x { count := m }
      let lost := fun (y : Device) =>
        let q := { r with skiffs := r.skiffs.set n { g with st := .unlaunched } }
        mergedCheck b r.crossing (skiffStop q ((unlaunched .skiff r n y).putRun q))
      (ready = none → Runs (.skiffLaunch b ready) s fun _ => lost d) ∧
      (ready = some m → (g.launchAt ≤ t ∨ skiffLost r g = true) → Runs (.skiffLaunch b ready) s fun _ => lost y) ∧
      (ready = some m → t < g.launchAt → skiffLost r g = false → Runs (.skiffLaunch b ready) s fun _ =>
        let late := decide (limit < t)
        let y := brStatusIf late b 0 (y.countIf late (crossCnt b 0x60))
        let body := (berthsOf r g.berths).map (·.sent)
        let z := trainSend .skiff (crossCnt b 0x10) r n g.launchAt
          (fun c => armFrame b (skiffHeader r n g c y ++ body.flatten) y) y
        let q := { r with skiffs := r.skiffs.set n { g with st := if z.1 then .launched else .unlaunched } }
        if z.1 then runDecide b r.crossing (z.2.putRun q) else mergedCheck b r.crossing (skiffStop q (z.2.putRun q)))) ∧
    (takeHanded p (handedKind .ferry) d = none → Runs (.ferryReturn p) s id) ∧
    (takeHanded p (handedKind .ferry) d = some (h, rest) → h.win = some w →
      (rest.runOf w.branch w.crossing = none → Runs (.ferryReturn p) s fun _ => rest) ∧
      (rest.runOf w.branch w.crossing = some r → Runs (.ferryReturn p) s fun _ =>
        let at_ := (r.berths.filter fun x => x.frame == w.idx).map fun x => (x.idx, x.pos)
        runDecide w.branch w.crossing (frameCopies h r none at_ rest))) ∧
    (takeHanded p (handedKind .skiff) d = none → Runs (.skiffReturn p) s id) ∧
    (takeHanded p (handedKind .skiff) d = some (h, rest) → h.win = some w →
      (rest.runOf w.branch w.crossing = none → Runs (.skiffReturn p) s fun _ => rest) ∧
      (rest.runOf w.branch w.crossing = some r → Runs (.skiffReturn p) s fun _ =>
        let bs := match r.skiffs[w.idx]? with | some g => berthsOf r g.berths | none => []
        runDecide w.branch w.crossing (frameCopies h r (some w.idx) (skiffLayout 20 bs) rest))) ∧
    (d.pilot.windows.find? (fun w => w.id == wid) = none → Runs (.returnWindowClose wid) s id) ∧
    (d.pilot.windows.find? (fun w => w.id == wid) = some w →
      let awaits := w.kind ≠ .muster ∧ w.used = false ∧ w.doneAt = none ∧ w.close ≤ d.xNow
      (awaits → Runs (.returnWindowClose wid) s fun d => runDecide w.branch w.crossing (windowDone wid w.close d)) ∧
      (¬ awaits → Runs (.returnWindowClose wid) s id)) ∧
    (d.runWith b (fun r => !r.final) = none → Runs (.branchDeadline b m l) s id) ∧
    (d.runWith b (fun r => !r.final) = some r →
      let n := crossingOf r.deadline d
      ((d.xNow < r.deadline ∨ d.crossingNo < n) → Runs (.branchDeadline b m l) s id) ∧
      (r.deadline ≤ d.xNow → n ≤ d.crossingNo → Runs (.branchDeadline b m l) s fun d =>
        let x := logSlack 2 (slackX r.deadline m d) d
        let y := r.berths.map fun z => lateMerge z (l.find? fun q => q.berth == z.idx) (x.cargo.inErr.contains z.idx)
        let c := (y.filter (·.2)).length
        let bs := y.map (·.1)
        let x := brStatusIf (c != 0) b 7 (x.countN (crossCnt b 0x70) c)
        let keep := x.cargo.inErr.filter fun i => !bs.any (fun z => z.idx == i)
        let x := bs.foldl (fun d z => berthFinal r.crossing b z d) { x with cargo.inErr := keep }
        let missed := bs.any fun z => z.win.isNone && !z.absent && !z.spare
        let x := ((brStatusIf missed b 5 x).ru F.CROSS_BR_LAST_CROSSING r.crossing b).putRun
          { r with berths := bs, final := true }
        if x.cross.runs.any fun z => !z.final && crossingOf z.deadline x == n then x else inputsStable n x)) ∧
    (Runs (.cyclePointFire i) s fun d =>
      let l := d.cross.due.filter fun e => e.point == i && e.met && decide (e.at_ ≤ d.xNow)
      let left := d.cross.due.filter fun e => !(e.point == i && e.met && decide (e.at_ ≤ s.dev.xNow))
      l.foldl (fun d e => cpFireOne e false d) { d with cross.due := left }) ∧
    (adminPick 0x05 false (fun _ => false) d = .inl x → Runs .claimSpare s fun _ => x) ∧
    (adminPick 0x05 false (fun _ => false) d = .inr e →
      let o := entryStart adminQ e 0 d
      let i := leWord e.bytes 0 % 2 ^ 16
      let v := leWord e.bytes 1 % 2 ^ 16
      let y := (o.2.chart.berths[i]?).getD {}
      let claimed := (tabGet none (futureClaims o.2) i).isSome
      let inUse := o.2.chart.berths.any (fun y => !y.spare && y.node == v / 4 && y.bidx == v % 4)
        || (futureClaims o.2).any fun c => c.2 == some (v / 4, v % 4)
      let found := (tabGet [] o.2.muster.found y.branch).contains (v / 4)
      (liveState o.2.st = false → Runs .claimSpare s fun _ => entryComplete o.1 0x46 {} o.2) ∧
      (liveState o.2.st = true → y.spare = false → Runs .claimSpare s fun _ => entryComplete o.1 0x49 {} o.2) ∧
      (liveState o.2.st = true → y.spare = true → claimed = true → Runs .claimSpare s fun _ =>
        entryComplete o.1 0x4A {} o.2) ∧
      (liveState o.2.st = true → y.spare = true → claimed = false → inUse = true → Runs .claimSpare s fun _ =>
        entryComplete o.1 0x4B {} o.2) ∧
      (liveState o.2.st = true → y.spare = true → claimed = false → inUse = false → found = false →
        Runs .claimSpare s fun _ => entryComplete o.1 0x4C {} o.2) ∧
      (liveState o.2.st = true → y.spare = true → claimed = false → inUse = false → found = true →
        Runs .claimSpare s fun _ =>
          let reqs := o.2.cross.claimReqs ++ [(i, some (v / 4, v % 4))]
          entryComplete o.1 0 {} { o.2 with cross.claimReqs := reqs })) ∧
    (adminPick 0x06 false (fun _ => false) d = .inl x → Runs .releaseSpare s fun _ => x) ∧
    (adminPick 0x06 false (fun _ => false) d = .inr e →
      let o := entryStart adminQ e 0 d
      let i := leWord e.bytes 0 % 2 ^ 16
      (liveState o.2.st = false → Runs .releaseSpare s fun _ => entryComplete o.1 0x46 {} o.2) ∧
      (liveState o.2.st = true → tabGet none (futureClaims o.2) i ≠ none → Runs .releaseSpare s fun _ =>
        let reqs := o.2.cross.claimReqs ++ [(i, none)]
        entryComplete o.1 0 {} { o.2 with cross.claimReqs := reqs }) ∧
      (liveState o.2.st = true → tabGet none (futureClaims o.2) i = none → Runs .releaseSpare s fun _ =>
        entryComplete o.1 0x4D {} o.2)) ∧
    (((d.branch b).acyQueue = [] ∨ (d.cross.runs.filter fun r => r.branch == b).getLast? = none) →
      Runs (.acyclicLaunch b k) s id) ∧
    ((d.branch b).acyQueue = a :: more → (d.cross.runs.filter fun r => r.branch == b).getLast? = some r →
      let open_ := r.start + nsT (d.rg F.PILOT_ACY_GAP_GAP_NS b k)
      let most := nsT (branchWire b (armFrameLen (24 + d.rg F.PILOT_ACY_CFG_MAX_DATA b k)) d)
      let len := armFrameLen (24 + a.data.length)
      let may := violating d.st = true ∧ pathsOf b d ≠ [] ∧ d.rb F.PILOT_ACY_CFG_ENABLE b k = true ∧
        d.rb F.PILOT_ACY_CFG_DIR b k = true ∧
        (∀ q ∈ pathsOf b d, ∀ o, (d.port q.port).own = some o → o.stop.toNat ≤ d.raw.toNat) ∧
        open_ ≤ d.xNow ∧ d.xNow + lastBitT b len d < open_ + most + acceptWindow d
      (¬ may → Runs (.acyclicLaunch b k) s id) ∧
      (may → Runs (.acyclicLaunch b k) s fun _ =>
        let j := jobNew a.entry (pathsOf b d).length (some a.seq) (d.setBranch b { d.branch b with acyQueue := more })
        let y := windowsBack .ownAcyclic (pathsOf b d) d.xNow (branchWire b len d) d.crossingNo b k true j.2
        let dev := d.rg F.GLOBAL_ID_DEVICE_ID
        (pathsOf b d).foldl (fun y q =>
          let st := launchStamp (launchUnits .x d.xNow y) y
          ownSend q.port
            (armFrame b (acyclicPdu q.chan dev b d.crossingNo (dev * 16384 + a.node) a.mbx a.seq k a.data) y)
            st.1 (some j.1) st.2) y)) ∧
    (takeHanded p (handedKind .ownAcyclic) d = none → Runs (.ownAcyclicReturn p) s id) ∧
    (takeHanded p (handedKind .ownAcyclic) d = some (h, rest) → Runs (.ownAcyclicReturn p) s fun _ => rest) ∧
    (takeHanded p (handedKind .nodeAcyclic) d = none → Runs (.nodeAcyclicRx p) s id) ∧
    (takeHanded p (handedKind .nodeAcyclic) d = some (h, rest) → h.win = some w →
      let pdu := h.bytes.drop h.off
      let addr := beField pdu 12 3 % 2 ^ 20
      let key := (addr, beField pdu 15 1, beField pdu 16 1)
      let owned := addr % 2 ^ 14 = windowOwner w.branch w.idx w.crossing rest
      let here := beField pdu 17 1 % 4 = w.idx
      let seen := { rest with cross.acySeen := key :: rest.cross.acySeen }
      (¬ owned → Runs (.nodeAcyclicRx p) s fun _ =>
        violation p 3 (deviationOf (rest.timeAt .x h.stamp - w.expect)) rest) ∧
      (owned → ¬ here → Runs (.nodeAcyclicRx p) s fun _ => rest.count (gvCnt p 0x78)) ∧
      (owned → here → rest.cross.acySeen.contains key = true → Runs (.nodeAcyclicRx p) s fun _ =>
        rest.count (gvCnt p 0x70)) ∧
      (owned → here → rest.cross.acySeen.contains key = false → rest.rb F.QUEUE_ACY_CFG_ENABLE = true →
        Runs (.nodeAcyclicRx p) s fun _ => rxDeliver (rest.rg F.QUEUE_ACY_CFG_RXQ) (h.bytes.take (h.bytes.length - 4))
          (h.rxStatus * 2 ^ 48 + p * 2 ^ 32 + 2 ^ 29) h.stamp seen) ∧
      (owned → here → rest.cross.acySeen.contains key = false → rest.rb F.QUEUE_ACY_CFG_ENABLE = false →
        Runs (.nodeAcyclicRx p) s fun _ => seen.count 0xB0030))

/-- At its fetch point a crossing reads OUT_SEQ once, as soon as the read engine may, unless a fetch is at work or its
channel has halted, and fails the fetch when PF0 may issue no request. An OUT_SEQ not valid or not new ends the fetch,
one that names no slot fails it, a new one starts the copy of its slot on channel 0. Bytes of the image that a read in
flight covers go into FILL; with the last the fetch completes, and FETCH_COMPLETE brings all that is missing once every
byte is asked for. A confirming read of channel 1 that completes finishes its descriptor, and ends and counts the
snapshot. A failed OUT_SEQ read is counted and issued again while retries are left; it, a failed read of the image at an
address in flight, or a failed confirming read then fails the transfer; nothing else does. Where the hand-over does not
run none of this acts. ATTACH and DETACH are kept for the boundary, DETACH governing; REARM acts on a latched branch; an
ERR_RUN at its limit detaches.
Where the spec leaves a choice it states the model's, of log entries 55 and 65. -/
def Obligations.HandoverCommands : Prop :=
  ∀ (s : State) (n slot oseq b o cause : Nat) (v : Word) (bs : Bytes) (snap : Snapshot) (flag : Bool) (r : TenderRun)
      (k : TenderReadKind),
    let d := s.dev
    let c := d.cargo
    let atPoint := handoverRuns d = true ∧ c.fetchPoint ≠ some n ∧
      boundaryT n d + nsT (d.rg F.CARGO_TIMING_FETCH_AT) ≤ d.xNow
    let free := c.fetch = .none ∧ (d.chan 0).st ≠ .halted
    let new := bit v.toNat 63 = true ∧ c.lastOseq ≠ some (v.toNat % 2 ^ 32)
    let size := d.rg F.CARGO_IMAGE_OUT_SIZE
    let retry := (d.setRun 0 { r with tries := r.tries + 1 }).count (tenderCnt 0 0x20)
    let rel := v.toNat - outSlotAddr slot d
    let inImage := outSlotAddr slot d ≤ v.toNat ∧ readCovers false rel 1 r.reads = true
    (Powered s → d.cross.current = none → Runs .fetchPoint s id) ∧
    (Powered s → d.cross.current = some n →
      let seen := { d with cargo.fetchPoint := some n }
      (¬ atPoint → Runs .fetchPoint s id) ∧
      (atPoint → ¬ free → Runs .fetchPoint s fun _ => seen) ∧
      (atPoint → free → d.bme = false → Runs .fetchPoint s fun _ => handoverFail 0 (seqAddr d + 8) 1 none seen) ∧
      (atPoint → free → d.bme = true → Runs .fetchPoint s fun _ =>
        tenderPump (reservedStart 0 none { seen with cargo.fetch := .seq n }))) ∧
    (Powered s → (handoverRuns d = false ∨ outSeqDue d = true ∨ ∀ n, c.fetch ≠ .seq n) → Runs (.outSeqReadDone v) s id) ∧
    (Powered s → c.fetch = .seq n → handoverRuns d = true → outSeqDue d = false →
      (¬ new → Runs (.outSeqReadDone v) s fun d =>
        (reservedStop 0 { d with cargo.fetch := .none, cargo.ended := true }).count (cargoCnt 0x20)) ∧
      (new → d.rg F.CARGO_HOST_SLOTS_OUT_SLOTS ≤ bits v.toNat 39 32 → Runs (.outSeqReadDone v) s
        (handoverFail 0 (seqAddr d + 8) 1 none)) ∧
      (new → bits v.toNat 39 32 < d.rg F.CARGO_HOST_SLOTS_OUT_SLOTS → Runs (.outSeqReadDone v) s fun d =>
        let k := bits v.toNat 39 32
        tenderPump (reservedStart 0 (some (fetchDesc k d)) { d with cargo.fetch := .image n k (v.toNat % 2 ^ 32) }))) ∧
    (Powered s → (handoverRuns d = false ∨ (d.chan 0).run = none ∨ ∀ n k q, c.fetch ≠ .image n k q) →
      Runs (.fetchComplete bs) s id ∧ Runs (.tenderReadComplete 0 false o bs) s id) ∧
    (Powered s → handoverRuns d = true → c.fetch = .image n slot oseq → (d.chan 0).run = some r →
      ((bs = [] ∨ readCovers false o bs.length r.reads = false) → Runs (.tenderReadComplete 0 false o bs) s id) ∧
      (bs ≠ [] → readCovers false o bs.length r.reads = true → Runs (.tenderReadComplete 0 false o bs) s fun d =>
        let d := tenderDone 0 bs.length { r with reads := readArrive false o bs.length r.reads } d
        let d := { d with cargo.fill := { d.cargo.fill with mem := memPatch 0 d.cargo.fill.mem o bs } }
        if r.done + bs.length = d.rg F.CARGO_IMAGE_OUT_SIZE then fetchPromote n oseq d else tenderPump d) ∧
      ((r.reqSrc ≠ size ∨ r.done + bs.length ≠ size) → Runs (.fetchComplete bs) s id) ∧
      (r.reqSrc = size → r.done + bs.length = size → Runs (.fetchComplete bs) s fun d =>
        if size = 0 then fetchPromote n oseq d else fetchFeed bs.length bs d)) ∧
    (∀ e : Device,
      let num := (e.cargo.lastImg + 1) % 2 ^ 48
      let x := { e with
        cargo.ready := { img := num, mem := berthImage e.cargo.fill.mem e }, cargo.fill := e.cargo.ready,
        cargo.lastImg := num, cargo.lastOseq := some oseq, cargo.fetch := .none, cargo.ended := true }
      let late := e.cross.current != some n
      let x := (reservedDone 0 (x.count (tenderCnt 0 8))).count (cargoCnt 0x10)
      let x := evRaiseIf late 441 (x.countIf late (cargoCnt 0x18))
      fetchPromote n oseq e =
        tenderPump (cpCondition 6 n 0 (x.emit (.hostWrite (seqAddr x + 0x10) (leBytes 8 (2 ^ 63 + oseq)))))) ∧
    (Powered s → (handoverRuns d = false ∨ c.snap = none ∨ (d.chan 1).run = none ∨ b ≠ 1) →
      Runs (.snapshotConfirmed b) s id) ∧
    (Powered s → handoverRuns d = true → c.snap = some snap → (d.chan 1).run = some r →
      (r.confirming = false → Runs (.snapshotConfirmed 1) s id) ∧
      (r.confirming = true → Runs (.snapshotConfirmed 1) s fun d =>
        let x := { d with cargo.snap := none, cargo.ended := true }.count (tenderCnt 1 8)
        cpCondition 5 snap.crossing 0 ((reservedDone 1 x).count (cargoCnt 0)))) ∧
    (Powered s → handoverRuns d = false → Runs (.handoverTransferFail flag v { isMeta := flag, cause }) s id) ∧
    (Powered s → handoverRuns d = true →
      ((c.snap = none ∨ (d.chan 1).run = none) → Runs (.handoverTransferFail true v { isMeta := flag, cause }) s id) ∧
      (c.snap = some snap → (d.chan 1).run = some r →
        (r.confirming = true → Runs (.handoverTransferFail true v { isMeta := true, cause }) s
          (handoverFail 1 (seqAddr d) 1 (some (errInfo cause 1 1 1 0)))) ∧
        (r.confirming = false → Runs (.handoverTransferFail true v { isMeta := true, cause }) s id) ∧
        Runs (.handoverTransferFail true v { isMeta := false, cause }) s id) ∧
      ((c.fetch = .none ∨ (d.chan 0).run = none) → Runs (.handoverTransferFail false v { isMeta := flag, cause }) s id) ∧
      (c.fetch = .seq n → (d.chan 0).run = some r → r.metaDue = true →
        Runs (.handoverTransferFail false v { isMeta := flag, cause }) s id) ∧
      (c.fetch = .seq n → (d.chan 0).run = some r → r.metaDue = false →
        (r.tries < d.rg F.TENDER_CFG_RETRY_MAX → Runs (.handoverTransferFail false v { isMeta := true, cause }) s fun _ =>
          retry.emit (.hostRead (seqAddr d + 8) 8)) ∧
        (d.rg F.TENDER_CFG_RETRY_MAX ≤ r.tries → Runs (.handoverTransferFail false v { isMeta := true, cause }) s
          (handoverFail 0 (seqAddr d + 8) 1 (some (errInfo cause 2 0 0 0)))) ∧
        Runs (.handoverTransferFail false v { isMeta := false, cause }) s id) ∧
      (c.fetch = .image n slot oseq → (d.chan 0).run = some r →
        (inImage → Runs (.handoverTransferFail false v { isMeta := false, cause }) s
          (handoverFail 0 v.toNat 0 (some (errInfo cause 1 0 0 rel)))) ∧
        (¬ inImage → Runs (.handoverTransferFail false v { isMeta := false, cause }) s id) ∧
        Runs (.handoverTransferFail false v { isMeta := true, cause }) s id)) ∧
    (hostChan b = false → Powered s →
      Runs (.tenderReadError b k cause) s (reservedError b k cause) ∧ Runs (.barrierReadDone b) s id ∧
      ((b ≠ 0 ∨ flag = true) → Runs (.tenderReadComplete b flag o bs) s id)) ∧
    (Powered s → c.errDue = true → d.rg F.CARGO_TIMING_ERR_LIMIT ≤ d.rg F.CARGO_ERR_INFO_ERR_RUN →
      let x := { d with cargo.errDue := false }
      (x.rb F.CARGO_STATUS_ATTACHED = true → Runs .cargoErrLimit s fun _ =>
        evRaise 443 ((cargoDetach x).ru F.CARGO_STATUS_DETACHED_BY_ERROR 1)) ∧
      (x.rb F.CARGO_STATUS_ATTACHED = false → Runs .cargoErrLimit s fun _ => x)) ∧
    (Powered s → (c.errDue = false ∨ d.rg F.CARGO_ERR_INFO_ERR_RUN < d.rg F.CARGO_TIMING_ERR_LIMIT) →
      Runs .cargoErrLimit s id) ∧
    (Linked s → Runs (.attach flag) s (fun d => { d with cargo.attachReq := some (!flag) }) ∧
      Runs .detach s fun d => { d with cargo.attachReq := some false }) ∧
    (Linked s → d.rb F.CARGO_BR_POLICY_LATCHED b = true → Runs (.rearm b) s fun d =>
      d.setBranch b { d.branch b with rearm := true }) ∧
    (Linked s → d.rb F.CARGO_BR_POLICY_LATCHED b = false → Runs (.rearm b) s id)

/-- A serving arm with FENCE_EN whose recent violations have reached the limit meets the fencing condition, and another
does not. At REMAIN 0 a fenced port enters probation, a port in probation serves again, and a serving or locked one
stays; above 0 nothing happens. FORCE_FENCE is kept for the boundary, and so is UNFENCE of a port that is out. A muster
frame that comes back for the crossing in which its channel's frame was sent last is taken in: DISCOVER's entries, or an
ECHO's round trip; with more entries than asked for it is counted, and one not yet turned back in a line measurement,
out of MUSTER, or of another crossing does nothing more. A muster window that has closed with its frame not taken goes,
and its frame is sent again; before that, nothing. The timeout judges the branches still open and ends muster. ACCEPT is
kept for a HELD branch whose reasons it may accept, and for no other.
Where the spec leaves a choice it states the model's, of log entries 58 and 69. -/
def Obligations.PilotAndMuster : Prop :=
  ∀ (s : State) (p b : Nat) (h : Handed) (w : Window) (g : MusterSent) (rest : Device),
    let d := s.dev
    let met := d.rb F.PILOT_ARM_CFG_FENCE_EN p = true ∧ (d.arm p).st = .serving ∧ 0 < violRecent p d ∧
      d.rg F.PILOT_FENCE_CFG_VIOLATION_LIMIT ≤ violRecent p d
    let held := liveState d.st = true ∧ d.rg F.FIX_MUSTER_BR_RESULT b = 3 ∧ d.rg F.FIX_MUSTER_BR_REASON b < 2 ^ 7
    let closed := d.pilot.windows.find? fun w => w.port == p && w.kind == .muster && decide (w.close ≤ d.xNow)
    let waits := d.pilot.handed.any fun h => h.port == p && handedKind .muster h
    let timeUp := d.st = .muster ∧
      d.passedNs d.muster.from_ (d.rg F.FIX_MUSTER_CFG_MUSTER_TIMEOUT_MS * 1000000) = true
    (Powered s → met → Runs (.violationLimitReached p) s fun d => d.setArm p { d.arm p with cond := true }) ∧
    (Powered s → ¬ met → Runs (.violationLimitReached p) s id) ∧
    (Powered s → d.rg F.PILOT_ARM_STATE_REMAIN p ≠ 0 → Runs (.fenceRemainExpire p) s id) ∧
    (Powered s → d.rg F.PILOT_ARM_STATE_REMAIN p = 0 →
      ((d.arm p).st = .fenced → Runs (.fenceRemainExpire p) s (probationEnter p)) ∧
      ((d.arm p).st = .probation → Runs (.fenceRemainExpire p) s fun d => pilotStatus p 2
        ((d.setArm p { d.arm p with st := .serving, viols := [] }).ru F.PILOT_ARM_STATE_REFENCES 0 p)) ∧
      (((d.arm p).st = .serving ∨ (d.arm p).st = .locked) → Runs (.fenceRemainExpire p) s id)) ∧
    (Linked s → Runs (.forceFence p) s fun d => d.setArm p { d.arm p with force := true }) ∧
    (Linked s → ((d.arm p).st = .fenced ∨ (d.arm p).st = .locked) →
      Runs (.unfence p) s fun d => d.setArm p { d.arm p with unfence := true }) ∧
    (Linked s → ((d.arm p).st = .serving ∨ (d.arm p).st = .probation) → Runs (.unfence p) s id) ∧
    (Powered s → takeHanded p (handedKind .muster) d = none → Runs (.musterReturn p) s id) ∧
    (Powered s → takeHanded p (handedKind .muster) d = some (h, rest) → h.win = some w →
      let pdu := h.bytes.drop h.off
      let q := if (gvParse pdu).chan = 1 then portB w.branch rest else portA w.branch rest
      ((rest.mch q).sent = none → Runs (.musterReturn p) s fun _ => rest) ∧
      ((rest.mch q).sent = some g →
        let mine := rest.st = .muster ∧ g.crossing = (gvParse pdu).crossing
        let stale := match (rest.mch w.idx).sent with | some v => v.window != w.id | none => true
        let whole := rest.mstage w.branch = 0 ∨ (gvParse pdu).ret = true
        (¬ mine → Runs (.musterReturn p) s fun _ => rest) ∧
        (mine → g.entryMax < beField pdu 18 2 → Runs (.musterReturn p) s fun _ => rest.count (gvCnt p 0x30)) ∧
        (mine → beField pdu 18 2 ≤ g.entryMax → ¬ whole → Runs (.musterReturn p) s fun _ => rest) ∧
        (mine → beField pdu 18 2 ≤ g.entryMax → whole → Runs (.musterReturn p) s fun _ =>
          let x := if q = w.idx ∨ stale = true then
              { rest with pilot.windows := rest.pilot.windows.filter fun (v : Window) => v.id != w.id }
            else rest
          if g.op = 1 then musterSend q (musterDiscover p q g pdu x) else musterEcho w.branch q g h.stamp x))) ∧
    (Powered s → (closed = none ∨ waits = true) → Runs (.musterWindowExpire p) s id) ∧
    (Powered s → closed = some w → waits = false →
      let x := { d with pilot.windows := d.pilot.windows.filter fun (v : Window) => v.id != w.id }
      ((d.mch w.idx).sent = some g → g.window = w.id → Runs (.musterWindowExpire p) s fun _ =>
        musterSend w.idx (x.setMch w.idx { x.mch w.idx with sent := none })) ∧
      (((d.mch w.idx).sent = none ∨ ∀ g, (d.mch w.idx).sent = some g → g.window ≠ w.id) →
        Runs (.musterWindowExpire p) s fun _ => x)) ∧
    (Powered s → timeUp → Runs .musterTimeout s fun d =>
      musterEnd ((enabledBranches d).foldl
        (fun d b => if d.judged b then d else lineChange b (musterJudge b true) d) d)) ∧
    (Powered s → ¬ timeUp → Runs .musterTimeout s id) ∧
    (Linked s → held → Runs (.musterAccept b) s fun d =>
      { d with muster.accept := tabSet false d.muster.accept b true }) ∧
    (Linked s → ¬ held → Runs (.musterAccept b) s id)

/-! ### Fix, boundaries, the chart and the life cycle -/

/-- From its planned time in a crossing from the epoch on, a port that carries Fix sends its FIX frame once, stamped
within 2 ns of that time, and a COLDSTART that is due at its own; else nothing. A frame that R92 ignores is counted. A
FIX frame of a measuring device is judged; one that R217 names makes the device adopt the epoch of the named frame with
the earliest stamp; another is counted. A COLDSTART of no peer is counted; a colliding one makes a COLDSTARTING device
back off; one that R217 names is adopted on likewise; another is counted unless Fix is IDLE or INTEGRATING. A collision
that waits comes before an adoption. While an admitted frame waits that R219 puts first, a timer or confirmation does
nothing. A listen timer that has run sets the epoch of a device that may start one, and restarts otherwise; a backoff
timer that has run goes to LISTEN. Each count that reaches its limit, in its state, makes Fix SYNCHRONISED, LISTEN or
LOST_FIX; below it, or in another state, nothing happens.
Where the spec leaves a choice it states the model's, of log entries 67 and 68. -/
def Obligations.FixCommands : Prop :=
  ∀ (s : State) (p n status skew : Nat) (h : Handed) (rest : Device), Powered s →
    let d := s.dev
    let pdu := h.bytes.drop h.off
    let dev := (gvParse pdu).dev
    let waits := fixWaits d = true
    let met := fixCollisions d
    let listened := d.passedNs d.fix.timerFrom (d.rg F.FIX_COLDSTART_LISTEN_TIMEOUT * 1000) = true
    let backed := d.passedNs d.fix.timerFrom (d.rg F.FIX_COLDSTART_BACKOFF_BASE * (1 + d.rg F.FIX_CFG_RANK) * 1000) = true
    let planned := boundaryT n d + nsT (d.rg F.FIX_CFG_TX_OFFSET)
    let csAt := nsT (d.rg F.FIX_CFG_TX_OFFSET)
    let confirm := 0 < d.crossingNo ∧ d.rg F.FIX_COLDSTART_CONFIRM_CROSSINGS ≤ d.crossingNo
    let whole := 0 < d.rg F.FIX_STATUS_REGAIN ∧ d.rg F.FIX_COLDSTART_INTEGRATE_CROSSINGS ≤ d.rg F.FIX_STATUS_REGAIN
    let regain := 0 < d.rg F.FIX_STATUS_REGAIN ∧ d.rg F.FIX_LIMITS_REGAIN_CROSSINGS ≤ d.rg F.FIX_STATUS_REGAIN
    let lost := fun (k : Nat) => fixSources d ≠ [] ∧ 0 < k ∧ d.rg F.FIX_LIMITS_SOURCE_LOSS_LIMIT ≤ k
    let sends := fixSends p d = true ∧ d.fix.from_ ≤ n ∧ tabGet none d.fix.sent p ≠ some n ∧ planned ≤ d.xNow
    let starts := fixSends p d = true ∧ d.fix.csDue.contains p = true ∧ csAt ≤ d.xNow
    ((d.cross.current = none ∨ fixStatus d.fix.st = none) → Runs (.fixFrameSend p skew) s id) ∧
    (d.cross.current = some n → fixStatus d.fix.st = some status →
      (¬ sends → Runs (.fixFrameSend p skew) s id) ∧
      (sends → Runs (.fixFrameSend p skew) s fun d =>
        let r := launchAt skew (launchUnits .x planned d)
        let b := fixPdu (d.rg F.GLOBAL_ID_DEVICE_ID) n (d.rg F.FIX_CFG_RANK) status (d.rg F.CROSS_PERIOD_PERIOD_NS) planned
          (d.timeAt .x r)
        let e := { d with fix.sent := tabSet none d.fix.sent p (some n) }
        ownSend p (uplinkFrame p b d) r none (e.countIf (d.portRun p) (stampCnt p 0)))) ∧
    (¬ starts → Runs (.coldstartSend p skew) s id) ∧
    (starts → Runs (.coldstartSend p skew) s fun d =>
      let r := launchAt skew (launchUnits .x csAt d)
      let b := coldstartPdu (d.rg F.GLOBAL_ID_DEVICE_ID) 0 (d.rg F.FIX_CFG_RANK) (d.rg F.FIX_STATUS_ATTEMPT)
        (d.rg F.CROSS_PERIOD_PERIOD_NS) (d.timeAt .x r)
      let e := { d with fix.csDue := d.fix.csDue.filter fun q => q != p }
      ownSend p (uplinkFrame p b e) r none
        ((e.countIf (e.portRun p) (fixCnt 0x30)).countIf (e.portRun p) (stampCnt p 0))) ∧
    (takeHanded p (handedGv 3) d = none → Runs (.fixRx p) s id) ∧
    (takeHanded p (handedGv 3) d = some (h, rest) →
      (fixRejects pdu d = true → Runs (.fixRx p) s fun _ => rest.count (gvCnt p 0x88)) ∧
      (fixRejects pdu d = false →
        (fixMeasures d.fix.st = true → Runs (.fixRx p) s fun _ =>
          fixJudge p dev (beField pdu 13 1) (time96Of pdu 18) (time96Of pdu 30) h.stamp rest) ∧
        (fixMeasures d.fix.st = false → fixOffer h d ≠ none → ∀ best t, fixGoverns met = some (best, t) →
          Runs (.fixRx p) s fun _ =>
            fixAdopt best.stamp t { met with pilot.handed := met.pilot.handed.erase best }) ∧
        (fixMeasures d.fix.st = false → fixOffer h d = none → Runs (.fixRx p) s fun _ => rest.count (fixCnt 0x50)))) ∧
    (takeHanded p (handedGv 4) d = none → Runs (.coldstartRx p) s id) ∧
    (takeHanded p (handedGv 4) d = some (h, rest) →
      (fixRejects pdu d = true → Runs (.coldstartRx p) s fun _ => rest.count (gvCnt p 0x88)) ∧
      (fixRejects pdu d = false →
        (peerRank pdu d = none → Runs (.coldstartRx p) s fun _ => rest.count (fixCnt 0x40)) ∧
        (peerRank pdu d ≠ none →
          (fixCollides h d = true → Runs (.coldstartRx p) s fun _ => fixCollide rest) ∧
          (fixCollides h d = false → fixOffer h d ≠ none → ∀ best t, fixGoverns met = some (best, t) →
            Runs (.coldstartRx p) s fun _ =>
              fixAdopt best.stamp t { met with pilot.handed := met.pilot.handed.erase best }) ∧
          (fixCollides h d = false → fixOffer h d = none → (d.fix.st = .idle ∨ d.fix.st = .integrating) →
            Runs (.coldstartRx p) s fun _ => rest) ∧
          (fixCollides h d = false → fixOffer h d = none → d.fix.st ≠ .idle → d.fix.st ≠ .integrating →
            Runs (.coldstartRx p) s fun _ => rest.count (fixCnt 0x40))))) ∧
    ((waits ∨ d.fix.st ≠ .listen ∨ ¬ listened) → Runs .listenTimeout s id) ∧
    (¬ waits → d.fix.st = .listen → listened →
      (d.rb F.FIX_CFG_CS_CAPABLE = true → Runs .listenTimeout s (fixOwnEpoch .coldstarting)) ∧
      (d.rb F.FIX_CFG_CS_CAPABLE = false → Runs .listenTimeout s fixListen)) ∧
    ((waits ∨ d.fix.st ≠ .backoff ∨ ¬ backed) → Runs .backoffTimeout s id) ∧
    (¬ waits → d.fix.st = .backoff → backed → Runs .backoffTimeout s fixListen) ∧
    ((waits ∨ d.fix.st ≠ .coldstarting ∨ ¬ confirm) → Runs .confirmCountReached s id) ∧
    (¬ waits → d.fix.st = .coldstarting → confirm → Runs .confirmCountReached s fixSync) ∧
    (d.fix.st = .integrating → whole → Runs .integrateCountReached s fixSync) ∧
    ((d.fix.st ≠ .integrating ∨ ¬ whole) → Runs .integrateCountReached s id) ∧
    (d.fix.st = .lostFix → regain → Runs .regainCountReached s fixSync) ∧
    ((d.fix.st ≠ .lostFix ∨ ¬ regain) → Runs .regainCountReached s id) ∧
    (d.fix.st = .integrating → lost d.fix.missed → Runs .sourceLossLimitReached s fun d => fixListen (engineStop d)) ∧
    (d.fix.st = .integrating → ¬ lost d.fix.missed → Runs .sourceLossLimitReached s id) ∧
    (d.fix.st = .synchronised → lost (d.rg F.FIX_STATUS_SOURCE_LOSS) → Runs .sourceLossLimitReached s fixLost) ∧
    (d.fix.st = .synchronised → ¬ lost (d.rg F.FIX_STATUS_SOURCE_LOSS) → Runs .sourceLossLimitReached s id) ∧
    (d.fix.st ≠ .integrating → d.fix.st ≠ .synchronised → Runs .sourceLossLimitReached s id)

/-- Before its time, without an epoch, or in a state that runs no crossings, CROSSING_BOUNDARY does nothing; at its time
a life-cycle commit that waits wipes the device; otherwise what was written takes force, Fix corrects, Pilot's ports
move, the device moves, and the crossing's work is done unless the epoch was lost or the device sleeps. WIPE_COMPLETE
enters LOAD with 800 mV requested and starts the loader. A header that is found fixes the order of the slots, and none
is a fault. A slot that cannot be read, has a wrong structure or does not verify fails with its code, and another goes
on to the next step; the overrides are applied to one that verifies. A chart that passes its checks is put in force; one
that passes them only without overrides is so with OVERRIDE_SKIPPED. The erase of a RETIRED device empties its headers
and, where the slot size is known, its slots and persistent region. Each does nothing in another state or step, or with
no slot to act on.
Where the spec leaves a choice it states the model's, of log entries 66, 71, 77 and 80. -/
def Obligations.BoundaryAndBoot : Prop :=
  ∀ (s : State) (w : Word) (ok : Bool) (flash : Sfdp) (k m : Nat) (more : List Nat) (l : Loading) (h : FlashHeader),
    Powered s →
    let d := s.dev
    let b := d.boot
    let n := nextCrossing d
    let off := crossingState d.st = false ∨ d.cross.epoch = false ∨ d.xNow < boundaryT n d
    let erases := d.st = .load ∧ b.step = .retiredIdle ∧ d.rb F.CHART_STATUS_ERASING = true
    (off → RunsNv (.crossingBoundary w ok) s s.nv id) ∧
    (¬ off → d.wipeDue = true → RunsNv (.crossingBoundary w ok) s s.nv fun d => wipeCommit (testAnswer 0x46 d)) ∧
    (¬ off → d.wipeDue = false →
      let e := fenceAll (boundaryFix n w (rwaTake d))
      let r := boundaryMove d.cross.current.isSome ok s.nv (crossingReset { e with cross.current := some n })
      (e.cross.epoch = false → RunsNv (.crossingBoundary w ok) s s.nv fun _ => e) ∧
      (e.cross.epoch = true → r.2.st = .dormant → RunsNv (.crossingBoundary w ok) s r.1 fun _ => r.2) ∧
      (e.cross.epoch = true → r.2.st ≠ .dormant → RunsNv (.crossingBoundary w ok) s r.1 fun _ => boundaryWork n r.2)) ∧
    (d.st = .wipe →
      let e := trimBoot (devGo .load d)
      let r := loadStart s.nv { e with boot.sfdp := flash, boot.from_ := e.raw }
      RunsNv (.wipeComplete flash) s r.1 fun _ => r.2) ∧
    (d.st ≠ .wipe → RunsNv (.wipeComplete flash) s s.nv id) ∧
    (d.st = .load → b.step = .header → flashHeader s.nv.flash b.sfdp.sizeLog2 = none →
      Runs .flashHeaderReadDone s fun d =>
        slotNext ({ d with boot.slotSize := 0, boot.cands := [] }.ru F.CHART_STATUS_HEADER_FAULT 1)) ∧
    (d.st = .load → b.step = .header → flashHeader s.nv.flash b.sfdp.sizeLog2 = some h →
      Runs .flashHeaderReadDone s fun d =>
        let x := slotHeader s.nv h.slotSize 0
        let y := slotHeader s.nv h.slotSize 1
        let e := slotReport x y (flashMode h (d.ru F.CHART_STATUS_HEADER_COPY h.copy))
        let e := slotFault 1 (if y.ok then 0 else 1) 0 (slotFault 0 (if x.ok then 0 else 1) 0 e)
        slotNext { e with boot.slotSize := h.slotSize, boot.cands := slotOrder s.nv h.slotSize }) ∧
    ((d.st ≠ .load ∨ b.step ≠ .header) → Runs .flashHeaderReadDone s id) ∧
    (d.st = .load → b.step = .read → b.cands = k :: more →
      Runs (.slotReadDone false) s (slotFail 2 0) ∧
      (slotLoad s.nv b.slotSize k = .inl m → Runs (.slotReadDone true) s (slotFail 6 m)) ∧
      (slotLoad s.nv b.slotSize k = .inr l → Runs (.slotReadDone true) s fun d =>
        { d with boot.step := .verify, boot.load := some l })) ∧
    ((d.st ≠ .load ∨ b.step ≠ .read ∨ b.cands = []) → Runs (.slotReadDone ok) s id) ∧
    (d.st = .load → b.step = .verify → b.load = some l →
      let v := slotVerify s.nv l.key l.sig l.digest l.svn
      (v ≠ 0 → Runs .slotVerifyDone s (slotFail v 0)) ∧
      (v = 0 → Runs .slotVerifyDone s fun d =>
        let o := applyOverrides s.nv.flash (persistBase b.slotSize) l.regs
        let e := { d with boot.step := .check, boot.load := some { l with final := o.1 } }
        if o.2 then e.ru F.CHART_STATUS_OVERRIDE_SKIPPED 1 else e)) ∧
    ((d.st ≠ .load ∨ b.step ≠ .verify ∨ b.load = none) → Runs .slotVerifyDone s id) ∧
    (d.st = .load → b.step = .check → b.load = some l →
      (chartCheck l l.final = true → Runs .chartCheckDone s (chartLoaded l l.final)) ∧
      (chartCheck l l.final = false → chartCheck l l.regs = true → Runs .chartCheckDone s fun d =>
        chartLoaded l l.regs (d.ru F.CHART_STATUS_OVERRIDE_SKIPPED 1)) ∧
      (chartCheck l l.final = false → chartCheck l l.regs = false → Runs .chartCheckDone s (slotFail 7 0))) ∧
    ((d.st ≠ .load ∨ b.step ≠ .check ∨ b.load = none) → Runs .chartCheckDone s id) ∧
    (erases →
      let heads := flashErase s.nv.flash 0 0x20000
      (b.slotSize ≠ 0 → RunsNv .retiredEraseDone s
        { s.nv with flash := flashErase heads 0x100000 (2 * b.slotSize + 2 ^ 20) }
        fun d => d.ru F.CHART_STATUS_ERASING 0) ∧
      (b.slotSize = 0 → RunsNv .retiredEraseDone s { s.nv with flash := heads }
        fun d => d.ru F.CHART_STATUS_ERASING 0)) ∧
    (¬ erases → RunsNv .retiredEraseDone s s.nv id)

/-- A head entry taken up that may not run ends as adminPick gives; a command that reads or writes host memory waits
while PF0 may issue no request. STAGE_BEGIN erases the slot's sectors and opens a session; STAGE_WRITE programs its data
in order and moves the session on; STAGE_VERIFY closes the session and reports the fault code, with event 9 when there
is none, and then starts LOAD again where the loader had faulted; SLOT_INVALIDATE erases the slot's first sector; none
touches the running slot, and two need a session; a flash operation that fails completes FLASH_ERROR, its bytes free
values. PERSIST_WRITE of a permitted key that fits appends a record and raises event 11; PERSIST_READ writes the
governing record's bytes to the host, and without one completes PERSIST_NOT_FOUND. LC_PROVISION in BLANK, LC_FIELD in
PROVISIONED and LC_RETIRE in BLANK, or authorised, commit the next state when the fuses program, and complete FUSE_ERROR
with nothing changed when they do not; in another state they complete LC_NOT_PERMITTED. The two fuse bits of a state,
once programmed, make it the state that is read. A HALT_LOG record that is due is written once, in the persistent region
that the flash header places.
Where the spec leaves a choice it states the model's, of log entries 76, 78 and 79. -/
def Obligations.ChartAndLifeCycle : Prop :=
  ∀ (s : State) (e : Entry) (bs : Bytes) (st : StageSess) (r : PRec) (g : HaltLog) (ok : Bool) (x : HostRead)
      (cause : Nat) (y : Device),
    Powered s →
    let o := entryStart adminQ e 0 s.dev
    let f := o.2
    let n := s.nv
    let w0 := leWord e.bytes 0
    let size := f.boot.slotSize
    let slot := w0 % 2
    let len := leWord e.bytes 1 % 2 ^ 32
    let any := fun _ : Bytes => false
    let keyLen := fun b : Bytes => decide (4080 < leWord b 2 % 4096)
    let ends := fun (st : Nat) (d : Device) => entryComplete o.1 st {} d
    (adminPick 0x20 false any s.dev = .inl y → RunsNv (.stageBegin ok) s n fun _ => y) ∧
    (adminPick 0x20 false any s.dev = .inr e →
      let failed := flashFail (slotBase size slot) (sectorsOf len) n { f with boot.stage := none }
      (slotRuns slot f = true → RunsNv (.stageBegin ok) s n fun _ => ends 0x60 f) ∧
      (slotRuns slot f = false → size < len → RunsNv (.stageBegin ok) s n fun _ => ends 0x61 f) ∧
      (slotRuns slot f = false → len ≤ size → RunsNv (.stageBegin false) s failed.1 fun _ =>
        ends 0x64 (evRaise 10 failed.2)) ∧
      (slotRuns slot f = false → len ≤ size → RunsNv (.stageBegin true) s
        { n with flash := flashErase n.flash (slotBase size slot) (sectorsOf len) } fun _ =>
          ends 0 { f with boot.stage := some { slot := slot, length := len, written := 0 } })) ∧
    (s.dev.bme = false → RunsNv (.stageWrite x ok) s n id ∧ RunsNv (.persistWrite x ok) s n id ∧
      Runs .persistRead s id ∧ RunsNv (.lcProvision x ok) s n id ∧ RunsNv (.lcRetire x ok) s n id) ∧
    (s.dev.bme = true → adminPick 0x21 false stageLenBad s.dev = .inl y → RunsNv (.stageWrite x ok) s n fun _ => y) ∧
    (s.dev.bme = true → adminPick 0x21 false stageLenBad s.dev = .inr e →
      let at_ := leWord e.bytes 2 % 2 ^ 32
      let num := leWord e.bytes 3 % 2 ^ 21
      let q := f.emitRead (leWord e.bytes 1) num
      (f.boot.stage = none → RunsNv (.stageWrite x ok) s n fun _ => ends 0x62 (evRaise 10 f)) ∧
      (f.boot.stage = some st →
        ((at_ ≠ st.written ∨ st.length < at_ + num) → RunsNv (.stageWrite x ok) s n fun _ => ends 0x61 f) ∧
        (at_ = st.written → at_ + num ≤ st.length →
          let a := slotBase q.boot.slotSize st.slot + at_
          let failed := flashFail a num n { q with boot.stage := none }
          RunsNv (.stageWrite (.failed cause) ok) s n (fun _ => ends 0x65 (evRaise 10 q)) ∧
          RunsNv (.stageWrite (.ok bs) true) s { n with flash := flashProgram n.flash a (bs.take num) } (fun _ =>
            ends 0 { q with boot.stage := some { st with written := at_ + num } }) ∧
          RunsNv (.stageWrite (.ok bs) false) s failed.1 fun _ => ends 0x64 (evRaise 10 failed.2)))) ∧
    (adminPick 0x22 false any s.dev = .inl y → RunsNv .stageVerify s n fun _ => y) ∧
    (adminPick 0x22 false any s.dev = .inr e →
      (f.boot.stage = none → RunsNv .stageVerify s n fun _ => ends 0x62 (evRaise 10 f)) ∧
      (f.boot.stage = some st →
        let head := slotHeader n size st.slot
        let fault := stagedFault n size st.slot
        let body : CompBody := { r0 := fault, r1 := head.seq * 2 ^ 32 + head.svn % 256 }
        let q := { f with boot.stage := none }
        let again := s.dev.st = .load ∧ s.dev.boot.step = .fault
        (fault ≠ 0 → RunsNv .stageVerify s n fun _ => entryComplete o.1 0x63 body (evRaise 10 q)) ∧
        (fault = 0 → ¬ again → RunsNv .stageVerify s n fun _ => entryComplete o.1 0 body (evRaise 9 q)) ∧
        (fault = 0 → again →
          let z := loadStart n (evRaise 9 q)
          RunsNv .stageVerify s z.1 fun _ => entryComplete o.1 0 body z.2))) ∧
    (adminPick 0x23 false any s.dev = .inl y → RunsNv (.slotInvalidate ok) s n fun _ => y) ∧
    (adminPick 0x23 false any s.dev = .inr e →
      let failed := flashFail (slotBase size slot) sectorBytes n f
      (slotRuns slot f = true → RunsNv (.slotInvalidate ok) s n fun _ => ends 0x60 f) ∧
      (slotRuns slot f = false → size = 0 → RunsNv (.slotInvalidate ok) s n fun _ => ends 0x64 (evRaise 10 f)) ∧
      (slotRuns slot f = false → size ≠ 0 → RunsNv (.slotInvalidate true) s
        { n with flash := flashErase n.flash (slotBase size slot) sectorBytes } fun _ => ends 0 f) ∧
      (slotRuns slot f = false → size ≠ 0 → RunsNv (.slotInvalidate false) s failed.1 fun _ =>
        ends 0x64 (evRaise 10 failed.2))) ∧
    (s.dev.bme = true → adminPick 0x24 false keyLen s.dev = .inl y → RunsNv (.persistWrite x ok) s n fun _ => y) ∧
    (s.dev.bme = true → adminPick 0x24 false keyLen s.dev = .inr e →
      let key := w0 % 2 ^ 16
      let num := leWord e.bytes 2 % 4096
      let q := if num = 0 then f else f.emitRead (leWord e.bytes 1) num
      let got := if num = 0 then HostRead.ok [] else x
      let recs := regionRecords n.flash (persistBase size)
      let fits := governingBytes recs - governedBytes key recs + (16 + up16 num) ≤ persistLimit
      let m := persistPut (persistBase size) key (bs.take num) ok n.flash
      (persistKeyOk key = false → RunsNv (.persistWrite x ok) s n fun _ => ends 0x66 f) ∧
      (persistKeyOk key = true → got = .failed cause → RunsNv (.persistWrite x ok) s n fun _ =>
        ends 0x65 (evRaise 10 q)) ∧
      (persistKeyOk key = true → got = .ok bs →
        (size = 0 → RunsNv (.persistWrite x ok) s n fun _ => ends 0x64 (evRaise 10 q)) ∧
        (size ≠ 0 → ¬ fits → RunsNv (.persistWrite x ok) s n fun _ => ends 0x67 q) ∧
        (size ≠ 0 → fits → RunsNv (.persistWrite x ok) s { n with flash := m } fun _ =>
          let z := persistReport size m q
          if ok then ends 0 (evRaise 11 z) else ends 0x64 (evRaise 10 z)))) ∧
    (s.dev.bme = true → adminPick 0x25 false any s.dev = .inl y → Runs .persistRead s fun _ => y) ∧
    (s.dev.bme = true → adminPick 0x25 false any s.dev = .inr e →
      let found := if size = 0 then none else governing (w0 % 2 ^ 16) (regionRecords n.flash (persistBase size))
      let out := r.payload.take (leWord e.bytes 2 % 4096)
      ((found = none ∨ found = some r ∧ r.payload = []) → Runs .persistRead s fun _ => ends 0x68 f) ∧
      (found = some r → r.payload ≠ [] → Runs .persistRead s fun _ =>
        entryComplete o.1 0 { r0 := r.payload.length, r1 := r.gen }
          (if out = [] then f else f.emitWrite (leWord e.bytes 1) out))) ∧
    (s.dev.bme = true → adminPick 0x26 false any s.dev = .inl y → RunsNv (.lcProvision x ok) s n fun _ => y) ∧
    (s.dev.bme = true → adminPick 0x26 false any s.dev = .inr e →
      (n.lifecycle = .blank →
        let hash := BitVec.ofNat 384 (beNat (bs.take 48))
        let q := f.emitRead (leWord e.bytes 1) 48
        RunsNv (.lcProvision (.ok bs) true) s { n with fuses.provisioned := 3, keyHash := hash }
          (fun _ => lifecycleCommit o.1 q) ∧
        RunsNv (.lcProvision (.ok bs) false) s n (fun _ => ends 0x6B q) ∧
        RunsNv (.lcProvision (.failed cause) ok) s n fun _ => ends 0x65 (evRaise 10 q)) ∧
      (n.lifecycle ≠ .blank → RunsNv (.lcProvision x ok) s n fun _ => ends 0x69 f)) ∧
    (adminPick 0x27 false any s.dev = .inl y → RunsNv (.lcField ok) s n fun _ => y) ∧
    (adminPick 0x27 false any s.dev = .inr e →
      (n.lifecycle = .provisioned → RunsNv (.lcField true) s { n with fuses.fielded := 3 }
          (fun _ => lifecycleCommit o.1 f) ∧ RunsNv (.lcField false) s n fun _ => ends 0x6B f) ∧
      (n.lifecycle ≠ .provisioned → RunsNv (.lcField ok) s n fun _ => ends 0x69 f)) ∧
    (s.dev.bme = true → adminPick 0x28 false any s.dev = .inl y → RunsNv (.lcRetire x ok) s n fun _ => y) ∧
    (s.dev.bme = true → adminPick 0x28 false any s.dev = .inr e →
      let retired := { n with fuses.retired := 3 }
      let q := f.emitRead (leWord e.bytes 1) 112
      (n.lifecycle = .blank → leWord e.bytes 1 = 0 →
        RunsNv (.lcRetire x true) s retired (fun _ => lifecycleCommit o.1 f) ∧
        RunsNv (.lcRetire x false) s n fun _ => ends 0x6B f) ∧
      (n.lifecycle = .blank → leWord e.bytes 1 ≠ 0 → RunsNv (.lcRetire x ok) s n fun _ => ends 0x69 f) ∧
      (n.lifecycle = .provisioned ∨ n.lifecycle = .fielded →
        (authOk n bs = true → RunsNv (.lcRetire (.ok bs) true) s retired (fun _ => lifecycleCommit o.1 q) ∧
          RunsNv (.lcRetire (.ok bs) false) s n fun _ => ends 0x6B q) ∧
        (authOk n bs = false → RunsNv (.lcRetire (.ok bs) ok) s n fun _ => ends 0x6A q) ∧
        RunsNv (.lcRetire (.failed cause) ok) s n fun _ => ends 0x65 (evRaise 10 q)) ∧
      (n.lifecycle = .retired → RunsNv (.lcRetire x ok) s n fun _ => ends 0x69 f)) ∧
    (s.dev.haltLog = none → RunsNv .haltLogWrite s n id) ∧
    let region := if s.dev.boot.slotSize ≠ 0 then s.dev.boot.slotSize
      else match flashHeader n.flash 40 with | some h => h.slotSize | none => 0
    (s.dev.haltLog = some g → region = 0 → RunsNv .haltLogWrite s n fun d => { d with haltLog := none }) ∧
    (s.dev.haltLog = some g → region ≠ 0 →
      let body := leBytes 1 g.cause ++ leBytes 1 g.left ++ leBytes 6 0 ++ leBytes 8 g.raw.toNat ++ leBytes 8 g.crossing
      let m := persistPut (persistBase region) 0xF000 body true n.flash
      RunsNv .haltLogWrite s { n with flash := m } fun d =>
        persistReport region m { d with haltLog := none }) ∧
    (n.lifecycle = .blank → { n with fuses.provisioned := 3 }.lifecycle = .provisioned) ∧
    (n.lifecycle = .provisioned → { n with fuses.fielded := 3 }.lifecycle = .fielded) ∧
    { n with fuses.retired := 3 }.lifecycle = .retired
end

