-- ==== Sys2Proof/Laws/Table.lean ====
section
/-!
SUPPORT. Laws of the sparse tables: what a read finds after a write, and that writes keep the canonical form. Byte memory
is the same table over `Host.Cell`.
-/

namespace Sys2Proof.Machine


theorem tabWfFrom_cons {α : Type} [DecidableEq α] (d : α) (lo : Option Nat) (i : Nat) (v : α) (t : Tab α) :
    tabWfFrom d lo ((i, v) :: t) = true ↔ (∀ l, lo = some l → l < i) ∧ v ≠ d ∧ tabWfFrom d (some i) t = true := by
  cases lo <;> simp [tabWfFrom, and_assoc]

theorem tabWfFrom_lower {α : Type} [DecidableEq α] (d : α) (lo lo' : Option Nat) (t : Tab α)
    (h : ∀ l, lo' = some l → ∃ m, lo = some m ∧ l ≤ m) (w : tabWfFrom d lo t = true) : tabWfFrom d lo' t = true := by
  cases t with
  | nil => rfl
  | cons e t =>
    obtain ⟨i, v⟩ := e
    rw [tabWfFrom_cons] at w ⊢
    refine ⟨fun l hl => ?_, w.2⟩
    obtain ⟨m, hm, hle⟩ := h l hl
    exact Nat.lt_of_le_of_lt hle (w.1 m hm)

/-- A read of the key just put finds the value put. -/
theorem tabGet_tabPut_same {α : Type} (d v : α) (t : Tab α) (k : Nat) : tabGet d (tabPut v t k) k = v := by
  induction t with
  | nil => simp [tabPut, tabGet]
  | cons e t ih =>
    obtain ⟨i, w⟩ := e
    simp only [tabPut]
    split
    · simp [tabGet]
    · split
      · simp [tabGet]
      · rename_i h _
        simp [tabGet, h, ih]

/-- A put leaves every other key's value alone. -/
theorem tabGet_tabPut_other {α : Type} (d v : α) (t : Tab α) (k j : Nat) (h : j ≠ k) :
    tabGet d (tabPut v t k) j = tabGet d t j := by
  induction t with
  | nil => simp [tabPut, tabGet, Ne.symm h]
  | cons e t ih =>
    obtain ⟨i, w⟩ := e
    simp only [tabPut]
    split
    · rename_i hi
      subst hi
      simp [tabGet, Ne.symm h]
    · split
      · simp [tabGet, Ne.symm h]
      · simp only [tabGet, ih]

theorem tabGet_tabErase_other {α : Type} (d : α) (t : Tab α) (k j : Nat) (h : j ≠ k) :
    tabGet d (tabErase t k) j = tabGet d t j := by
  induction t with
  | nil => rfl
  | cons e t ih =>
    obtain ⟨i, w⟩ := e
    by_cases hi : i = k
    · subst hi
      simpa [tabErase, tabGet, Ne.symm h] using ih
    · simp only [tabErase, List.filter_cons, bne_iff_ne, ne_eq, hi, not_false_eq_true, if_true, tabGet]
      rw [show tabGet d (t.filter fun e => e.1 != k) j = tabGet d t j from ih]

/-- An erased key reads as an unlisted one, whatever the table. -/
theorem tabGet_tabErase_same {α : Type} (d : α) (t : Tab α) (k : Nat) : tabGet d (tabErase t k) k = d := by
  induction t with
  | nil => rfl
  | cons e t ih =>
    obtain ⟨i, v⟩ := e
    by_cases hi : i = k
    · subst hi
      simpa [tabErase] using ih
    · simp only [tabErase, List.filter_cons, bne_iff_ne, ne_eq, hi, not_false_eq_true, if_true, tabGet, if_false]
      exact ih

/-- A read of the key just written finds the value written. -/
theorem tabGet_tabSet_same {α : Type} [DecidableEq α] (d v : α) (t : Tab α) (k : Nat) :
    tabGet d (tabSet d t k v) k = v := by
  unfold tabSet
  split
  · rename_i h
    rw [h]
    exact tabGet_tabErase_same d t k
  · exact tabGet_tabPut_same d v t k

/-- A write leaves every other key's value alone. -/
theorem tabGet_tabSet_other {α : Type} [DecidableEq α] (d v : α) (t : Tab α) (k j : Nat) (h : j ≠ k) :
    tabGet d (tabSet d t k v) j = tabGet d t j := by
  unfold tabSet
  split
  · exact tabGet_tabErase_other d t k j h
  · exact tabGet_tabPut_other d v t k j h

theorem tabWfFrom_tabPut {α : Type} [DecidableEq α] (d v : α) (lo : Option Nat) (t : Tab α) (k : Nat) (hv : v ≠ d)
    (hlo : ∀ l, lo = some l → l < k) (w : tabWfFrom d lo t = true) : tabWfFrom d lo (tabPut v t k) = true := by
  induction t generalizing lo with
  | nil =>
    simp only [tabPut]
    exact (tabWfFrom_cons d lo k v []).2 ⟨hlo, hv, rfl⟩
  | cons e t ih =>
    obtain ⟨i, x⟩ := e
    have w' := (tabWfFrom_cons d lo i x t).1 w
    simp only [tabPut]
    split
    · rename_i hi
      subst hi
      exact (tabWfFrom_cons d lo i v t).2 ⟨w'.1, hv, w'.2.2⟩
    · split
      · rename_i _ hk
        refine (tabWfFrom_cons d lo k v _).2 ⟨hlo, hv, ?_⟩
        refine (tabWfFrom_cons d (some k) i x t).2 ⟨fun l hl => ?_, w'.2⟩
        rw [Option.some.injEq] at hl
        omega
      · rename_i hne hk
        refine (tabWfFrom_cons d lo i x _).2 ⟨w'.1, w'.2.1, ih (some i) (fun l hl => ?_) w'.2.2⟩
        rw [Option.some.injEq] at hl
        omega

theorem tabWfFrom_filter {α : Type} [DecidableEq α] (d : α) (lo : Option Nat) (t : Tab α) (f : Nat × α → Bool)
    (w : tabWfFrom d lo t = true) : tabWfFrom d lo (t.filter f) = true := by
  induction t generalizing lo with
  | nil => rfl
  | cons e t ih =>
    obtain ⟨i, x⟩ := e
    have w' := (tabWfFrom_cons d lo i x t).1 w
    rw [List.filter_cons]
    split
    · exact (tabWfFrom_cons d lo i x _).2 ⟨w'.1, w'.2.1, ih (some i) w'.2.2⟩
    · exact tabWfFrom_lower d (some i) lo _ (fun l hl => ⟨i, rfl, Nat.le_of_lt (w'.1 l hl)⟩) (ih (some i) w'.2.2)

/-- A write keeps the canonical form. -/
theorem tabWf_tabSet {α : Type} [DecidableEq α] (d v : α) (t : Tab α) (k : Nat) (w : tabWf d t = true) :
    tabWf d (tabSet d t k v) = true := by
  unfold tabSet
  split
  · exact tabWfFrom_filter d none t _ w
  · rename_i h
    exact tabWfFrom_tabPut d v none t k h (fun l hl => by cases hl) w

/-- Leaving entries out keeps the canonical form. -/
theorem tabWf_filter {α : Type} [DecidableEq α] (d : α) (t : Tab α) (f : Nat × α → Bool) (w : tabWf d t = true) :
    tabWf d (t.filter f) = true := tabWfFrom_filter d none t f w

/-! ### Byte memory -/

/-- A byte just written reads back. -/
theorem memRead_memWrite_same (d b : Byte) (m : Mem) (a : Nat) : memRead d (memWrite d m a b) a = b :=
  tabGet_tabSet_same d b m a

/-- A byte write leaves every other byte alone. -/
theorem memRead_memWrite_other (d b : Byte) (m : Mem) (a c : Nat) (h : c ≠ a) :
    memRead d (memWrite d m a b) c = memRead d m c := tabGet_tabSet_other d b m a c h

/-- A byte write keeps the canonical form. -/
theorem Memory.wf_memWrite (d b : Byte) (m : Mem) (a : Nat) (w : Memory.wf d m = true) :
    Memory.wf d (memWrite d m a b) = true := tabWf_tabSet d b m a w

/-- A write of several bytes keeps the canonical form. -/
theorem Memory.wf_memPatch (d : Byte) (m : Mem) (a : Nat) (bs : Bytes) (w : Memory.wf d m = true) :
    Memory.wf d (memPatch d m a bs) = true := by
  induction bs generalizing m a with
  | nil => exact w
  | cons b bs ih => exact ih (memWrite d m a b) (a + 1) (Memory.wf_memWrite d b m a w)

/-- Erasing bytes keeps the canonical form. -/
theorem Memory.wf_filter (d : Byte) (m : Mem) (f : Host.Cell → Bool) (w : Memory.wf d m = true) :
    Memory.wf d (m.filter f) = true := tabWf_filter d m f w

/-- A write of several bytes leaves every byte outside them alone. -/
theorem memRead_memPatch_other (d : Byte) (m : Mem) (a : Nat) (bs : Bytes) (c : Nat)
    (h : c < a ∨ a + bs.length ≤ c) : memRead d (memPatch d m a bs) c = memRead d m c := by
  induction bs generalizing m a with
  | nil => rfl
  | cons b bs ih =>
    simp only [List.length_cons] at h
    rw [memPatch, ih (memWrite d m a b) (a + 1) (by omega)]
    exact memRead_memWrite_other d b m a c (by omega)

end Sys2Proof.Machine
end

