-- ==== Sys2Proof/Laws/State.lean ====
section
/-!
SUPPORT. What each update of `Device` leaves alone, one lemma per field, and what a register field reads after a write.
-/

namespace Sys2Proof.Machine

variable (d : Device)

/-! ### `ru` -/

@[simp] theorem ru_st (f : Fld) (v i j : Nat) : (d.ru f v i j).st = d.st := rfl
@[simp] theorem ru_charted (f : Fld) (v i j : Nat) : (d.ru f v i j).charted = d.charted := rfl
@[simp] theorem ru_raw (f : Fld) (v i j : Nat) : (d.ru f v i j).raw = d.raw := rfl
@[simp] theorem ru_inforce (f : Fld) (v i j : Nat) : (d.ru f v i j).inforce = d.inforce := rfl
@[simp] theorem ru_counters (f : Fld) (v i j : Nat) : (d.ru f v i j).counters = d.counters := rfl
@[simp] theorem ru_reckon (f : Fld) (v i j : Nat) : (d.ru f v i j).reckon = d.reckon := rfl
@[simp] theorem ru_ev (f : Fld) (v i j : Nat) : (d.ru f v i j).ev = d.ev := rfl
@[simp] theorem ru_pcie (f : Fld) (v i j : Nat) : (d.ru f v i j).pcie = d.pcie := rfl
@[simp] theorem ru_tio (f : Fld) (v i j : Nat) : (d.ru f v i j).tio = d.tio := rfl
@[simp] theorem ru_strec (f : Fld) (v i j : Nat) : (d.ru f v i j).strec = d.strec := rfl
@[simp] theorem ru_tender (f : Fld) (v i j : Nat) : (d.ru f v i j).tender = d.tender := rfl
@[simp] theorem ru_tenderTurn (f : Fld) (v i j : Nat) : (d.ru f v i j).tenderTurn = d.tenderTurn := rfl
@[simp] theorem ru_writeTurn (f : Fld) (v i j : Nat) : (d.ru f v i j).writeTurn = d.writeTurn := rfl
@[simp] theorem ru_hq (f : Fld) (v i j : Nat) : (d.ru f v i j).hq = d.hq := rfl
@[simp] theorem ru_chart (f : Fld) (v i j : Nat) : (d.ru f v i j).chart = d.chart := rfl
@[simp] theorem ru_netCfg (f : Fld) (v i j : Nat) : (d.ru f v i j).netCfg = d.netCfg := rfl
@[simp] theorem ru_cross (f : Fld) (v i j : Nat) : (d.ru f v i j).cross = d.cross := rfl
@[simp] theorem ru_cargo (f : Fld) (v i j : Nat) : (d.ru f v i j).cargo = d.cargo := rfl
@[simp] theorem ru_pilot (f : Fld) (v i j : Nat) : (d.ru f v i j).pilot = d.pilot := rfl
@[simp] theorem ru_net (f : Fld) (v i j : Nat) : (d.ru f v i j).net = d.net := rfl
@[simp] theorem ru_compass (f : Fld) (v i j : Nat) : (d.ru f v i j).compass = d.compass := rfl
@[simp] theorem ru_fix (f : Fld) (v i j : Nat) : (d.ru f v i j).fix = d.fix := rfl
@[simp] theorem ru_muster (f : Fld) (v i j : Nat) : (d.ru f v i j).muster = d.muster := rfl
@[simp] theorem ru_trim (f : Fld) (v i j : Nat) : (d.ru f v i j).trim = d.trim := rfl
@[simp] theorem ru_core (f : Fld) (v i j : Nat) : (d.ru f v i j).core = d.core := rfl
@[simp] theorem ru_boot (f : Fld) (v i j : Nat) : (d.ru f v i j).boot = d.boot := rfl
@[simp] theorem ru_haltLog (f : Fld) (v i j : Nat) : (d.ru f v i j).haltLog = d.haltLog := rfl
@[simp] theorem ru_wipeDue (f : Fld) (v i j : Nat) : (d.ru f v i j).wipeDue = d.wipeDue := rfl
@[simp] theorem ru_tap (f : Fld) (v i j : Nat) : (d.ru f v i j).tap = d.tap := rfl
@[simp] theorem ru_freeCtr (f : Fld) (v i j : Nat) : (d.ru f v i j).freeCtr = d.freeCtr := rfl
@[simp] theorem ru_out (f : Fld) (v i j : Nat) : (d.ru f v i j).out = d.out := rfl

/-! ### `countN` -/

@[simp] theorem countN_st (o n : Nat) : (d.countN o n).st = d.st := rfl
@[simp] theorem countN_charted (o n : Nat) : (d.countN o n).charted = d.charted := rfl
@[simp] theorem countN_raw (o n : Nat) : (d.countN o n).raw = d.raw := rfl
@[simp] theorem countN_regs (o n : Nat) : (d.countN o n).regs = d.regs := rfl
@[simp] theorem countN_inforce (o n : Nat) : (d.countN o n).inforce = d.inforce := rfl
@[simp] theorem countN_reckon (o n : Nat) : (d.countN o n).reckon = d.reckon := rfl
@[simp] theorem countN_ev (o n : Nat) : (d.countN o n).ev = d.ev := rfl
@[simp] theorem countN_pcie (o n : Nat) : (d.countN o n).pcie = d.pcie := rfl
@[simp] theorem countN_tio (o n : Nat) : (d.countN o n).tio = d.tio := rfl
@[simp] theorem countN_strec (o n : Nat) : (d.countN o n).strec = d.strec := rfl
@[simp] theorem countN_tender (o n : Nat) : (d.countN o n).tender = d.tender := rfl
@[simp] theorem countN_tenderTurn (o n : Nat) : (d.countN o n).tenderTurn = d.tenderTurn := rfl
@[simp] theorem countN_writeTurn (o n : Nat) : (d.countN o n).writeTurn = d.writeTurn := rfl
@[simp] theorem countN_hq (o n : Nat) : (d.countN o n).hq = d.hq := rfl
@[simp] theorem countN_chart (o n : Nat) : (d.countN o n).chart = d.chart := rfl
@[simp] theorem countN_netCfg (o n : Nat) : (d.countN o n).netCfg = d.netCfg := rfl
@[simp] theorem countN_cross (o n : Nat) : (d.countN o n).cross = d.cross := rfl
@[simp] theorem countN_cargo (o n : Nat) : (d.countN o n).cargo = d.cargo := rfl
@[simp] theorem countN_pilot (o n : Nat) : (d.countN o n).pilot = d.pilot := rfl
@[simp] theorem countN_net (o n : Nat) : (d.countN o n).net = d.net := rfl
@[simp] theorem countN_compass (o n : Nat) : (d.countN o n).compass = d.compass := rfl
@[simp] theorem countN_fix (o n : Nat) : (d.countN o n).fix = d.fix := rfl
@[simp] theorem countN_muster (o n : Nat) : (d.countN o n).muster = d.muster := rfl
@[simp] theorem countN_trim (o n : Nat) : (d.countN o n).trim = d.trim := rfl
@[simp] theorem countN_core (o n : Nat) : (d.countN o n).core = d.core := rfl
@[simp] theorem countN_boot (o n : Nat) : (d.countN o n).boot = d.boot := rfl
@[simp] theorem countN_haltLog (o n : Nat) : (d.countN o n).haltLog = d.haltLog := rfl
@[simp] theorem countN_wipeDue (o n : Nat) : (d.countN o n).wipeDue = d.wipeDue := rfl
@[simp] theorem countN_tap (o n : Nat) : (d.countN o n).tap = d.tap := rfl
@[simp] theorem countN_freeCtr (o n : Nat) : (d.countN o n).freeCtr = d.freeCtr := rfl
@[simp] theorem countN_out (o n : Nat) : (d.countN o n).out = d.out := rfl

/-! ### `count` -/

@[simp] theorem count_st (o : Nat) : (d.count o).st = d.st := rfl
@[simp] theorem count_charted (o : Nat) : (d.count o).charted = d.charted := rfl
@[simp] theorem count_raw (o : Nat) : (d.count o).raw = d.raw := rfl
@[simp] theorem count_regs (o : Nat) : (d.count o).regs = d.regs := rfl
@[simp] theorem count_inforce (o : Nat) : (d.count o).inforce = d.inforce := rfl
@[simp] theorem count_reckon (o : Nat) : (d.count o).reckon = d.reckon := rfl
@[simp] theorem count_ev (o : Nat) : (d.count o).ev = d.ev := rfl
@[simp] theorem count_pcie (o : Nat) : (d.count o).pcie = d.pcie := rfl
@[simp] theorem count_tio (o : Nat) : (d.count o).tio = d.tio := rfl
@[simp] theorem count_strec (o : Nat) : (d.count o).strec = d.strec := rfl
@[simp] theorem count_tender (o : Nat) : (d.count o).tender = d.tender := rfl
@[simp] theorem count_tenderTurn (o : Nat) : (d.count o).tenderTurn = d.tenderTurn := rfl
@[simp] theorem count_writeTurn (o : Nat) : (d.count o).writeTurn = d.writeTurn := rfl
@[simp] theorem count_hq (o : Nat) : (d.count o).hq = d.hq := rfl
@[simp] theorem count_chart (o : Nat) : (d.count o).chart = d.chart := rfl
@[simp] theorem count_netCfg (o : Nat) : (d.count o).netCfg = d.netCfg := rfl
@[simp] theorem count_cross (o : Nat) : (d.count o).cross = d.cross := rfl
@[simp] theorem count_cargo (o : Nat) : (d.count o).cargo = d.cargo := rfl
@[simp] theorem count_pilot (o : Nat) : (d.count o).pilot = d.pilot := rfl
@[simp] theorem count_net (o : Nat) : (d.count o).net = d.net := rfl
@[simp] theorem count_compass (o : Nat) : (d.count o).compass = d.compass := rfl
@[simp] theorem count_fix (o : Nat) : (d.count o).fix = d.fix := rfl
@[simp] theorem count_muster (o : Nat) : (d.count o).muster = d.muster := rfl
@[simp] theorem count_trim (o : Nat) : (d.count o).trim = d.trim := rfl
@[simp] theorem count_core (o : Nat) : (d.count o).core = d.core := rfl
@[simp] theorem count_boot (o : Nat) : (d.count o).boot = d.boot := rfl
@[simp] theorem count_haltLog (o : Nat) : (d.count o).haltLog = d.haltLog := rfl
@[simp] theorem count_wipeDue (o : Nat) : (d.count o).wipeDue = d.wipeDue := rfl
@[simp] theorem count_tap (o : Nat) : (d.count o).tap = d.tap := rfl
@[simp] theorem count_freeCtr (o : Nat) : (d.count o).freeCtr = d.freeCtr := rfl
@[simp] theorem count_out (o : Nat) : (d.count o).out = d.out := rfl

/-! ### `emit` -/

@[simp] theorem emit_st (e : OutEvent) : (d.emit e).st = d.st := rfl
@[simp] theorem emit_charted (e : OutEvent) : (d.emit e).charted = d.charted := rfl
@[simp] theorem emit_raw (e : OutEvent) : (d.emit e).raw = d.raw := rfl
@[simp] theorem emit_regs (e : OutEvent) : (d.emit e).regs = d.regs := rfl
@[simp] theorem emit_inforce (e : OutEvent) : (d.emit e).inforce = d.inforce := rfl
@[simp] theorem emit_counters (e : OutEvent) : (d.emit e).counters = d.counters := rfl
@[simp] theorem emit_reckon (e : OutEvent) : (d.emit e).reckon = d.reckon := rfl
@[simp] theorem emit_ev (e : OutEvent) : (d.emit e).ev = d.ev := rfl
@[simp] theorem emit_pcie (e : OutEvent) : (d.emit e).pcie = d.pcie := rfl
@[simp] theorem emit_tio (e : OutEvent) : (d.emit e).tio = d.tio := rfl
@[simp] theorem emit_strec (e : OutEvent) : (d.emit e).strec = d.strec := rfl
@[simp] theorem emit_tender (e : OutEvent) : (d.emit e).tender = d.tender := rfl
@[simp] theorem emit_tenderTurn (e : OutEvent) : (d.emit e).tenderTurn = d.tenderTurn := rfl
@[simp] theorem emit_writeTurn (e : OutEvent) : (d.emit e).writeTurn = d.writeTurn := rfl
@[simp] theorem emit_hq (e : OutEvent) : (d.emit e).hq = d.hq := rfl
@[simp] theorem emit_chart (e : OutEvent) : (d.emit e).chart = d.chart := rfl
@[simp] theorem emit_netCfg (e : OutEvent) : (d.emit e).netCfg = d.netCfg := rfl
@[simp] theorem emit_cross (e : OutEvent) : (d.emit e).cross = d.cross := rfl
@[simp] theorem emit_cargo (e : OutEvent) : (d.emit e).cargo = d.cargo := rfl
@[simp] theorem emit_pilot (e : OutEvent) : (d.emit e).pilot = d.pilot := rfl
@[simp] theorem emit_net (e : OutEvent) : (d.emit e).net = d.net := rfl
@[simp] theorem emit_compass (e : OutEvent) : (d.emit e).compass = d.compass := rfl
@[simp] theorem emit_fix (e : OutEvent) : (d.emit e).fix = d.fix := rfl
@[simp] theorem emit_muster (e : OutEvent) : (d.emit e).muster = d.muster := rfl
@[simp] theorem emit_trim (e : OutEvent) : (d.emit e).trim = d.trim := rfl
@[simp] theorem emit_core (e : OutEvent) : (d.emit e).core = d.core := rfl
@[simp] theorem emit_boot (e : OutEvent) : (d.emit e).boot = d.boot := rfl
@[simp] theorem emit_haltLog (e : OutEvent) : (d.emit e).haltLog = d.haltLog := rfl
@[simp] theorem emit_wipeDue (e : OutEvent) : (d.emit e).wipeDue = d.wipeDue := rfl
@[simp] theorem emit_tap (e : OutEvent) : (d.emit e).tap = d.tap := rfl
@[simp] theorem emit_freeCtr (e : OutEvent) : (d.emit e).freeCtr = d.freeCtr := rfl

/-! ### `setPort` -/

@[simp] theorem setPort_st (p : Nat) (x : Port) : (d.setPort p x).st = d.st := rfl
@[simp] theorem setPort_charted (p : Nat) (x : Port) : (d.setPort p x).charted = d.charted := rfl
@[simp] theorem setPort_raw (p : Nat) (x : Port) : (d.setPort p x).raw = d.raw := rfl
@[simp] theorem setPort_regs (p : Nat) (x : Port) : (d.setPort p x).regs = d.regs := rfl
@[simp] theorem setPort_inforce (p : Nat) (x : Port) : (d.setPort p x).inforce = d.inforce := rfl
@[simp] theorem setPort_counters (p : Nat) (x : Port) : (d.setPort p x).counters = d.counters := rfl
@[simp] theorem setPort_reckon (p : Nat) (x : Port) : (d.setPort p x).reckon = d.reckon := rfl
@[simp] theorem setPort_ev (p : Nat) (x : Port) : (d.setPort p x).ev = d.ev := rfl
@[simp] theorem setPort_pcie (p : Nat) (x : Port) : (d.setPort p x).pcie = d.pcie := rfl
@[simp] theorem setPort_tio (p : Nat) (x : Port) : (d.setPort p x).tio = d.tio := rfl
@[simp] theorem setPort_strec (p : Nat) (x : Port) : (d.setPort p x).strec = d.strec := rfl
@[simp] theorem setPort_tender (p : Nat) (x : Port) : (d.setPort p x).tender = d.tender := rfl
@[simp] theorem setPort_tenderTurn (p : Nat) (x : Port) : (d.setPort p x).tenderTurn = d.tenderTurn := rfl
@[simp] theorem setPort_writeTurn (p : Nat) (x : Port) : (d.setPort p x).writeTurn = d.writeTurn := rfl
@[simp] theorem setPort_hq (p : Nat) (x : Port) : (d.setPort p x).hq = d.hq := rfl
@[simp] theorem setPort_chart (p : Nat) (x : Port) : (d.setPort p x).chart = d.chart := rfl
@[simp] theorem setPort_netCfg (p : Nat) (x : Port) : (d.setPort p x).netCfg = d.netCfg := rfl
@[simp] theorem setPort_cross (p : Nat) (x : Port) : (d.setPort p x).cross = d.cross := rfl
@[simp] theorem setPort_cargo (p : Nat) (x : Port) : (d.setPort p x).cargo = d.cargo := rfl
@[simp] theorem setPort_pilot (p : Nat) (x : Port) : (d.setPort p x).pilot = d.pilot := rfl
@[simp] theorem setPort_compass (p : Nat) (x : Port) : (d.setPort p x).compass = d.compass := rfl
@[simp] theorem setPort_fix (p : Nat) (x : Port) : (d.setPort p x).fix = d.fix := rfl
@[simp] theorem setPort_muster (p : Nat) (x : Port) : (d.setPort p x).muster = d.muster := rfl
@[simp] theorem setPort_trim (p : Nat) (x : Port) : (d.setPort p x).trim = d.trim := rfl
@[simp] theorem setPort_core (p : Nat) (x : Port) : (d.setPort p x).core = d.core := rfl
@[simp] theorem setPort_boot (p : Nat) (x : Port) : (d.setPort p x).boot = d.boot := rfl
@[simp] theorem setPort_haltLog (p : Nat) (x : Port) : (d.setPort p x).haltLog = d.haltLog := rfl
@[simp] theorem setPort_wipeDue (p : Nat) (x : Port) : (d.setPort p x).wipeDue = d.wipeDue := rfl
@[simp] theorem setPort_tap (p : Nat) (x : Port) : (d.setPort p x).tap = d.tap := rfl
@[simp] theorem setPort_freeCtr (p : Nat) (x : Port) : (d.setPort p x).freeCtr = d.freeCtr := rfl
@[simp] theorem setPort_out (p : Nat) (x : Port) : (d.setPort p x).out = d.out := rfl

/-! ### `setPin` -/

@[simp] theorem setPin_st (i : Nat) (x : TioPin) : (d.setPin i x).st = d.st := rfl
@[simp] theorem setPin_charted (i : Nat) (x : TioPin) : (d.setPin i x).charted = d.charted := rfl
@[simp] theorem setPin_raw (i : Nat) (x : TioPin) : (d.setPin i x).raw = d.raw := rfl
@[simp] theorem setPin_regs (i : Nat) (x : TioPin) : (d.setPin i x).regs = d.regs := rfl
@[simp] theorem setPin_inforce (i : Nat) (x : TioPin) : (d.setPin i x).inforce = d.inforce := rfl
@[simp] theorem setPin_counters (i : Nat) (x : TioPin) : (d.setPin i x).counters = d.counters := rfl
@[simp] theorem setPin_reckon (i : Nat) (x : TioPin) : (d.setPin i x).reckon = d.reckon := rfl
@[simp] theorem setPin_ev (i : Nat) (x : TioPin) : (d.setPin i x).ev = d.ev := rfl
@[simp] theorem setPin_pcie (i : Nat) (x : TioPin) : (d.setPin i x).pcie = d.pcie := rfl
@[simp] theorem setPin_strec (i : Nat) (x : TioPin) : (d.setPin i x).strec = d.strec := rfl
@[simp] theorem setPin_tender (i : Nat) (x : TioPin) : (d.setPin i x).tender = d.tender := rfl
@[simp] theorem setPin_tenderTurn (i : Nat) (x : TioPin) : (d.setPin i x).tenderTurn = d.tenderTurn := rfl
@[simp] theorem setPin_writeTurn (i : Nat) (x : TioPin) : (d.setPin i x).writeTurn = d.writeTurn := rfl
@[simp] theorem setPin_hq (i : Nat) (x : TioPin) : (d.setPin i x).hq = d.hq := rfl
@[simp] theorem setPin_chart (i : Nat) (x : TioPin) : (d.setPin i x).chart = d.chart := rfl
@[simp] theorem setPin_netCfg (i : Nat) (x : TioPin) : (d.setPin i x).netCfg = d.netCfg := rfl
@[simp] theorem setPin_cross (i : Nat) (x : TioPin) : (d.setPin i x).cross = d.cross := rfl
@[simp] theorem setPin_cargo (i : Nat) (x : TioPin) : (d.setPin i x).cargo = d.cargo := rfl
@[simp] theorem setPin_pilot (i : Nat) (x : TioPin) : (d.setPin i x).pilot = d.pilot := rfl
@[simp] theorem setPin_net (i : Nat) (x : TioPin) : (d.setPin i x).net = d.net := rfl
@[simp] theorem setPin_compass (i : Nat) (x : TioPin) : (d.setPin i x).compass = d.compass := rfl
@[simp] theorem setPin_fix (i : Nat) (x : TioPin) : (d.setPin i x).fix = d.fix := rfl
@[simp] theorem setPin_muster (i : Nat) (x : TioPin) : (d.setPin i x).muster = d.muster := rfl
@[simp] theorem setPin_trim (i : Nat) (x : TioPin) : (d.setPin i x).trim = d.trim := rfl
@[simp] theorem setPin_core (i : Nat) (x : TioPin) : (d.setPin i x).core = d.core := rfl
@[simp] theorem setPin_boot (i : Nat) (x : TioPin) : (d.setPin i x).boot = d.boot := rfl
@[simp] theorem setPin_haltLog (i : Nat) (x : TioPin) : (d.setPin i x).haltLog = d.haltLog := rfl
@[simp] theorem setPin_wipeDue (i : Nat) (x : TioPin) : (d.setPin i x).wipeDue = d.wipeDue := rfl
@[simp] theorem setPin_tap (i : Nat) (x : TioPin) : (d.setPin i x).tap = d.tap := rfl
@[simp] theorem setPin_freeCtr (i : Nat) (x : TioPin) : (d.setPin i x).freeCtr = d.freeCtr := rfl
@[simp] theorem setPin_out (i : Nat) (x : TioPin) : (d.setPin i x).out = d.out := rfl

/-! ### `setChan` -/

@[simp] theorem setChan_st (c : Nat) (x : TenderCh) : (d.setChan c x).st = d.st := rfl
@[simp] theorem setChan_charted (c : Nat) (x : TenderCh) : (d.setChan c x).charted = d.charted := rfl
@[simp] theorem setChan_raw (c : Nat) (x : TenderCh) : (d.setChan c x).raw = d.raw := rfl
@[simp] theorem setChan_regs (c : Nat) (x : TenderCh) : (d.setChan c x).regs = d.regs := rfl
@[simp] theorem setChan_inforce (c : Nat) (x : TenderCh) : (d.setChan c x).inforce = d.inforce := rfl
@[simp] theorem setChan_counters (c : Nat) (x : TenderCh) : (d.setChan c x).counters = d.counters := rfl
@[simp] theorem setChan_reckon (c : Nat) (x : TenderCh) : (d.setChan c x).reckon = d.reckon := rfl
@[simp] theorem setChan_ev (c : Nat) (x : TenderCh) : (d.setChan c x).ev = d.ev := rfl
@[simp] theorem setChan_pcie (c : Nat) (x : TenderCh) : (d.setChan c x).pcie = d.pcie := rfl
@[simp] theorem setChan_tio (c : Nat) (x : TenderCh) : (d.setChan c x).tio = d.tio := rfl
@[simp] theorem setChan_strec (c : Nat) (x : TenderCh) : (d.setChan c x).strec = d.strec := rfl
@[simp] theorem setChan_tenderTurn (c : Nat) (x : TenderCh) : (d.setChan c x).tenderTurn = d.tenderTurn := rfl
@[simp] theorem setChan_writeTurn (c : Nat) (x : TenderCh) : (d.setChan c x).writeTurn = d.writeTurn := rfl
@[simp] theorem setChan_hq (c : Nat) (x : TenderCh) : (d.setChan c x).hq = d.hq := rfl
@[simp] theorem setChan_chart (c : Nat) (x : TenderCh) : (d.setChan c x).chart = d.chart := rfl
@[simp] theorem setChan_netCfg (c : Nat) (x : TenderCh) : (d.setChan c x).netCfg = d.netCfg := rfl
@[simp] theorem setChan_cross (c : Nat) (x : TenderCh) : (d.setChan c x).cross = d.cross := rfl
@[simp] theorem setChan_cargo (c : Nat) (x : TenderCh) : (d.setChan c x).cargo = d.cargo := rfl
@[simp] theorem setChan_pilot (c : Nat) (x : TenderCh) : (d.setChan c x).pilot = d.pilot := rfl
@[simp] theorem setChan_net (c : Nat) (x : TenderCh) : (d.setChan c x).net = d.net := rfl
@[simp] theorem setChan_compass (c : Nat) (x : TenderCh) : (d.setChan c x).compass = d.compass := rfl
@[simp] theorem setChan_fix (c : Nat) (x : TenderCh) : (d.setChan c x).fix = d.fix := rfl
@[simp] theorem setChan_muster (c : Nat) (x : TenderCh) : (d.setChan c x).muster = d.muster := rfl
@[simp] theorem setChan_trim (c : Nat) (x : TenderCh) : (d.setChan c x).trim = d.trim := rfl
@[simp] theorem setChan_core (c : Nat) (x : TenderCh) : (d.setChan c x).core = d.core := rfl
@[simp] theorem setChan_boot (c : Nat) (x : TenderCh) : (d.setChan c x).boot = d.boot := rfl
@[simp] theorem setChan_haltLog (c : Nat) (x : TenderCh) : (d.setChan c x).haltLog = d.haltLog := rfl
@[simp] theorem setChan_wipeDue (c : Nat) (x : TenderCh) : (d.setChan c x).wipeDue = d.wipeDue := rfl
@[simp] theorem setChan_tap (c : Nat) (x : TenderCh) : (d.setChan c x).tap = d.tap := rfl
@[simp] theorem setChan_freeCtr (c : Nat) (x : TenderCh) : (d.setChan c x).freeCtr = d.freeCtr := rfl
@[simp] theorem setChan_out (c : Nat) (x : TenderCh) : (d.setChan c x).out = d.out := rfl

/-! ### `setSq` -/

@[simp] theorem setSq_st (q : Nat) (x : Sq) : (d.setSq q x).st = d.st := rfl
@[simp] theorem setSq_charted (q : Nat) (x : Sq) : (d.setSq q x).charted = d.charted := rfl
@[simp] theorem setSq_raw (q : Nat) (x : Sq) : (d.setSq q x).raw = d.raw := rfl
@[simp] theorem setSq_regs (q : Nat) (x : Sq) : (d.setSq q x).regs = d.regs := rfl
@[simp] theorem setSq_inforce (q : Nat) (x : Sq) : (d.setSq q x).inforce = d.inforce := rfl
@[simp] theorem setSq_counters (q : Nat) (x : Sq) : (d.setSq q x).counters = d.counters := rfl
@[simp] theorem setSq_reckon (q : Nat) (x : Sq) : (d.setSq q x).reckon = d.reckon := rfl
@[simp] theorem setSq_ev (q : Nat) (x : Sq) : (d.setSq q x).ev = d.ev := rfl
@[simp] theorem setSq_pcie (q : Nat) (x : Sq) : (d.setSq q x).pcie = d.pcie := rfl
@[simp] theorem setSq_tio (q : Nat) (x : Sq) : (d.setSq q x).tio = d.tio := rfl
@[simp] theorem setSq_strec (q : Nat) (x : Sq) : (d.setSq q x).strec = d.strec := rfl
@[simp] theorem setSq_tender (q : Nat) (x : Sq) : (d.setSq q x).tender = d.tender := rfl
@[simp] theorem setSq_tenderTurn (q : Nat) (x : Sq) : (d.setSq q x).tenderTurn = d.tenderTurn := rfl
@[simp] theorem setSq_writeTurn (q : Nat) (x : Sq) : (d.setSq q x).writeTurn = d.writeTurn := rfl
@[simp] theorem setSq_chart (q : Nat) (x : Sq) : (d.setSq q x).chart = d.chart := rfl
@[simp] theorem setSq_netCfg (q : Nat) (x : Sq) : (d.setSq q x).netCfg = d.netCfg := rfl
@[simp] theorem setSq_cross (q : Nat) (x : Sq) : (d.setSq q x).cross = d.cross := rfl
@[simp] theorem setSq_cargo (q : Nat) (x : Sq) : (d.setSq q x).cargo = d.cargo := rfl
@[simp] theorem setSq_pilot (q : Nat) (x : Sq) : (d.setSq q x).pilot = d.pilot := rfl
@[simp] theorem setSq_net (q : Nat) (x : Sq) : (d.setSq q x).net = d.net := rfl
@[simp] theorem setSq_compass (q : Nat) (x : Sq) : (d.setSq q x).compass = d.compass := rfl
@[simp] theorem setSq_fix (q : Nat) (x : Sq) : (d.setSq q x).fix = d.fix := rfl
@[simp] theorem setSq_muster (q : Nat) (x : Sq) : (d.setSq q x).muster = d.muster := rfl
@[simp] theorem setSq_trim (q : Nat) (x : Sq) : (d.setSq q x).trim = d.trim := rfl
@[simp] theorem setSq_core (q : Nat) (x : Sq) : (d.setSq q x).core = d.core := rfl
@[simp] theorem setSq_boot (q : Nat) (x : Sq) : (d.setSq q x).boot = d.boot := rfl
@[simp] theorem setSq_haltLog (q : Nat) (x : Sq) : (d.setSq q x).haltLog = d.haltLog := rfl
@[simp] theorem setSq_wipeDue (q : Nat) (x : Sq) : (d.setSq q x).wipeDue = d.wipeDue := rfl
@[simp] theorem setSq_tap (q : Nat) (x : Sq) : (d.setSq q x).tap = d.tap := rfl
@[simp] theorem setSq_freeCtr (q : Nat) (x : Sq) : (d.setSq q x).freeCtr = d.freeCtr := rfl
@[simp] theorem setSq_out (q : Nat) (x : Sq) : (d.setSq q x).out = d.out := rfl

/-! ### `setCq` -/

@[simp] theorem setCq_st (q : Nat) (x : Cq) : (d.setCq q x).st = d.st := rfl
@[simp] theorem setCq_charted (q : Nat) (x : Cq) : (d.setCq q x).charted = d.charted := rfl
@[simp] theorem setCq_raw (q : Nat) (x : Cq) : (d.setCq q x).raw = d.raw := rfl
@[simp] theorem setCq_regs (q : Nat) (x : Cq) : (d.setCq q x).regs = d.regs := rfl
@[simp] theorem setCq_inforce (q : Nat) (x : Cq) : (d.setCq q x).inforce = d.inforce := rfl
@[simp] theorem setCq_counters (q : Nat) (x : Cq) : (d.setCq q x).counters = d.counters := rfl
@[simp] theorem setCq_reckon (q : Nat) (x : Cq) : (d.setCq q x).reckon = d.reckon := rfl
@[simp] theorem setCq_ev (q : Nat) (x : Cq) : (d.setCq q x).ev = d.ev := rfl
@[simp] theorem setCq_pcie (q : Nat) (x : Cq) : (d.setCq q x).pcie = d.pcie := rfl
@[simp] theorem setCq_tio (q : Nat) (x : Cq) : (d.setCq q x).tio = d.tio := rfl
@[simp] theorem setCq_strec (q : Nat) (x : Cq) : (d.setCq q x).strec = d.strec := rfl
@[simp] theorem setCq_tender (q : Nat) (x : Cq) : (d.setCq q x).tender = d.tender := rfl
@[simp] theorem setCq_tenderTurn (q : Nat) (x : Cq) : (d.setCq q x).tenderTurn = d.tenderTurn := rfl
@[simp] theorem setCq_writeTurn (q : Nat) (x : Cq) : (d.setCq q x).writeTurn = d.writeTurn := rfl
@[simp] theorem setCq_chart (q : Nat) (x : Cq) : (d.setCq q x).chart = d.chart := rfl
@[simp] theorem setCq_netCfg (q : Nat) (x : Cq) : (d.setCq q x).netCfg = d.netCfg := rfl
@[simp] theorem setCq_cross (q : Nat) (x : Cq) : (d.setCq q x).cross = d.cross := rfl
@[simp] theorem setCq_cargo (q : Nat) (x : Cq) : (d.setCq q x).cargo = d.cargo := rfl
@[simp] theorem setCq_pilot (q : Nat) (x : Cq) : (d.setCq q x).pilot = d.pilot := rfl
@[simp] theorem setCq_net (q : Nat) (x : Cq) : (d.setCq q x).net = d.net := rfl
@[simp] theorem setCq_compass (q : Nat) (x : Cq) : (d.setCq q x).compass = d.compass := rfl
@[simp] theorem setCq_fix (q : Nat) (x : Cq) : (d.setCq q x).fix = d.fix := rfl
@[simp] theorem setCq_muster (q : Nat) (x : Cq) : (d.setCq q x).muster = d.muster := rfl
@[simp] theorem setCq_trim (q : Nat) (x : Cq) : (d.setCq q x).trim = d.trim := rfl
@[simp] theorem setCq_core (q : Nat) (x : Cq) : (d.setCq q x).core = d.core := rfl
@[simp] theorem setCq_boot (q : Nat) (x : Cq) : (d.setCq q x).boot = d.boot := rfl
@[simp] theorem setCq_haltLog (q : Nat) (x : Cq) : (d.setCq q x).haltLog = d.haltLog := rfl
@[simp] theorem setCq_wipeDue (q : Nat) (x : Cq) : (d.setCq q x).wipeDue = d.wipeDue := rfl
@[simp] theorem setCq_tap (q : Nat) (x : Cq) : (d.setCq q x).tap = d.tap := rfl
@[simp] theorem setCq_freeCtr (q : Nat) (x : Cq) : (d.setCq q x).freeCtr = d.freeCtr := rfl
@[simp] theorem setCq_out (q : Nat) (x : Cq) : (d.setCq q x).out = d.out := rfl

/-! ### `setArm` -/

@[simp] theorem setArm_st (p : Nat) (x : Arm) : (d.setArm p x).st = d.st := rfl
@[simp] theorem setArm_charted (p : Nat) (x : Arm) : (d.setArm p x).charted = d.charted := rfl
@[simp] theorem setArm_raw (p : Nat) (x : Arm) : (d.setArm p x).raw = d.raw := rfl
@[simp] theorem setArm_regs (p : Nat) (x : Arm) : (d.setArm p x).regs = d.regs := rfl
@[simp] theorem setArm_inforce (p : Nat) (x : Arm) : (d.setArm p x).inforce = d.inforce := rfl
@[simp] theorem setArm_counters (p : Nat) (x : Arm) : (d.setArm p x).counters = d.counters := rfl
@[simp] theorem setArm_reckon (p : Nat) (x : Arm) : (d.setArm p x).reckon = d.reckon := rfl
@[simp] theorem setArm_ev (p : Nat) (x : Arm) : (d.setArm p x).ev = d.ev := rfl
@[simp] theorem setArm_pcie (p : Nat) (x : Arm) : (d.setArm p x).pcie = d.pcie := rfl
@[simp] theorem setArm_tio (p : Nat) (x : Arm) : (d.setArm p x).tio = d.tio := rfl
@[simp] theorem setArm_strec (p : Nat) (x : Arm) : (d.setArm p x).strec = d.strec := rfl
@[simp] theorem setArm_tender (p : Nat) (x : Arm) : (d.setArm p x).tender = d.tender := rfl
@[simp] theorem setArm_tenderTurn (p : Nat) (x : Arm) : (d.setArm p x).tenderTurn = d.tenderTurn := rfl
@[simp] theorem setArm_writeTurn (p : Nat) (x : Arm) : (d.setArm p x).writeTurn = d.writeTurn := rfl
@[simp] theorem setArm_hq (p : Nat) (x : Arm) : (d.setArm p x).hq = d.hq := rfl
@[simp] theorem setArm_chart (p : Nat) (x : Arm) : (d.setArm p x).chart = d.chart := rfl
@[simp] theorem setArm_netCfg (p : Nat) (x : Arm) : (d.setArm p x).netCfg = d.netCfg := rfl
@[simp] theorem setArm_cross (p : Nat) (x : Arm) : (d.setArm p x).cross = d.cross := rfl
@[simp] theorem setArm_cargo (p : Nat) (x : Arm) : (d.setArm p x).cargo = d.cargo := rfl
@[simp] theorem setArm_net (p : Nat) (x : Arm) : (d.setArm p x).net = d.net := rfl
@[simp] theorem setArm_compass (p : Nat) (x : Arm) : (d.setArm p x).compass = d.compass := rfl
@[simp] theorem setArm_fix (p : Nat) (x : Arm) : (d.setArm p x).fix = d.fix := rfl
@[simp] theorem setArm_muster (p : Nat) (x : Arm) : (d.setArm p x).muster = d.muster := rfl
@[simp] theorem setArm_trim (p : Nat) (x : Arm) : (d.setArm p x).trim = d.trim := rfl
@[simp] theorem setArm_core (p : Nat) (x : Arm) : (d.setArm p x).core = d.core := rfl
@[simp] theorem setArm_boot (p : Nat) (x : Arm) : (d.setArm p x).boot = d.boot := rfl
@[simp] theorem setArm_haltLog (p : Nat) (x : Arm) : (d.setArm p x).haltLog = d.haltLog := rfl
@[simp] theorem setArm_wipeDue (p : Nat) (x : Arm) : (d.setArm p x).wipeDue = d.wipeDue := rfl
@[simp] theorem setArm_tap (p : Nat) (x : Arm) : (d.setArm p x).tap = d.tap := rfl
@[simp] theorem setArm_freeCtr (p : Nat) (x : Arm) : (d.setArm p x).freeCtr = d.freeCtr := rfl
@[simp] theorem setArm_out (p : Nat) (x : Arm) : (d.setArm p x).out = d.out := rfl

/-! ### `setBranch` -/

@[simp] theorem setBranch_st (b : Nat) (x : Branch) : (d.setBranch b x).st = d.st := rfl
@[simp] theorem setBranch_charted (b : Nat) (x : Branch) : (d.setBranch b x).charted = d.charted := rfl
@[simp] theorem setBranch_raw (b : Nat) (x : Branch) : (d.setBranch b x).raw = d.raw := rfl
@[simp] theorem setBranch_regs (b : Nat) (x : Branch) : (d.setBranch b x).regs = d.regs := rfl
@[simp] theorem setBranch_inforce (b : Nat) (x : Branch) : (d.setBranch b x).inforce = d.inforce := rfl
@[simp] theorem setBranch_counters (b : Nat) (x : Branch) : (d.setBranch b x).counters = d.counters := rfl
@[simp] theorem setBranch_reckon (b : Nat) (x : Branch) : (d.setBranch b x).reckon = d.reckon := rfl
@[simp] theorem setBranch_ev (b : Nat) (x : Branch) : (d.setBranch b x).ev = d.ev := rfl
@[simp] theorem setBranch_pcie (b : Nat) (x : Branch) : (d.setBranch b x).pcie = d.pcie := rfl
@[simp] theorem setBranch_tio (b : Nat) (x : Branch) : (d.setBranch b x).tio = d.tio := rfl
@[simp] theorem setBranch_strec (b : Nat) (x : Branch) : (d.setBranch b x).strec = d.strec := rfl
@[simp] theorem setBranch_tender (b : Nat) (x : Branch) : (d.setBranch b x).tender = d.tender := rfl
@[simp] theorem setBranch_tenderTurn (b : Nat) (x : Branch) : (d.setBranch b x).tenderTurn = d.tenderTurn := rfl
@[simp] theorem setBranch_writeTurn (b : Nat) (x : Branch) : (d.setBranch b x).writeTurn = d.writeTurn := rfl
@[simp] theorem setBranch_hq (b : Nat) (x : Branch) : (d.setBranch b x).hq = d.hq := rfl
@[simp] theorem setBranch_chart (b : Nat) (x : Branch) : (d.setBranch b x).chart = d.chart := rfl
@[simp] theorem setBranch_netCfg (b : Nat) (x : Branch) : (d.setBranch b x).netCfg = d.netCfg := rfl
@[simp] theorem setBranch_cargo (b : Nat) (x : Branch) : (d.setBranch b x).cargo = d.cargo := rfl
@[simp] theorem setBranch_pilot (b : Nat) (x : Branch) : (d.setBranch b x).pilot = d.pilot := rfl
@[simp] theorem setBranch_net (b : Nat) (x : Branch) : (d.setBranch b x).net = d.net := rfl
@[simp] theorem setBranch_compass (b : Nat) (x : Branch) : (d.setBranch b x).compass = d.compass := rfl
@[simp] theorem setBranch_fix (b : Nat) (x : Branch) : (d.setBranch b x).fix = d.fix := rfl
@[simp] theorem setBranch_muster (b : Nat) (x : Branch) : (d.setBranch b x).muster = d.muster := rfl
@[simp] theorem setBranch_trim (b : Nat) (x : Branch) : (d.setBranch b x).trim = d.trim := rfl
@[simp] theorem setBranch_core (b : Nat) (x : Branch) : (d.setBranch b x).core = d.core := rfl
@[simp] theorem setBranch_boot (b : Nat) (x : Branch) : (d.setBranch b x).boot = d.boot := rfl
@[simp] theorem setBranch_haltLog (b : Nat) (x : Branch) : (d.setBranch b x).haltLog = d.haltLog := rfl
@[simp] theorem setBranch_wipeDue (b : Nat) (x : Branch) : (d.setBranch b x).wipeDue = d.wipeDue := rfl
@[simp] theorem setBranch_tap (b : Nat) (x : Branch) : (d.setBranch b x).tap = d.tap := rfl
@[simp] theorem setBranch_freeCtr (b : Nat) (x : Branch) : (d.setBranch b x).freeCtr = d.freeCtr := rfl
@[simp] theorem setBranch_out (b : Nat) (x : Branch) : (d.setBranch b x).out = d.out := rfl

/-! ### `setStream` -/

@[simp] theorem setStream_st (i : Nat) (x : Stream) : (d.setStream i x).st = d.st := rfl
@[simp] theorem setStream_charted (i : Nat) (x : Stream) : (d.setStream i x).charted = d.charted := rfl
@[simp] theorem setStream_raw (i : Nat) (x : Stream) : (d.setStream i x).raw = d.raw := rfl
@[simp] theorem setStream_regs (i : Nat) (x : Stream) : (d.setStream i x).regs = d.regs := rfl
@[simp] theorem setStream_inforce (i : Nat) (x : Stream) : (d.setStream i x).inforce = d.inforce := rfl
@[simp] theorem setStream_counters (i : Nat) (x : Stream) : (d.setStream i x).counters = d.counters := rfl
@[simp] theorem setStream_reckon (i : Nat) (x : Stream) : (d.setStream i x).reckon = d.reckon := rfl
@[simp] theorem setStream_ev (i : Nat) (x : Stream) : (d.setStream i x).ev = d.ev := rfl
@[simp] theorem setStream_pcie (i : Nat) (x : Stream) : (d.setStream i x).pcie = d.pcie := rfl
@[simp] theorem setStream_tio (i : Nat) (x : Stream) : (d.setStream i x).tio = d.tio := rfl
@[simp] theorem setStream_strec (i : Nat) (x : Stream) : (d.setStream i x).strec = d.strec := rfl
@[simp] theorem setStream_tender (i : Nat) (x : Stream) : (d.setStream i x).tender = d.tender := rfl
@[simp] theorem setStream_tenderTurn (i : Nat) (x : Stream) : (d.setStream i x).tenderTurn = d.tenderTurn := rfl
@[simp] theorem setStream_writeTurn (i : Nat) (x : Stream) : (d.setStream i x).writeTurn = d.writeTurn := rfl
@[simp] theorem setStream_hq (i : Nat) (x : Stream) : (d.setStream i x).hq = d.hq := rfl
@[simp] theorem setStream_chart (i : Nat) (x : Stream) : (d.setStream i x).chart = d.chart := rfl
@[simp] theorem setStream_netCfg (i : Nat) (x : Stream) : (d.setStream i x).netCfg = d.netCfg := rfl
@[simp] theorem setStream_cross (i : Nat) (x : Stream) : (d.setStream i x).cross = d.cross := rfl
@[simp] theorem setStream_cargo (i : Nat) (x : Stream) : (d.setStream i x).cargo = d.cargo := rfl
@[simp] theorem setStream_pilot (i : Nat) (x : Stream) : (d.setStream i x).pilot = d.pilot := rfl
@[simp] theorem setStream_compass (i : Nat) (x : Stream) : (d.setStream i x).compass = d.compass := rfl
@[simp] theorem setStream_fix (i : Nat) (x : Stream) : (d.setStream i x).fix = d.fix := rfl
@[simp] theorem setStream_muster (i : Nat) (x : Stream) : (d.setStream i x).muster = d.muster := rfl
@[simp] theorem setStream_trim (i : Nat) (x : Stream) : (d.setStream i x).trim = d.trim := rfl
@[simp] theorem setStream_core (i : Nat) (x : Stream) : (d.setStream i x).core = d.core := rfl
@[simp] theorem setStream_boot (i : Nat) (x : Stream) : (d.setStream i x).boot = d.boot := rfl
@[simp] theorem setStream_haltLog (i : Nat) (x : Stream) : (d.setStream i x).haltLog = d.haltLog := rfl
@[simp] theorem setStream_wipeDue (i : Nat) (x : Stream) : (d.setStream i x).wipeDue = d.wipeDue := rfl
@[simp] theorem setStream_tap (i : Nat) (x : Stream) : (d.setStream i x).tap = d.tap := rfl
@[simp] theorem setStream_freeCtr (i : Nat) (x : Stream) : (d.setStream i x).freeCtr = d.freeCtr := rfl
@[simp] theorem setStream_out (i : Nat) (x : Stream) : (d.setStream i x).out = d.out := rfl

/-! ### `setLink` -/

@[simp] theorem setLink_st (l : Nat) (x : FabricLink) : (d.setLink l x).st = d.st := rfl
@[simp] theorem setLink_charted (l : Nat) (x : FabricLink) : (d.setLink l x).charted = d.charted := rfl
@[simp] theorem setLink_raw (l : Nat) (x : FabricLink) : (d.setLink l x).raw = d.raw := rfl
@[simp] theorem setLink_regs (l : Nat) (x : FabricLink) : (d.setLink l x).regs = d.regs := rfl
@[simp] theorem setLink_inforce (l : Nat) (x : FabricLink) : (d.setLink l x).inforce = d.inforce := rfl
@[simp] theorem setLink_counters (l : Nat) (x : FabricLink) : (d.setLink l x).counters = d.counters := rfl
@[simp] theorem setLink_reckon (l : Nat) (x : FabricLink) : (d.setLink l x).reckon = d.reckon := rfl
@[simp] theorem setLink_ev (l : Nat) (x : FabricLink) : (d.setLink l x).ev = d.ev := rfl
@[simp] theorem setLink_pcie (l : Nat) (x : FabricLink) : (d.setLink l x).pcie = d.pcie := rfl
@[simp] theorem setLink_tio (l : Nat) (x : FabricLink) : (d.setLink l x).tio = d.tio := rfl
@[simp] theorem setLink_strec (l : Nat) (x : FabricLink) : (d.setLink l x).strec = d.strec := rfl
@[simp] theorem setLink_tender (l : Nat) (x : FabricLink) : (d.setLink l x).tender = d.tender := rfl
@[simp] theorem setLink_tenderTurn (l : Nat) (x : FabricLink) : (d.setLink l x).tenderTurn = d.tenderTurn := rfl
@[simp] theorem setLink_writeTurn (l : Nat) (x : FabricLink) : (d.setLink l x).writeTurn = d.writeTurn := rfl
@[simp] theorem setLink_hq (l : Nat) (x : FabricLink) : (d.setLink l x).hq = d.hq := rfl
@[simp] theorem setLink_chart (l : Nat) (x : FabricLink) : (d.setLink l x).chart = d.chart := rfl
@[simp] theorem setLink_netCfg (l : Nat) (x : FabricLink) : (d.setLink l x).netCfg = d.netCfg := rfl
@[simp] theorem setLink_cross (l : Nat) (x : FabricLink) : (d.setLink l x).cross = d.cross := rfl
@[simp] theorem setLink_cargo (l : Nat) (x : FabricLink) : (d.setLink l x).cargo = d.cargo := rfl
@[simp] theorem setLink_pilot (l : Nat) (x : FabricLink) : (d.setLink l x).pilot = d.pilot := rfl
@[simp] theorem setLink_net (l : Nat) (x : FabricLink) : (d.setLink l x).net = d.net := rfl
@[simp] theorem setLink_compass (l : Nat) (x : FabricLink) : (d.setLink l x).compass = d.compass := rfl
@[simp] theorem setLink_fix (l : Nat) (x : FabricLink) : (d.setLink l x).fix = d.fix := rfl
@[simp] theorem setLink_muster (l : Nat) (x : FabricLink) : (d.setLink l x).muster = d.muster := rfl
@[simp] theorem setLink_trim (l : Nat) (x : FabricLink) : (d.setLink l x).trim = d.trim := rfl
@[simp] theorem setLink_boot (l : Nat) (x : FabricLink) : (d.setLink l x).boot = d.boot := rfl
@[simp] theorem setLink_haltLog (l : Nat) (x : FabricLink) : (d.setLink l x).haltLog = d.haltLog := rfl
@[simp] theorem setLink_wipeDue (l : Nat) (x : FabricLink) : (d.setLink l x).wipeDue = d.wipeDue := rfl
@[simp] theorem setLink_tap (l : Nat) (x : FabricLink) : (d.setLink l x).tap = d.tap := rfl
@[simp] theorem setLink_freeCtr (l : Nat) (x : FabricLink) : (d.setLink l x).freeCtr = d.freeCtr := rfl
@[simp] theorem setLink_out (l : Nat) (x : FabricLink) : (d.setLink l x).out = d.out := rfl

/-! ### `setDom` -/

@[simp] theorem setDom_st (m : Dom) (x : Domain) : (d.setDom m x).st = d.st := by cases m <;> rfl
@[simp] theorem setDom_charted (m : Dom) (x : Domain) : (d.setDom m x).charted = d.charted := by cases m <;> rfl
@[simp] theorem setDom_raw (m : Dom) (x : Domain) : (d.setDom m x).raw = d.raw := by cases m <;> rfl
@[simp] theorem setDom_regs (m : Dom) (x : Domain) : (d.setDom m x).regs = d.regs := by cases m <;> rfl
@[simp] theorem setDom_inforce (m : Dom) (x : Domain) : (d.setDom m x).inforce = d.inforce := by cases m <;> rfl
@[simp] theorem setDom_counters (m : Dom) (x : Domain) : (d.setDom m x).counters = d.counters := by cases m <;> rfl
@[simp] theorem setDom_ev (m : Dom) (x : Domain) : (d.setDom m x).ev = d.ev := by cases m <;> rfl
@[simp] theorem setDom_pcie (m : Dom) (x : Domain) : (d.setDom m x).pcie = d.pcie := by cases m <;> rfl
@[simp] theorem setDom_tio (m : Dom) (x : Domain) : (d.setDom m x).tio = d.tio := by cases m <;> rfl
@[simp] theorem setDom_strec (m : Dom) (x : Domain) : (d.setDom m x).strec = d.strec := by cases m <;> rfl
@[simp] theorem setDom_tender (m : Dom) (x : Domain) : (d.setDom m x).tender = d.tender := by cases m <;> rfl
@[simp] theorem setDom_tenderTurn (m : Dom) (x : Domain) : (d.setDom m x).tenderTurn = d.tenderTurn := by cases m <;> rfl
@[simp] theorem setDom_writeTurn (m : Dom) (x : Domain) : (d.setDom m x).writeTurn = d.writeTurn := by cases m <;> rfl
@[simp] theorem setDom_hq (m : Dom) (x : Domain) : (d.setDom m x).hq = d.hq := by cases m <;> rfl
@[simp] theorem setDom_chart (m : Dom) (x : Domain) : (d.setDom m x).chart = d.chart := by cases m <;> rfl
@[simp] theorem setDom_netCfg (m : Dom) (x : Domain) : (d.setDom m x).netCfg = d.netCfg := by cases m <;> rfl
@[simp] theorem setDom_cross (m : Dom) (x : Domain) : (d.setDom m x).cross = d.cross := by cases m <;> rfl
@[simp] theorem setDom_cargo (m : Dom) (x : Domain) : (d.setDom m x).cargo = d.cargo := by cases m <;> rfl
@[simp] theorem setDom_pilot (m : Dom) (x : Domain) : (d.setDom m x).pilot = d.pilot := by cases m <;> rfl
@[simp] theorem setDom_net (m : Dom) (x : Domain) : (d.setDom m x).net = d.net := by cases m <;> rfl
@[simp] theorem setDom_compass (m : Dom) (x : Domain) : (d.setDom m x).compass = d.compass := by cases m <;> rfl
@[simp] theorem setDom_fix (m : Dom) (x : Domain) : (d.setDom m x).fix = d.fix := by cases m <;> rfl
@[simp] theorem setDom_muster (m : Dom) (x : Domain) : (d.setDom m x).muster = d.muster := by cases m <;> rfl
@[simp] theorem setDom_trim (m : Dom) (x : Domain) : (d.setDom m x).trim = d.trim := by cases m <;> rfl
@[simp] theorem setDom_core (m : Dom) (x : Domain) : (d.setDom m x).core = d.core := by cases m <;> rfl
@[simp] theorem setDom_boot (m : Dom) (x : Domain) : (d.setDom m x).boot = d.boot := by cases m <;> rfl
@[simp] theorem setDom_haltLog (m : Dom) (x : Domain) : (d.setDom m x).haltLog = d.haltLog := by cases m <;> rfl
@[simp] theorem setDom_wipeDue (m : Dom) (x : Domain) : (d.setDom m x).wipeDue = d.wipeDue := by cases m <;> rfl
@[simp] theorem setDom_tap (m : Dom) (x : Domain) : (d.setDom m x).tap = d.tap := by cases m <;> rfl
@[simp] theorem setDom_freeCtr (m : Dom) (x : Domain) : (d.setDom m x).freeCtr = d.freeCtr := by cases m <;> rfl
@[simp] theorem setDom_out (m : Dom) (x : Domain) : (d.setDom m x).out = d.out := by cases m <;> rfl

/-! ### `setFn` -/

@[simp] theorem setFn_st (fn : Fn) (x : FnState) : (d.setFn fn x).st = d.st := by cases fn <;> rfl
@[simp] theorem setFn_charted (fn : Fn) (x : FnState) : (d.setFn fn x).charted = d.charted := by cases fn <;> rfl
@[simp] theorem setFn_raw (fn : Fn) (x : FnState) : (d.setFn fn x).raw = d.raw := by cases fn <;> rfl
@[simp] theorem setFn_regs (fn : Fn) (x : FnState) : (d.setFn fn x).regs = d.regs := by cases fn <;> rfl
@[simp] theorem setFn_inforce (fn : Fn) (x : FnState) : (d.setFn fn x).inforce = d.inforce := by cases fn <;> rfl
@[simp] theorem setFn_counters (fn : Fn) (x : FnState) : (d.setFn fn x).counters = d.counters := by cases fn <;> rfl
@[simp] theorem setFn_reckon (fn : Fn) (x : FnState) : (d.setFn fn x).reckon = d.reckon := by cases fn <;> rfl
@[simp] theorem setFn_ev (fn : Fn) (x : FnState) : (d.setFn fn x).ev = d.ev := by cases fn <;> rfl
@[simp] theorem setFn_tio (fn : Fn) (x : FnState) : (d.setFn fn x).tio = d.tio := by cases fn <;> rfl
@[simp] theorem setFn_strec (fn : Fn) (x : FnState) : (d.setFn fn x).strec = d.strec := by cases fn <;> rfl
@[simp] theorem setFn_tender (fn : Fn) (x : FnState) : (d.setFn fn x).tender = d.tender := by cases fn <;> rfl
@[simp] theorem setFn_tenderTurn (fn : Fn) (x : FnState) : (d.setFn fn x).tenderTurn = d.tenderTurn := by cases fn <;> rfl
@[simp] theorem setFn_writeTurn (fn : Fn) (x : FnState) : (d.setFn fn x).writeTurn = d.writeTurn := by cases fn <;> rfl
@[simp] theorem setFn_hq (fn : Fn) (x : FnState) : (d.setFn fn x).hq = d.hq := by cases fn <;> rfl
@[simp] theorem setFn_chart (fn : Fn) (x : FnState) : (d.setFn fn x).chart = d.chart := by cases fn <;> rfl
@[simp] theorem setFn_netCfg (fn : Fn) (x : FnState) : (d.setFn fn x).netCfg = d.netCfg := by cases fn <;> rfl
@[simp] theorem setFn_cross (fn : Fn) (x : FnState) : (d.setFn fn x).cross = d.cross := by cases fn <;> rfl
@[simp] theorem setFn_cargo (fn : Fn) (x : FnState) : (d.setFn fn x).cargo = d.cargo := by cases fn <;> rfl
@[simp] theorem setFn_pilot (fn : Fn) (x : FnState) : (d.setFn fn x).pilot = d.pilot := by cases fn <;> rfl
@[simp] theorem setFn_net (fn : Fn) (x : FnState) : (d.setFn fn x).net = d.net := by cases fn <;> rfl
@[simp] theorem setFn_compass (fn : Fn) (x : FnState) : (d.setFn fn x).compass = d.compass := by cases fn <;> rfl
@[simp] theorem setFn_fix (fn : Fn) (x : FnState) : (d.setFn fn x).fix = d.fix := by cases fn <;> rfl
@[simp] theorem setFn_muster (fn : Fn) (x : FnState) : (d.setFn fn x).muster = d.muster := by cases fn <;> rfl
@[simp] theorem setFn_trim (fn : Fn) (x : FnState) : (d.setFn fn x).trim = d.trim := by cases fn <;> rfl
@[simp] theorem setFn_core (fn : Fn) (x : FnState) : (d.setFn fn x).core = d.core := by cases fn <;> rfl
@[simp] theorem setFn_boot (fn : Fn) (x : FnState) : (d.setFn fn x).boot = d.boot := by cases fn <;> rfl
@[simp] theorem setFn_haltLog (fn : Fn) (x : FnState) : (d.setFn fn x).haltLog = d.haltLog := by cases fn <;> rfl
@[simp] theorem setFn_wipeDue (fn : Fn) (x : FnState) : (d.setFn fn x).wipeDue = d.wipeDue := by cases fn <;> rfl
@[simp] theorem setFn_tap (fn : Fn) (x : FnState) : (d.setFn fn x).tap = d.tap := by cases fn <;> rfl
@[simp] theorem setFn_freeCtr (fn : Fn) (x : FnState) : (d.setFn fn x).freeCtr = d.freeCtr := by cases fn <;> rfl
@[simp] theorem setFn_out (fn : Fn) (x : FnState) : (d.setFn fn x).out = d.out := by cases fn <;> rfl

/-! ### Reads after writes -/

theorem tabGet_tabSet_apart {α : Type} [DecidableEq α] (c e v : α) (t : Tab α) (k j : Nat) (h : j ≠ k) :
    tabGet c (tabSet e t k v) j = tabGet c t j := by
  unfold tabSet
  split
  · exact tabGet_tabErase_other c t k j h
  · exact tabGet_tabPut_other c v t k j h

/-- A write of one field leaves every other field's value alone. -/
theorem rg_ru_other (f g : Fld) (v i j a b : Nat) (h : g.key a b ≠ f.key i j) :
    (d.ru f v i j).rg g a b = d.rg g a b := tabGet_tabSet_apart (d.unset g) (d.unset f) _ d.regs _ _ h

/-- A field reads the value just written. -/
theorem rg_ru_same (f : Fld) (v i j : Nat) : (d.ru f v i j).rg f i j = v % 2 ^ f.width :=
  tabGet_tabSet_same (d.unset f) _ d.regs (f.key i j)

/-- A count leaves every other counter alone. -/
theorem cnt_countN_other (o n k : Nat) (h : k ≠ o) : (d.countN o n).cnt k = d.cnt k :=
  tabGet_tabSet_apart 0 0 _ d.counters _ _ h

@[simp] theorem dom_setDom_same (m : Dom) (x : Domain) : (d.setDom m x).dom m = x := by cases m <;> rfl

/-- An update of one timebase leaves the others alone. -/
theorem dom_setDom_other (m k : Dom) (x : Domain) (h : k ≠ m) : (d.setDom m x).dom k = d.dom k := by
  cases m <;> cases k <;> first | rfl | exact absurd rfl h

@[simp] theorem fnState_setFn_same (fn : Fn) (x : FnState) : (d.setFn fn x).fnState fn = x := by cases fn <;> rfl

@[simp] theorem port_setPort_same (p : Nat) (x : Port) : (d.setPort p x).port p = x :=
  tabGet_tabSet_same ({} : Port) x d.net.ports p

/-- An update of one table entry leaves the other ports alone. -/
theorem port_setPort_other (p q : Nat) (x : Port) (h : q ≠ p) : (d.setPort p x).port q = d.port q :=
  tabGet_tabSet_apart ({} : Port) {} x d.net.ports p q h

end Sys2Proof.Machine
end

