-- ==== Sys2Proof/Laws/Lift.lean ====
section
/-!
SUPPORT. What the lifts of a device change to a meaning answer, and what the interrupt decision of R481 may change: cited
in place of unfolding them.
-/

namespace Sys2Proof.Machine

open Sys2Proof.Safety

/-! ### The lifts -/

variable (f : Device → Device) (g : NonVol → Device → NonVol × Device) (h : NonVol → Device → Device) (s t : State)

/-- A command runs on a powered device. -/
theorem onDev_run (hp : Powered s) : onDev f s = .next { s with dev := settle (f s.dev) } := by
  simp [onDev, hp.1, hp.2]

/-- A command finds nobody in OFF and RESET. -/
theorem onDev_off (hp : ¬ Powered s) : onDev f s = .next s := by
  rw [onDev, if_pos]
  by_cases ho : s.dev.st = .off
  · exact .inl ho
  · exact .inr (Classical.byContradiction fun hr => hp ⟨ho, hr⟩)

/-- A command of the host runs on a powered device whose link is up. -/
theorem onHost_run (hp : Linked s) : onHost f s = .next { s with dev := settle (f s.dev) } := by
  rw [onHost, if_pos hp.2, onDev_run f s hp.1]

/-- A command of the host does not reach a device whose link is down. -/
theorem onHost_down (hl : s.dev.pcie.linkUp = false) : onHost f s = .next s := by simp [onHost, hl]

/-- A command that may write the fuses or the flash runs on a powered device. -/
theorem onAll_run (hp : Powered s) :
    onAll g s = .next { s with nv := (g s.nv s.dev).1, dev := settle (g s.nv s.dev).2 } := by
  simp [onAll, hp.1, hp.2]

/-- What `onDev` can answer. -/
theorem onDev_cases (ht : onDev f s = .next t) : t = s ∨ t = { s with dev := settle (f s.dev) } := by
  unfold onDev at ht
  split at ht
  · exact .inl (Host.Outcome.next.inj ht).symm
  · exact .inr (Host.Outcome.next.inj ht).symm

/-- What `onHost` can answer. -/
theorem onHost_cases (ht : onHost f s = .next t) : t = s ∨ t = { s with dev := settle (f s.dev) } := by
  unfold onHost at ht
  split at ht
  · exact onDev_cases f s t ht
  · exact .inl (Host.Outcome.next.inj ht).symm

/-- What `onAll` can answer. -/
theorem onAll_cases (ht : onAll g s = .next t) :
    t = s ∨ t = { s with nv := (g s.nv s.dev).1, dev := settle (g s.nv s.dev).2 } := by
  unfold onAll at ht
  split at ht
  · exact .inl (Host.Outcome.next.inj ht).symm
  · exact .inr (Host.Outcome.next.inj ht).symm

/-- `onDev` always answers a next state. -/
theorem onDev_next : ∃ t, onDev f s = .next t := by
  unfold onDev
  split <;> exact ⟨_, rfl⟩

/-- `onHost` always answers a next state. -/
theorem onHost_next : ∃ t, onHost f s = .next t := by
  unfold onHost
  split
  · exact onDev_next f s
  · exact ⟨_, rfl⟩

/-- `onAll` always answers a next state. -/
theorem onAll_next : ∃ t, onAll g s = .next t := by
  unfold onAll
  split <;> exact ⟨_, rfl⟩

/-! ### The interrupt decision -/

variable (d : Device)

/-- A message sent leaves the events alone. -/
theorem msixSend_ev (fn : Fn) (v : Nat) : (msixSend fn v d).ev = d.ev := by
  unfold msixSend
  dsimp only
  split
  · rfl
  · split
    · rfl
    · cases fn <;> rfl

/-- The decision for one vector presents nothing. -/
theorem vecSettle_touched (v : Nat) : (vecSettle v d).ev.touched = d.ev.touched := by
  unfold vecSettle
  dsimp only
  split
  · simp [vecFire, msixSend_ev]
  · rfl

theorem foldl_vecSettle_touched (l : List Nat) :
    (l.foldl (fun d v => vecSettle v d) d).ev.touched = d.ev.touched := by
  induction l generalizing d with
  | nil => rfl
  | cons v l ih => rw [List.foldl_cons, ih, vecSettle_touched]

/-- After the interrupt decision no vector waits for it. -/
@[simp] theorem settle_touched : (settle d).ev.touched = [] := foldl_vecSettle_touched _ _

/-- Where no vector was presented an occurrence, the interrupt decision changes nothing. -/
theorem settle_eq (ht : d.ev.touched = []) : settle d = d := by
  unfold settle
  rw [ht]
  show { d with ev := { d.ev with touched := [] } } = d
  cases d with
  | mk => cases ‹Events›; simp_all

end Sys2Proof.Machine
end

