-- ==== Sys2Proof/Laws/Events.lean ====
section
/-!
SUPPORT. What raising an event may change, once for every source: register fields, counters, the events' own fields, the
PCI Express functions, the TIO pins, the Tender channels and the outputs. Every other field of the device stays.
-/

namespace Sys2Proof.Machine

/-- `e` differs from `d` at most in what raising an event may change. -/
def EvFrame (d e : Device) : Prop :=
  e = { d with regs := e.regs, counters := e.counters, ev := e.ev, pcie := e.pcie, tio := e.tio, tender := e.tender,
               out := e.out }

theorem EvFrame.refl (d : Device) : EvFrame d d := rfl

theorem EvFrame.trans {a b c : Device} (x : EvFrame a b) (y : EvFrame b c) : EvFrame a c := by
  unfold EvFrame at *
  rw [x] at y
  exact y

/-- A fold of operations that each keep the frame keeps it. -/
theorem EvFrame.foldl {α : Type} (f : Device → α → Device) (h : ∀ d a, EvFrame d (f d a)) (l : List α) (d : Device) :
    EvFrame d (l.foldl f d) := by
  induction l generalizing d with
  | nil => exact EvFrame.refl d
  | cons a l ih => exact (h d a).trans (ih (f d a))

/-- A conditional operation keeps the frame when both its branches do. -/
theorem EvFrame.ite {p : Prop} [Decidable p] {d a b : Device} (ha : EvFrame d a) (hb : EvFrame d b) :
    EvFrame d (if p then a else b) := by
  split
  · exact ha
  · exact hb

variable (d : Device)

theorem msixSend_frame (fn : Fn) (v : Nat) : EvFrame d (msixSend fn v d) := by
  unfold msixSend
  refine EvFrame.ite rfl (EvFrame.ite rfl ?_)
  cases fn <;> rfl

/-- A read of host memory is outputs only, however PCI Express splits it. -/
theorem emitRead_frame (a n : Nat) : EvFrame d (d.emitRead a n) :=
  EvFrame.foldl (fun d (r : Nat × Nat) => d.emit (.hostRead r.1 r.2)) (fun _ _ => rfl) _ d

/-- A write of host memory is outputs only, however PCI Express splits it. -/
theorem emitWrite_frame (a : Nat) (b : Bytes) : EvFrame d (d.emitWrite a b) :=
  EvFrame.foldl (fun d (r : Nat × Nat) => d.emit (.hostWrite r.1 (slice b (r.1 - a) r.2))) (fun _ _ => rfl) _ d

theorem presentVec_frame (v : Nat) : EvFrame d (presentVec v d) := EvFrame.ite rfl rfl

/-- A change of a pin is what the change itself is, and an output. -/
theorem tioChange_frame (i : Nat) (f : Device → Device) (h : EvFrame d (f d)) : EvFrame d (tioChange i f d) :=
  EvFrame.ite h (h.trans (Eq.refl _))

theorem tioPulseOff_frame (i : Nat) : EvFrame d (tioPulseOff i d) := tioChange_frame d i _ (Eq.refl _)

theorem tioPulse_frame (i : Nat) (once : Bool) : EvFrame d (tioPulse i once d) :=
  (tioPulseOff_frame d i).trans (tioChange_frame _ i _ (Eq.refl _))

theorem tioEventOut_frame (i : Nat) : EvFrame d (tioEventOut i d) := by
  unfold tioEventOut
  exact EvFrame.ite (EvFrame.ite (Eq.refl _) (tioPulse_frame d i false)) (EvFrame.refl d)

theorem tioEventMask_frame (mask : Nat) : EvFrame d (tioEventMask mask d) :=
  EvFrame.foldl (fun d i => if bit mask i then tioEventOut i d else d)
    (fun d i => EvFrame.ite (tioEventOut_frame d i) (EvFrame.refl d)) _ d

theorem evPresentIo_frame (i : Nat) (h : Held) : EvFrame d (evPresentIo i h d) := by
  have pf0 (l : List Nat) (c : Bool) : EvFrame d (if c then l.foldl (fun d v => presentVec v d) d else d) :=
    EvFrame.ite (EvFrame.foldl (fun d v => presentVec v d) (fun d v => presentVec_frame d v) l d) (EvFrame.refl d)
  have pf1 (e : Device) (v : Nat) (c : Bool) : EvFrame e (if c then msixSend .pf1 v e else e) :=
    EvFrame.ite (msixSend_frame e .pf1 v) (EvFrame.refl e)
  have tio (e : Device) (m : Nat) (c : Bool) : EvFrame e (if c then tioEventMask m e else e) :=
    EvFrame.ite (tioEventMask_frame e m) (EvFrame.refl e)
  exact ((pf0 _ _).trans (pf1 _ _ _)).trans (tio _ _ _)

theorem evLatch_frame (i : Nat) : EvFrame d (evLatch i d) := Eq.refl _

/-- Holding an occurrence changes the events' own fields at most. -/
theorem evHold_frame (i : Nat) (l : List Nat) : EvFrame d (evHold i l d) := EvFrame.ite (Eq.refl _) (Eq.refl _)

theorem tenderReject_frame (c : Nat) : EvFrame d (tenderReject c d) := by
  unfold tenderReject
  dsimp only
  generalize he : ((d.count (tenderCnt c 0x28)).ru F.TENDER_EVT_STATUS_LAST_CHANNEL c).ru F.TENDER_EVT_STATUS_START_REJECT 1 = e
  have h0 : EvFrame d e := by
    subst he
    exact Eq.refl _
  have h1 : EvFrame d (evPresentIo 447 {} (evLatch 447 e)) := (h0.trans (evLatch_frame e 447)).trans (evPresentIo_frame _ _ _)
  exact EvFrame.ite (EvFrame.ite ((h0.trans (evLatch_frame e 447)).trans (evHold_frame _ _ _))
    (EvFrame.ite (h1.trans (Eq.refl _)) h1)) h0

theorem tenderEventStart_frame (c : Nat) : EvFrame d (tenderEventStart c d) := by
  unfold tenderEventStart tenderStart tenderFetch
  exact EvFrame.ite (EvFrame.ite (Eq.refl _) (Eq.refl _)) (tenderReject_frame d c)

/-- What raising an event may change, whichever vectors of its own it presents. -/
theorem evRaiseWith_frame (i : Nat) (l : List Nat) : EvFrame d (evRaiseWith i l d) := by
  unfold evRaiseWith
  refine EvFrame.ite (EvFrame.refl d) (EvFrame.ite ((evLatch_frame d i).trans (evHold_frame _ _ _)) ?_)
  have h : EvFrame d (evPresentIo i { vecs := l } (evLatch i d)) := (evLatch_frame d i).trans (evPresentIo_frame _ i _)
  unfold evPresent
  exact EvFrame.ite (h.trans (tenderEventStart_frame _ _)) h

/-- What raising an event may change. -/
theorem evRaise_frame (i : Nat) : EvFrame d (evRaise i d) := evRaiseWith_frame d i []

end Sys2Proof.Machine
end

