-- ==== Sys2Proof/Laws/Flash.lean ====
section
/-!
SUPPORT. Every operation on the chart flash keeps its canonical form: programming, erasing, a program that fails, and the
persistent region's appends, new heads, compactions and repair.
-/

namespace Sys2Proof.Machine

variable {m : Mem}

theorem wf_flashProgram (a : Nat) (bs : Bytes) (w : Memory.wf 0xFF m = true) :
    Memory.wf 0xFF (flashProgram m a bs) = true := Memory.wf_memPatch 0xFF m a bs w

theorem wf_flashErase (a n : Nat) (w : Memory.wf 0xFF m = true) : Memory.wf 0xFF (flashErase m a n) = true :=
  Memory.wf_filter 0xFF m _ w

theorem wf_sectorOpen (base k g : Nat) (w : Memory.wf 0xFF m = true) : Memory.wf 0xFF (sectorOpen base k g m) = true :=
  wf_flashProgram _ _ (wf_flashProgram _ _ w)

theorem wf_sectorErase (base k n : Nat) (w : Memory.wf 0xFF m = true) : Memory.wf 0xFF (sectorErase base k n m) = true :=
  wf_flashProgram _ _ (wf_flashErase _ _ w)

theorem wf_sectorAppend (base k : Nat) (bs : Bytes) (w : Memory.wf 0xFF m = true) :
    Memory.wf 0xFF (sectorAppend base k bs m) = true := wf_flashProgram _ _ w

/-- A fold of operations that each keep the canonical form keeps it. -/
theorem wf_foldl {α : Type} (f : Mem → α → Mem)
    (h : ∀ m a, Memory.wf 0xFF m = true → Memory.wf 0xFF (f m a) = true) (l : List α) (w : Memory.wf 0xFF m = true) :
    Memory.wf 0xFF (l.foldl f m) = true := by
  induction l generalizing m with
  | nil => exact w
  | cons a l ih => exact ih (h m a w)

theorem wf_compactInto (base head tail : Nat) (w : Memory.wf 0xFF m = true) :
    Memory.wf 0xFF (compactInto base head tail m) = true := by
  refine wf_sectorErase _ _ _ (wf_foldl _ (fun m r w => ?_) _ w)
  dsimp only
  split
  · exact wf_sectorAppend _ _ _ w
  · exact w

theorem wf_newHead (base : Nat) (w : Memory.wf 0xFF m = true) : Memory.wf 0xFF (newHead base m) = true := by
  unfold newHead
  dsimp only
  split
  · exact w
  · split
    · split
      · exact wf_compactInto _ _ _ (wf_sectorOpen _ _ _ w)
      · exact wf_sectorOpen _ _ _ w
    · exact wf_sectorOpen _ _ _ w

theorem wf_ite (c : Bool) {a b : Mem} (wa : Memory.wf 0xFF a = true) (wb : Memory.wf 0xFF b = true) :
    Memory.wf 0xFF (if c then a else b) = true := by
  cases c
  · exact wb
  · exact wa

theorem wf_makeRoom (base n fuel : Nat) (w : Memory.wf 0xFF m = true) :
    Memory.wf 0xFF (makeRoom base n fuel m) = true := by
  induction fuel generalizing m with
  | zero => exact w
  | succ k ih => exact wf_ite _ w (ih (wf_newHead base w))

/-- A persistent record written keeps the flash canonical, committed or not. -/
theorem wf_persistPut (base key : Nat) (payload : Bytes) (commit : Bool) (w : Memory.wf 0xFF m = true) :
    Memory.wf 0xFF (persistPut base key payload commit m) = true := by
  unfold persistPut
  dsimp only
  split
  · split
    · exact wf_sectorAppend _ _ _ (wf_makeRoom _ _ _ w)
    · exact wf_makeRoom _ _ _ w
  · exact wf_makeRoom _ _ _ w

/-- The repair of R512 keeps the flash canonical. -/
theorem wf_persistRepair (base : Nat) (w : Memory.wf 0xFF m = true) :
    Memory.wf 0xFF (persistRepair base m) = true := by
  unfold persistRepair
  dsimp only
  have h := wf_foldl (fun m k => sectorErase base k (match sectorErases m base k with
    | some n => n + 1
    | none => maxErases m base) m) (fun m k w => wf_sectorErase _ _ _ w) (sectorsIn .cutShort m base) w
  split
  · split
    · split
      · exact h
      · exact wf_compactInto _ _ _ h
    · exact h
  · exact h

end Sys2Proof.Machine
end

