-- ==== Sys2Proof/Laws/Kept.lean ====
section
/-!
SUPPORT. What the events, the host queues, the ports and Helm's queues never change: `Device.kept` collects it, and each
operation of theirs has one lemma that says it stays.
-/

namespace Sys2Proof.Machine

/-- The part of a device that no event, host queue or port operation writes. -/
structure Kept where
  st : DevState
  charted : Bool
  raw : Word
  inforce : Tab Nat
  reckon : Reckon
  chart : Chart
  netCfg : NetCfg
  cross : Cross
  cargo : Cargo
  pilot : Pilot
  fix : Fix
  muster : Muster
  core : Core
  boot : Boot
  haltLog : Option HaltLog
  wipeDue : Bool
  tap : Nat

/-- That part of `d`. -/
def Device.kept (d : Device) : Kept :=
  { st := d.st, charted := d.charted, raw := d.raw, inforce := d.inforce, reckon := d.reckon, chart := d.chart,
    netCfg := d.netCfg, cross := d.cross, cargo := d.cargo, pilot := d.pilot, fix := d.fix,
    muster := d.muster, core := d.core, boot := d.boot, haltLog := d.haltLog, wipeDue := d.wipeDue,
    tap := d.tap }

variable (d : Device)

/-- A fold of operations that keep it keeps it. -/
theorem kept_foldl {α : Type} (f : Device → α → Device) (h : ∀ d a, (f d a).kept = d.kept) (l : List α) (d : Device) :
    (l.foldl f d).kept = d.kept := by
  induction l generalizing d with
  | nil => rfl
  | cons a l ih => rw [List.foldl_cons, ih, h]

/-! ### Updates -/

@[simp] theorem ru_kept (f : Fld) (v i j : Nat) : (d.ru f v i j).kept = d.kept := rfl
@[simp] theorem rub_kept (f : Fld) (v : Bool) (i j : Nat) : (d.rub f v i j).kept = d.kept := rfl
@[simp] theorem radd_kept (f : Fld) (n i j : Nat) : (d.radd f n i j).kept = d.kept := rfl
@[simp] theorem rsat_kept (f : Fld) (n i j : Nat) : (d.rsat f n i j).kept = d.kept := rfl
@[simp] theorem ror_kept (f : Fld) (n i j : Nat) : (d.ror f n i j).kept = d.kept := rfl
@[simp] theorem count_kept (o : Nat) : (d.count o).kept = d.kept := rfl
@[simp] theorem countN_kept (o n : Nat) : (d.countN o n).kept = d.kept := rfl
@[simp] theorem countIf_kept (c : Bool) (o : Nat) : (d.countIf c o).kept = d.kept := by cases c <;> rfl
@[simp] theorem emit_kept (e : OutEvent) : (d.emit e).kept = d.kept := rfl
@[simp] theorem setPort_kept (p : Nat) (x : Port) : (d.setPort p x).kept = d.kept := rfl
@[simp] theorem setCls_kept (p c : Nat) (x : ClassQ) : (d.setCls p c x).kept = d.kept := rfl
@[simp] theorem setSq_kept (q : Nat) (x : Sq) : (d.setSq q x).kept = d.kept := rfl
@[simp] theorem setCq_kept (q : Nat) (x : Cq) : (d.setCq q x).kept = d.kept := rfl
@[simp] theorem setStream_kept (q : Nat) (x : Stream) : (d.setStream q x).kept = d.kept := rfl
@[simp] theorem setPin_kept (q : Nat) (x : TioPin) : (d.setPin q x).kept = d.kept := rfl
@[simp] theorem setChan_kept (q : Nat) (x : TenderCh) : (d.setChan q x).kept = d.kept := rfl

/-- Whatever keeps the frame of an event keeps it. -/
theorem EvFrame.kept {d e : Device} (h : EvFrame d e) : e.kept = d.kept := by
  unfold EvFrame at h
  rw [h]
  rfl

/-! ### Events -/

@[simp] theorem emitRead_kept (a n : Nat) : (d.emitRead a n).kept = d.kept := (emitRead_frame d a n).kept
@[simp] theorem emitWrite_kept (a : Nat) (b : Bytes) : (d.emitWrite a b).kept = d.kept := (emitWrite_frame d a b).kept

@[simp] theorem evRaise_kept (i : Nat) : (evRaise i d).kept = d.kept := (evRaise_frame d i).kept

/-- An event under a condition keeps it. -/
@[simp] theorem evRaiseIf_kept (c : Bool) (i : Nat) : (evRaiseIf c i d).kept = d.kept := by cases c <;> simp [evRaiseIf]
@[simp] theorem evRaiseWith_kept (i : Nat) (l : List Nat) : (evRaiseWith i l d).kept = d.kept :=
  (evRaiseWith_frame d i l).kept
@[simp] theorem queueEvent_kept (a b : Fld) (i q : Nat) : (queueEvent a b i q d).kept = d.kept := by simp [queueEvent]
@[simp] theorem helmEvent_kept (a b : Fld) (i p : Nat) : (helmEvent a b i p d).kept = d.kept := by simp [helmEvent]
@[simp] theorem streamEvent_kept (a b : Fld) (i p : Nat) : (streamEvent a b i p d).kept = d.kept := by simp [streamEvent]
@[simp] theorem portStatus_kept (p k : Nat) : (portStatus p k d).kept = d.kept := by simp [portStatus]
@[simp] theorem trimEvent_kept (j : Nat) : (trimEvent j d).kept = d.kept := by simp [trimEvent]

@[simp] theorem msixSend_kept (fn : Fn) (v : Nat) : (msixSend fn v d).kept = d.kept := (msixSend_frame d fn v).kept
@[simp] theorem vecSettle_kept (v : Nat) : (vecSettle v d).kept = d.kept := by
  unfold vecSettle vecFire; dsimp only; split
  · simp only [msixSend_kept]; rfl
  · rfl
/-- Nor does the interrupt decision. -/
@[simp] theorem settle_kept : (settle d).kept = d.kept := by
  unfold settle
  rw [kept_foldl _ (fun d v => vecSettle_kept d v)]
  rfl

/-! ### Host queues -/

@[simp] theorem cqWrite_kept (q : Nat) (b : Bytes) : (cqWrite q b d).kept = d.kept := by
  unfold cqWrite; dsimp only; split <;> simp
@[simp] theorem cqPost_kept (q : Nat) (b : Bytes) : (cqPost q b d).kept = d.kept := by
  unfold cqPost; dsimp only; repeat' split
  all_goals simp
@[simp] theorem sqFetch_kept (q : Nat) : (sqFetch q d).kept = d.kept := by
  unfold sqFetch; dsimp only; repeat' split
  all_goals first | rfl | (rw [emitRead_kept]; rfl)
@[simp] theorem fetchAll_kept : (fetchAll d).kept = d.kept := by
  unfold fetchAll
  rw [kept_foldl]
  intro d e
  exact sqFetch_kept d e.1
@[simp] theorem entryPost_kept (q op cid : Nat) (be : Bool) (st : Nat) (bu : Option Nat) (b : CompBody) :
    (entryPost q op cid be st bu b d).kept = d.kept := by
  unfold entryPost; dsimp only; repeat' split
  all_goals simp
@[simp] theorem sqDeleteDone_kept (q : Nat) : (sqDeleteDone q d).kept = d.kept := by
  unfold sqDeleteDone; dsimp only; repeat' split
  all_goals simp
@[simp] theorem entryComplete_kept (e : EntryRef) (st : Nat) (b : CompBody) : (entryComplete e st b d).kept = d.kept := by
  unfold entryComplete; dsimp only; split <;> simp

/-! ### Ports and Helm's queues -/

@[simp] theorem ctrlSend_kept (p : Nat) (b : Bytes) : (ctrlSend p b d).kept = d.kept := rfl
@[simp] theorem pfcChange_kept (p c o q : Nat) : (pfcChange p c o q d).kept = d.kept := rfl
@[simp] theorem xoffCheck_kept (p : Nat) : (xoffCheck p d).kept = d.kept := by
  unfold xoffCheck; dsimp only; repeat' split
  all_goals simp
@[simp] theorem holdRelease_kept (i : Nat) : (holdRelease i d).kept = d.kept := by
  unfold holdRelease; repeat' split
  · rfl
  · rw [xoffCheck_kept]; rfl
  · rfl
@[simp] theorem holdReleaseOpt_kept (i : Option Nat) : (holdReleaseOpt i d).kept = d.kept := by
  cases i <;> simp [holdReleaseOpt]
@[simp] theorem jobLeft_kept (i : Option Nat) (p : Nat) (r : Stamp) (k : Nat) : (jobLeft i p r k d).kept = d.kept := by
  unfold jobLeft; dsimp only; repeat' split
  all_goals first | rfl | (rw [entryComplete_kept]; rfl)
@[simp] theorem jobRefuse_kept (i : Option Nat) (st : Nat) : (jobRefuse i st d).kept = d.kept := by
  unfold jobRefuse; repeat' split
  all_goals first | rfl | (rw [entryComplete_kept]; rfl)
@[simp] theorem frameRefuse_kept (f : TxFrame) (st : Nat) : (frameRefuse f st d).kept = d.kept := by simp [frameRefuse]
@[simp] theorem downCount_kept (p : Nat) : (downCount p d).kept = d.kept := by simp [downCount]
@[simp] theorem linkDownDiscard_kept (p : Nat) (f : TxFrame) : (linkDownDiscard p f d).kept = d.kept := by
  simp [linkDownDiscard]
@[simp] theorem ownDone_kept (p : Nat) : (ownDone p d).kept = d.kept := by
  unfold ownDone; dsimp only; split <;> simp
@[simp] theorem frameCut_kept (p n : Nat) (b : Bytes) (l : Bool) : (frameCut p n b l d).kept = d.kept := by
  unfold frameCut; dsimp only; split <;> simp
@[simp] theorem lineCut_kept (p : Nat) (l : Bool) : (lineCut p l d).kept = d.kept := by
  unfold lineCut; dsimp only; repeat' split
  all_goals simp
@[simp] theorem genCount_kept (f : TxFrame) : (genCount f d).kept = d.kept := by
  unfold genCount; repeat' split
  all_goals first | rfl | simp
@[simp] theorem helmUnsendable_kept (p o : Nat) (f : TxFrame) : (helmUnsendable p o f d).kept = d.kept := by
  unfold helmUnsendable; dsimp only; split <;> simp
@[simp] theorem helmRoom_kept (p c : Nat) (f : TxFrame) : (helmRoom p c f d).2.kept = d.kept := by
  unfold helmRoom; repeat' split
  all_goals first | rfl | simp
@[simp] theorem helmAgain_kept (o : Offer) : (helmAgain o d).kept = d.kept := by
  unfold helmAgain; split <;> simp
@[simp] theorem helmRetry_kept : (helmRetry d).kept = d.kept := by
  unfold helmRetry; split
  · rfl
  · rw [fetchAll_kept, kept_foldl]
    · rfl
    · intro d o
      exact helmAgain_kept d o
@[simp] theorem helmFlush_kept (p : Nat) : (helmFlush p d).kept = d.kept := by
  unfold helmFlush; dsimp only
  rw [helmRetry_kept, kept_foldl]
  · rfl
  · intro d f
    exact linkDownDiscard_kept d p f
@[simp] theorem peChange_kept (p : Nat) (v : VerifySt) : (peChange p v d).kept = d.kept := by simp [peChange]
@[simp] theorem mergeSend_kept (p : Nat) (r : Bool) : (mergeSend p r d).kept = d.kept := by
  unfold mergeSend mergeOut; dsimp only; repeat' split
  all_goals simp
@[simp] theorem peVerifySend_kept (p : Nat) : (peVerifySend p d).kept = d.kept := by simp [peVerifySend]
@[simp] theorem peInitial_kept (p : Nat) : (peInitial p d).kept = d.kept := by
  unfold peInitial; dsimp only; repeat' split
  all_goals simp

/-! ### Port states -/

@[simp] theorem portUnlock_kept (p : Nat) : (portUnlock p d).kept = d.kept := by simp [portUnlock]
@[simp] theorem portLeaveRun_kept (p : Nat) (st : PortSt) : (portLeaveRun p st d).kept = d.kept := by simp [portLeaveRun]
@[simp] theorem negotiate_kept (p : Nat) : (negotiate p d).kept = d.kept := by
  unfold negotiate; dsimp only; repeat' split
  all_goals rfl
/-- Moving a port changes nothing but registers, events, counters, host queues and ports. -/
@[simp] theorem portTo_kept (p : Nat) (st : PortSt) : (portTo p st d).kept = d.kept := by
  unfold portTo; dsimp only; repeat' split
  all_goals simp
/-- The same of every port that moves at once. -/
theorem portsIdle_kept :
    ((List.range 32).foldl (fun d p => if (d.port p).st = .idle then d else portTo p .idle d) d).kept = d.kept := by
  apply kept_foldl
  intro d p
  split <;> simp
@[simp] theorem tioPulseOff_kept (i : Nat) : (tioPulseOff i d).kept = d.kept := (tioPulseOff_frame d i).kept
@[simp] theorem tioDisarm_kept (i : Nat) : (tioDisarm i d).kept = d.kept := by simp [tioDisarm]
@[simp] theorem tioStop_kept : (tioStop d).kept = d.kept := by
  unfold tioStop
  apply kept_foldl
  intro d i
  split
  · unfold tioOnceOver; split <;> simp
  · simp

end Sys2Proof.Machine
end

