-- ==== Sys2Proof/WellFormed.lean ====
section
/-!
DEFINITION. Which operands a command may carry: indices within the ranges the spec gives its tables, and lengths of the
byte strings it fixes. A meaning never tests this; a sender that keeps to the spec sends nothing else.
The choices it makes stand under notes/assumptions: 4 (DESIGN CHOICE), 34 (DEDUCED).
-/

namespace Sys2Proof.WellFormed

/-- A port (R264). -/
def port (p : Nat) : Bool := decide (p < 32)
/-- A branch. -/
def branch (b : Nat) : Bool := decide (b < 32)
/-- A ferry frame of a train: TRAIN_LAST is at most 15. -/
def frame (k : Nat) : Bool := decide (k < 16)
/-- An ACYCLIC window of a branch. -/
def acyWindow (w : Nat) : Bool := decide (w < 4)
/-- A class. -/
def cls (c : Nat) : Bool := decide (c < 8)
/-- A cycle point. -/
def point (i : Nat) : Bool := decide (i < 64)
/-- A TIO pin. -/
def pin (i : Nat) : Bool := decide (i < 16)
/-- A network reference. -/
def netRef (r : Nat) : Bool := decide (r < 2)
/-- A host queue. -/
def queue (q : Nat) : Bool := decide (q < 4096)
/-- A host queue, or the admin pair as 4,096. -/
def anyQueue (q : Nat) : Bool := decide (q ≤ 4096)
/-- A stream. -/
def stream (s : Nat) : Bool := decide (s < 4096)
/-- A meter. -/
def meter (m : Nat) : Bool := decide (m < 2048)
/-- A rule entry of a bank. -/
def rule (i : Nat) : Bool := decide (i < 16384)
/-- A host Tender channel. -/
def channel (c : Nat) : Bool := decide (16 ≤ c ∧ c < 64)
/-- An event source. -/
def source (i : Nat) : Bool := decide (i < 512)
/-- A vector of a function (R406). -/
def vector (fn : Fn) (v : Nat) : Bool :=
  match fn with
  | .pf0 => decide (v < 2048)
  | .pf1 => decide (v < 32)
/-- The data bytes of a flit (R17). -/
def flit (data : Bytes) : Bool := decide (data.length = 64)
/-- A place within 2 ns of an instant, in units of 2^-16 tick from the earliest on (R233). -/
def skew (k : Nat) : Bool := decide (k < 209715)
/-- A naturally aligned BAR0 address of an access width (R4). -/
def aligned (a : Nat) (w : AccWidth) : Bool :=
  match w with
  | .w32 => decide (a % 4 = 0)
  | .w64 => decide (a % 8 = 0)
/-- INCR, STEP, SET_HI or SET_LO of a timebase, which take only 64-bit writes (R4). -/
def only64 (a : Nat) : Bool := decide (0x40100 ≤ a ∧ a < 0x40400 ∧ 0x08 ≤ a % 0x100 ∧ a % 0x100 < 0x28)
/-- An access that R4 does not permit. -/
def unsupported (a n : Nat) (isWrite : Bool) : Bool :=
  !((decide (n = 8) && decide (a % 8 = 0)) || (decide (n = 4) && decide (a % 4 = 0) && !(isWrite && only64 a)))
/-- A place of Hold that exists. -/
def holdPlace (s : HoldPlace) : Bool :=
  match s with
  | .queued p c _ => port p && cls c
  | .listed p _ | .waiting p _ | .preempted p | .sending p | .assembling p => port p
  | .ferry b _ k => branch b && decide (k < 16)
  | .acyclic b _ => branch b
  | .recirculating i => decide (i < 256)
  | .offered _ | .compass _ | .handed _ => true
/-- An SRAM word that exists. -/
def site (s : MemSite) : Bool :=
  match s with
  | .hold s => holdPlace s
  | .cargoIn a | .cargoOut a => decide (a < 0x400000)
  | .recordCounter o => decide (o < 0x400000 ∧ o % 8 = 0)
  | .recordStamp i => decide (i < 4096)
  | .recordSample i => decide (i < 16384)
  | .state | .queue => true
/-- The 24 sensors of an evaluation interval. -/
def sensors (l : List Sensor) : Bool := decide (l.length = 24)
/-- A part of configuration space. -/
def cfgTarget (fn : Fn) (t : CfgTarget) : Bool :=
  match t with
  | .msixControl _ _ | .ptmControl _ | .powerState _ | .aerStatus | .aerSeverity => true
  | .deviceControl p r => decide (p < 8 ∧ r < 8)
  | .configSpace o => decide (o < 4096 ∧ o % 4 = 0)
  | .msixTable v k => vector fn v && decide (k < 4)
  | .pendingBits o => decide (o < 0x100 ∧ o % 4 = 0)
/-- The cause of a failed read (Table 15-8). -/
def readCause (k : Nat) : Bool := decide (1 ≤ k ∧ k ≤ 4)
/-- What a read of host memory returned. -/
def hostRead (r : HostRead) : Bool := match r with | .ok _ => true | .failed k => readCause k
/-- A Tender channel of the crossing engine and Cargo (R454). -/
def reservedChannel (c : Nat) : Bool := decide (c < 16)
/-- A descriptor of the Tender (R458). -/
def descriptor (b : Bytes) : Bool := decide (b.length = 64)
/-- An SMBus sensor command (Table 18-8). -/
def sensorCode (c : BitVec 8) : Bool := decide (0x10 ≤ c.toNat ∧ c.toNat ≤ 0x27)
/-- An SMBus command that Table 18-8 does not list. -/
def unlistedCode (c : BitVec 8) : Bool := !sensorCode c && decide (7 ≤ c.toNat)
/-- A TAP code without a row of its own: a debug instruction, or one of the codes that select BYPASS (R540). -/
def debugCode (c : BitVec 8) : Bool := !([0x00, 0x01, 0x02, 0x05, 0x06, 0x07, 0x08, 0xFF] : List Nat).contains c.toNat

end Sys2Proof.WellFormed

namespace Sys2Proof

open WellFormed in
/-- Whether the operands of a command are ones that its sender may give. -/
def Instr.wf : Instr → Bool
  | .pcieConfigWrite fn t _ => cfgTarget fn t
  | .msixUnmask fn v => vector fn v
  | .unsupportedAccess _ a n w => unsupported a n w
  | .regWrite _ a w _ | .rcRead _ a w => aligned a w
  | .flitReceive _ f _ => flit f.sent && flit f.data
  | .memUncorrectable _ s => site s
  | .ferryAssembled b k | .ferryLaunch b k => branch b && frame k
  | .ferryReturn p | .skiffReturn p | .pilotCutOff p _ | .violationLimitReached p | .fenceRemainExpire p | .forceFence p
  | .unfence p | .nodeAcyclicRx p | .ownAcyclicReturn p | .musterReturn p | .musterWindowExpire p | .portRxFrame p _
  | .fixRx p | .coldstartRx p | .frameTxStart p _
  | .frameTxEnd p | .preempt p _ | .gateChange p | .gateConfigChange p | .gateCancel p | .gateChangeTime p
  | .portLockAcquired p _ | .portLinkFault p _ | .portRecoveryTimeout p | .anFail p | .portRestart p | .portTestStart p
  | .portTestStop p | .portSleep p | .portWake p | .wakePatternMatch p _ | .wakeSignal p | .pauseFrameRx p _
  | .pfcFrameRx p _ | .xoffRepeat p | .verifyTimeout p | .verifyRestart p
  | .peCfgWrite p _ | .patternLock p _ _ => port p
  | .verifyFrameRx f | .respondFrameRx f => port f.port
  | .fixFrameSend p k | .coldstartSend p k | .timedLaunch p k => port p && skew k
  | .preemptAtClose p c _ | .shaperCfgWrite p c _ | .pauseTimerExpire p c => port p && cls c
  | .skiffLaunch b _ | .branchDeadline b _ _ | .rearm b | .musterAccept b => branch b
  | .acyclicLaunch b w => branch b && acyWindow w
  | .cyclePointFire i => point i
  | .tioModeWrite i _ | .tioArm i | .tioDisarm i | .beaconEdge i | .tioPulseEnd i | .tioCaptureEdge i _ => pin i
  | .refclkNetLost r | .refclkNetReturn r => netRef r
  | .frerResetTimeout s | .streamCfgWrite s _ _ | .genReset s | .rcvyReset s => stream s
  | .ruleWrite _ i | .ruleRead _ i | .ruleInvalidate _ i => rule i
  | .meterCfgWrite m _ => meter m
  | .trimEvalInterval l => sensors l
  | .sqDoorbell q | .cqDoorbell q | .sqProdWrite q _ | .cqConsWrite q _ | .nop q => anyQueue q
  | .unitFetchDone q r => anyQueue q && hostRead r
  | .sqInvalidate q | .invalidateDone q | .rxPost q | .tenderRun q => queue q
  | .send q r | .acyclicSend q r => queue q && hostRead r
  | .sendFrameFetched q _ r => queue q && hostRead r
  | .tenderDescriptorFetched c b _ _ => channel c && descriptor b
  | .tenderReadComplete c _ _ _ | .barrierReadDone c | .tenderAbort c | .tenderClear c => channel c
  | .tenderReadError c _ k => channel c && readCause k
  | .snapshotConfirmed c => reservedChannel c
  | .handoverTransferFail _ _ f => readCause f.cause
  | .msixHoldoffExpire v | .eventVecWrite v _ => vector .pf0 v
  | .eventRouteWrite i _ => source i
  | .smbReadSensor c => sensorCode c
  | .smbReadUnlisted c _ => unlistedCode c
  | .debugInstruction c => debugCode c
  | .powerOn | .resetAssert _ _ | .resetRelease _ | .wipeComplete _ | .perstAssert _ | .perstRelease | .flrPf0 | .flrPf1
  | .busMasterEnableChange _ _ | .fabricFailLimit _ | .haltLogWrite | .crossingBoundary _ _ | .cargoErrLimit
  | .returnWindowClose _ | .claimSpare | .releaseSpare | .fetchPoint | .outSeqReadDone _ | .fetchComplete _
  | .attach _ | .detach | .musterTimeout | .listenTimeout
  | .backoffTimeout | .confirmCountReached | .integrateCountReached | .sourceLossLimitReached | .regainCountReached
  | .snapshotTake | .reckonIncrWrite _ _ | .reckonStepWrite _ _ | .reckonSetHiWrite _ _ | .reckonSetLoWrite _ _
  | .deferredFold _ | .servoAlive _ | .holdoverTimeout _ | .primaryArm _ _ | .primaryDisarm _ _ | .primarySwitch
  | .refclkTimeLost | .refclkTimeReturn | .ppsInEdge | .ptmTrigger | .ptmAutoInterval | .ptmDialogDone _ _ | .ptmTimeout
  | .strecConsWrite _ | .sampleRound | .recircPass2 | .bankSwap _ | .missActionWrite _ _ | .avsTransactionDone _ _
  | .avsFaultLimit | .relaxLimit | .headingSelect _ | .adminEnable _ | .createCq | .deleteCq | .createSq | .deleteSq
  | .testStart | .testEnd | .flashHeaderReadDone | .slotReadDone _ | .slotVerifyDone | .chartCheckDone
  | .retiredEraseDone | .stageBegin _ | .stageWrite _ _ | .stageVerify | .slotInvalidate _ | .persistWrite _ _
  | .persistRead | .lcProvision _ _ | .lcField _ | .lcRetire _ _ | .warmReset _ | .smbReadStatus | .smbReadTmax
  | .smbReadPower | .smbReadCurrent | .smbReadVoltage | .smbReadHeading | .smbReadCrossing | .smbWrite _ _
  | .smbAlertResponse | .extest | .idcode | .samplePreload | .extestPulse | .extestTrain | .highz | .clamp | .bypass
  | .powerDown | .pcieLinkUp => true

end Sys2Proof
end

