-- ==== Sys2Proof/Laws/PerInstr.lean ====
section
/-!
SUPPORT. What holds of every command as syntax, shown constructor by constructor.
-/

namespace Sys2Proof.Laws.Sendable

/-- Well-formedness shuts no row of the table out: some command of this row is well formed. -/
def Statement (i : Instr) : Prop := ∃ j : Instr, j.wf = true ∧ j.ctorIdx = i.ctorIdx

theorem powerOn : Statement (.powerOn) := ⟨.powerOn, by decide, rfl⟩
theorem resetAssert (pin : ResetPin) (lowNs : Nat) : Statement (.resetAssert pin lowNs) :=
    ⟨.resetAssert .pwrGood 0, by decide, rfl⟩
theorem resetRelease (ref10MHz : Bool) : Statement (.resetRelease ref10MHz) := ⟨.resetRelease false, by decide, rfl⟩
theorem wipeComplete (flash : Sfdp) : Statement (.wipeComplete flash) :=
    ⟨.wipeComplete { jedecId := 0, sizeLog2 := 0 }, by decide, rfl⟩
theorem perstAssert (lowNs : Nat) : Statement (.perstAssert lowNs) := ⟨.perstAssert 0, by decide, rfl⟩
theorem perstRelease : Statement (.perstRelease) := ⟨.perstRelease, by decide, rfl⟩
theorem flrPf0 : Statement (.flrPf0) := ⟨.flrPf0, by decide, rfl⟩
theorem flrPf1 : Statement (.flrPf1) := ⟨.flrPf1, by decide, rfl⟩
theorem busMasterEnableChange (fn : Fn) (enable : Bool) : Statement (.busMasterEnableChange fn enable) :=
    ⟨.busMasterEnableChange .pf0 false, by decide, rfl⟩
theorem pcieConfigWrite (fn : Fn) (target : CfgTarget) (value : BitVec 32) : Statement (.pcieConfigWrite fn target value) :=
    ⟨.pcieConfigWrite .pf0 (.ptmControl false) 0, by decide, rfl⟩
theorem msixUnmask (fn : Fn) (v : Nat) : Statement (.msixUnmask fn v) := ⟨.msixUnmask .pf0 0, by decide, rfl⟩
theorem unsupportedAccess (fn : Fn) (addr : Nat) (bytes : Nat) (isWrite : Bool) :
    Statement (.unsupportedAccess fn addr bytes isWrite) :=
    ⟨.unsupportedAccess .pf0 0 3 false, by decide, rfl⟩
theorem regWrite (fn : Fn) (addr : Nat) (w : AccWidth) (value : Word) : Statement (.regWrite fn addr w value) :=
    ⟨.regWrite .pf0 0 .w32 0, by decide, rfl⟩
theorem rcRead (fn : Fn) (addr : Nat) (w : AccWidth) : Statement (.rcRead fn addr w) :=
    ⟨.rcRead .pf0 0 .w32, by decide, rfl⟩
theorem flitReceive (link : Nat) (flit : Flit) (crc : BitVec 16) : Statement (.flitReceive link flit crc) :=
    ⟨.flitReceive 0 { sent := List.replicate 64 0, data := List.replicate 64 0 } 0, by decide, rfl⟩
theorem fabricFailLimit (link : Nat) : Statement (.fabricFailLimit link) := ⟨.fabricFailLimit 0, by decide, rfl⟩
theorem memUncorrectable (kind : EccKind) (site : MemSite) : Statement (.memUncorrectable kind site) :=
    ⟨.memUncorrectable .singleBit .state, by decide, rfl⟩
theorem haltLogWrite : Statement (.haltLogWrite) := ⟨.haltLogWrite, by decide, rfl⟩
theorem crossingBoundary (fixDone : Word) (fuseOk : Bool) : Statement (.crossingBoundary fixDone fuseOk) :=
    ⟨.crossingBoundary 0 false, by decide, rfl⟩
theorem cargoErrLimit : Statement (.cargoErrLimit) := ⟨.cargoErrLimit, by decide, rfl⟩
theorem ferryAssembled (b : Nat) (k : Nat) : Statement (.ferryAssembled b k) := ⟨.ferryAssembled 0 0, by decide, rfl⟩
theorem ferryLaunch (b : Nat) (k : Nat) : Statement (.ferryLaunch b k) := ⟨.ferryLaunch 0 0, by decide, rfl⟩
theorem ferryReturn (p : Nat) : Statement (.ferryReturn p) := ⟨.ferryReturn 0, by decide, rfl⟩
theorem skiffReturn (p : Nat) : Statement (.skiffReturn p) := ⟨.skiffReturn 0, by decide, rfl⟩
theorem returnWindowClose (id : Nat) : Statement (.returnWindowClose id) := ⟨.returnWindowClose 0, by decide, rfl⟩
theorem skiffLaunch (b : Nat) (ready : Option Word) : Statement (.skiffLaunch b ready) :=
    ⟨.skiffLaunch 0 none, by decide, rfl⟩
theorem branchDeadline (b : Nat) (mergeDone : Word) (lateMerges : List LateMerge) :
    Statement (.branchDeadline b mergeDone lateMerges) :=
    ⟨.branchDeadline 0 0 [], by decide, rfl⟩
theorem cyclePointFire (i : Nat) : Statement (.cyclePointFire i) := ⟨.cyclePointFire 0, by decide, rfl⟩
theorem claimSpare : Statement (.claimSpare) := ⟨.claimSpare, by decide, rfl⟩
theorem releaseSpare : Statement (.releaseSpare) := ⟨.releaseSpare, by decide, rfl⟩
theorem acyclicLaunch (b : Nat) (w : Nat) : Statement (.acyclicLaunch b w) := ⟨.acyclicLaunch 0 0, by decide, rfl⟩
theorem fetchPoint : Statement (.fetchPoint) := ⟨.fetchPoint, by decide, rfl⟩
theorem outSeqReadDone (value : Word) : Statement (.outSeqReadDone value) := ⟨.outSeqReadDone 0, by decide, rfl⟩
theorem fetchComplete (image : Bytes) : Statement (.fetchComplete image) := ⟨.fetchComplete [], by decide, rfl⟩
theorem snapshotConfirmed (c : Nat) : Statement (.snapshotConfirmed c) :=
    ⟨.snapshotConfirmed 0, by decide, rfl⟩
theorem handoverTransferFail (snapshot : Bool) (addr : Word) (fault : TransferFault) :
    Statement (.handoverTransferFail snapshot addr fault) :=
    ⟨.handoverTransferFail false 0 { isMeta := false, cause := 1 }, by decide, rfl⟩
theorem attach (alsoDetach : Bool) : Statement (.attach alsoDetach) := ⟨.attach false, by decide, rfl⟩
theorem detach : Statement (.detach) := ⟨.detach, by decide, rfl⟩
theorem rearm (b : Nat) : Statement (.rearm b) := ⟨.rearm 0, by decide, rfl⟩
theorem portRxFrame (p : Nat) (f : RxFrame) : Statement (.portRxFrame p f) :=
    ⟨.portRxFrame 0 { bytes := [], island := { count := 0 } }, by decide, rfl⟩
theorem pilotCutOff (p : Nat) (f : RxFrame) : Statement (.pilotCutOff p f) :=
    ⟨.pilotCutOff 0 { bytes := [], island := { count := 0 } }, by decide, rfl⟩
theorem violationLimitReached (p : Nat) : Statement (.violationLimitReached p) :=
    ⟨.violationLimitReached 0, by decide, rfl⟩
theorem fenceRemainExpire (p : Nat) : Statement (.fenceRemainExpire p) := ⟨.fenceRemainExpire 0, by decide, rfl⟩
theorem forceFence (p : Nat) : Statement (.forceFence p) := ⟨.forceFence 0, by decide, rfl⟩
theorem unfence (p : Nat) : Statement (.unfence p) := ⟨.unfence 0, by decide, rfl⟩
theorem nodeAcyclicRx (p : Nat) : Statement (.nodeAcyclicRx p) := ⟨.nodeAcyclicRx 0, by decide, rfl⟩
theorem ownAcyclicReturn (p : Nat) : Statement (.ownAcyclicReturn p) := ⟨.ownAcyclicReturn 0, by decide, rfl⟩
theorem musterReturn (p : Nat) : Statement (.musterReturn p) := ⟨.musterReturn 0, by decide, rfl⟩
theorem musterWindowExpire (p : Nat) : Statement (.musterWindowExpire p) := ⟨.musterWindowExpire 0, by decide, rfl⟩
theorem musterTimeout : Statement (.musterTimeout) := ⟨.musterTimeout, by decide, rfl⟩
theorem musterAccept (b : Nat) : Statement (.musterAccept b) := ⟨.musterAccept 0, by decide, rfl⟩
theorem fixFrameSend (p skew : Nat) : Statement (.fixFrameSend p skew) := ⟨.fixFrameSend 0 0, by decide, rfl⟩
theorem fixRx (p : Nat) : Statement (.fixRx p) := ⟨.fixRx 0, by decide, rfl⟩
theorem coldstartRx (p : Nat) : Statement (.coldstartRx p) := ⟨.coldstartRx 0, by decide, rfl⟩
theorem listenTimeout : Statement (.listenTimeout) := ⟨.listenTimeout, by decide, rfl⟩
theorem coldstartSend (p skew : Nat) : Statement (.coldstartSend p skew) := ⟨.coldstartSend 0 0, by decide, rfl⟩
theorem backoffTimeout : Statement (.backoffTimeout) := ⟨.backoffTimeout, by decide, rfl⟩
theorem confirmCountReached : Statement (.confirmCountReached) := ⟨.confirmCountReached, by decide, rfl⟩
theorem integrateCountReached : Statement (.integrateCountReached) := ⟨.integrateCountReached, by decide, rfl⟩
theorem sourceLossLimitReached : Statement (.sourceLossLimitReached) := ⟨.sourceLossLimitReached, by decide, rfl⟩
theorem regainCountReached : Statement (.regainCountReached) := ⟨.regainCountReached, by decide, rfl⟩
theorem snapshotTake : Statement (.snapshotTake) := ⟨.snapshotTake, by decide, rfl⟩
theorem reckonIncrWrite (d : Dom) (value : Word) : Statement (.reckonIncrWrite d value) :=
    ⟨.reckonIncrWrite .a 0, by decide, rfl⟩
theorem reckonStepWrite (d : Dom) (value : Word) : Statement (.reckonStepWrite d value) :=
    ⟨.reckonStepWrite .a 0, by decide, rfl⟩
theorem reckonSetHiWrite (d : Dom) (value : Word) : Statement (.reckonSetHiWrite d value) :=
    ⟨.reckonSetHiWrite .a 0, by decide, rfl⟩
theorem reckonSetLoWrite (d : Dom) (value : Word) : Statement (.reckonSetLoWrite d value) :=
    ⟨.reckonSetLoWrite .a 0, by decide, rfl⟩
theorem deferredFold (d : Dom) : Statement (.deferredFold d) := ⟨.deferredFold .a, by decide, rfl⟩
theorem servoAlive (d : Dom) : Statement (.servoAlive d) := ⟨.servoAlive .a, by decide, rfl⟩
theorem holdoverTimeout (d : Dom) : Statement (.holdoverTimeout d) := ⟨.holdoverTimeout .a, by decide, rfl⟩
theorem primaryArm (target : Bool) (auto : Bool) : Statement (.primaryArm target auto) :=
    ⟨.primaryArm false false, by decide, rfl⟩
theorem primaryDisarm (target : Bool) (auto : Bool) : Statement (.primaryDisarm target auto) :=
    ⟨.primaryDisarm false false, by decide, rfl⟩
theorem primarySwitch : Statement (.primarySwitch) := ⟨.primarySwitch, by decide, rfl⟩
theorem refclkTimeLost : Statement (.refclkTimeLost) := ⟨.refclkTimeLost, by decide, rfl⟩
theorem refclkTimeReturn : Statement (.refclkTimeReturn) := ⟨.refclkTimeReturn, by decide, rfl⟩
theorem ppsInEdge : Statement (.ppsInEdge) := ⟨.ppsInEdge, by decide, rfl⟩
theorem ptmTrigger : Statement (.ptmTrigger) := ⟨.ptmTrigger, by decide, rfl⟩
theorem ptmAutoInterval : Statement (.ptmAutoInterval) := ⟨.ptmAutoInterval, by decide, rfl⟩
theorem ptmDialogDone (master : Word) (resp : PtmResponse) : Statement (.ptmDialogDone master resp) :=
    ⟨.ptmDialogDone 0 { stamp := { count := 0 }, turn := 0 }, by decide, rfl⟩
theorem ptmTimeout : Statement (.ptmTimeout) := ⟨.ptmTimeout, by decide, rfl⟩
theorem strecConsWrite (value : BitVec 32) : Statement (.strecConsWrite value) := ⟨.strecConsWrite 0, by decide, rfl⟩
theorem tioModeWrite (i : Nat) (value : Word) : Statement (.tioModeWrite i value) :=
    ⟨.tioModeWrite 0 0, by decide, rfl⟩
theorem tioArm (i : Nat) : Statement (.tioArm i) := ⟨.tioArm 0, by decide, rfl⟩
theorem tioDisarm (i : Nat) : Statement (.tioDisarm i) := ⟨.tioDisarm 0, by decide, rfl⟩
theorem beaconEdge (i : Nat) : Statement (.beaconEdge i) := ⟨.beaconEdge 0, by decide, rfl⟩
theorem tioPulseEnd (i : Nat) : Statement (.tioPulseEnd i) := ⟨.tioPulseEnd 0, by decide, rfl⟩
theorem tioCaptureEdge (i : Nat) (level : Bool) : Statement (.tioCaptureEdge i level) :=
    ⟨.tioCaptureEdge 0 false, by decide, rfl⟩
theorem timedLaunch (p skew : Nat) : Statement (.timedLaunch p skew) := ⟨.timedLaunch 0 0, by decide, rfl⟩
theorem frameTxStart (p : Nat) (block : BlockStamp) : Statement (.frameTxStart p block) :=
    ⟨.frameTxStart 0 { island := { count := 0 } }, by decide, rfl⟩
theorem frameTxEnd (p : Nat) : Statement (.frameTxEnd p) := ⟨.frameTxEnd 0, by decide, rfl⟩
theorem preempt (p : Nat) (frac : BitVec 16) : Statement (.preempt p frac) := ⟨.preempt 0 0, by decide, rfl⟩
theorem preemptAtClose (p c : Nat) (frac : BitVec 16) : Statement (.preemptAtClose p c frac) :=
    ⟨.preemptAtClose 0 0 0, by decide, rfl⟩
theorem gateChange (p : Nat) : Statement (.gateChange p) := ⟨.gateChange 0, by decide, rfl⟩
theorem gateConfigChange (p : Nat) : Statement (.gateConfigChange p) := ⟨.gateConfigChange 0, by decide, rfl⟩
theorem gateCancel (p : Nat) : Statement (.gateCancel p) := ⟨.gateCancel 0, by decide, rfl⟩
theorem gateChangeTime (p : Nat) : Statement (.gateChangeTime p) := ⟨.gateChangeTime 0, by decide, rfl⟩
theorem shaperCfgWrite (p : Nat) (c : Nat) (value : Word) : Statement (.shaperCfgWrite p c value) :=
    ⟨.shaperCfgWrite 0 0 0, by decide, rfl⟩
theorem sampleRound : Statement (.sampleRound) := ⟨.sampleRound, by decide, rfl⟩
theorem portLockAcquired (p : Nat) (trained : Bool) : Statement (.portLockAcquired p trained) :=
    ⟨.portLockAcquired 0 false, by decide, rfl⟩
theorem portLinkFault (p : Nat) (cause : LinkLoss) : Statement (.portLinkFault p cause) :=
    ⟨.portLinkFault 0 .lossOfSignal, by decide, rfl⟩
theorem portRecoveryTimeout (p : Nat) : Statement (.portRecoveryTimeout p) := ⟨.portRecoveryTimeout 0, by decide, rfl⟩
theorem anFail (p : Nat) : Statement (.anFail p) := ⟨.anFail 0, by decide, rfl⟩
theorem refclkNetLost (r : Nat) : Statement (.refclkNetLost r) := ⟨.refclkNetLost 0, by decide, rfl⟩
theorem refclkNetReturn (r : Nat) : Statement (.refclkNetReturn r) := ⟨.refclkNetReturn 0, by decide, rfl⟩
theorem portRestart (p : Nat) : Statement (.portRestart p) := ⟨.portRestart 0, by decide, rfl⟩
theorem portTestStart (p : Nat) : Statement (.portTestStart p) := ⟨.portTestStart 0, by decide, rfl⟩
theorem portTestStop (p : Nat) : Statement (.portTestStop p) := ⟨.portTestStop 0, by decide, rfl⟩
theorem portSleep (p : Nat) : Statement (.portSleep p) := ⟨.portSleep 0, by decide, rfl⟩
theorem portWake (p : Nat) : Statement (.portWake p) := ⟨.portWake 0, by decide, rfl⟩
theorem wakePatternMatch (p : Nat) (frame : Bytes) : Statement (.wakePatternMatch p frame) :=
    ⟨.wakePatternMatch 0 [], by decide, rfl⟩
theorem wakeSignal (p : Nat) : Statement (.wakeSignal p) := ⟨.wakeSignal 0, by decide, rfl⟩
theorem pauseFrameRx (p : Nat) (f : RxFrame) : Statement (.pauseFrameRx p f) :=
    ⟨.pauseFrameRx 0 { bytes := [], island := { count := 0 } }, by decide, rfl⟩
theorem pfcFrameRx (p : Nat) (f : RxFrame) : Statement (.pfcFrameRx p f) :=
    ⟨.pfcFrameRx 0 { bytes := [], island := { count := 0 } }, by decide, rfl⟩
theorem pauseTimerExpire (p : Nat) (c : Nat) : Statement (.pauseTimerExpire p c) :=
    ⟨.pauseTimerExpire 0 0, by decide, rfl⟩
theorem xoffRepeat (p : Nat) : Statement (.xoffRepeat p) := ⟨.xoffRepeat 0, by decide, rfl⟩
theorem verifyFrameRx (f : MergeFrame) : Statement (.verifyFrameRx f) :=
    ⟨.verifyFrameRx { port := 0, stamp := { island := { count := 0 } } }, by decide, rfl⟩
theorem respondFrameRx (f : MergeFrame) : Statement (.respondFrameRx f) :=
    ⟨.respondFrameRx { port := 0, stamp := { island := { count := 0 } } }, by decide, rfl⟩
theorem verifyTimeout (p : Nat) : Statement (.verifyTimeout p) := ⟨.verifyTimeout 0, by decide, rfl⟩
theorem verifyRestart (p : Nat) : Statement (.verifyRestart p) := ⟨.verifyRestart 0, by decide, rfl⟩
theorem peCfgWrite (p : Nat) (value : Word) : Statement (.peCfgWrite p value) := ⟨.peCfgWrite 0 0, by decide, rfl⟩
theorem frerResetTimeout (s : Nat) : Statement (.frerResetTimeout s) := ⟨.frerResetTimeout 0, by decide, rfl⟩
theorem streamCfgWrite (s : Nat) (recovery : Bool) (value : Word) : Statement (.streamCfgWrite s recovery value) :=
    ⟨.streamCfgWrite 0 false 0, by decide, rfl⟩
theorem genReset (s : Nat) : Statement (.genReset s) := ⟨.genReset 0, by decide, rfl⟩
theorem rcvyReset (s : Nat) : Statement (.rcvyReset s) := ⟨.rcvyReset 0, by decide, rfl⟩
theorem recircPass2 : Statement (.recircPass2) := ⟨.recircPass2, by decide, rfl⟩
theorem bankSwap (target : Bool) : Statement (.bankSwap target) := ⟨.bankSwap false, by decide, rfl⟩
theorem ruleWrite (bank : Bool) (index : Nat) : Statement (.ruleWrite bank index) :=
    ⟨.ruleWrite false 0, by decide, rfl⟩
theorem ruleRead (bank : Bool) (index : Nat) : Statement (.ruleRead bank index) := ⟨.ruleRead false 0, by decide, rfl⟩
theorem ruleInvalidate (bank : Bool) (index : Nat) : Statement (.ruleInvalidate bank index) :=
    ⟨.ruleInvalidate false 0, by decide, rfl⟩
theorem missActionWrite (bank : Bool) (value : Word) : Statement (.missActionWrite bank value) :=
    ⟨.missActionWrite false 0, by decide, rfl⟩
theorem meterCfgWrite (m : Nat) (value : Word) : Statement (.meterCfgWrite m value) :=
    ⟨.meterCfgWrite 0 0, by decide, rfl⟩
theorem trimEvalInterval (sensors : List Sensor) : Statement (.trimEvalInterval sensors) :=
    ⟨.trimEvalInterval (List.replicate 24 { valid := false, tempC := 0 }), by decide, rfl⟩
theorem avsTransactionDone (acked : Bool) (currentDa : Nat) : Statement (.avsTransactionDone acked currentDa) :=
    ⟨.avsTransactionDone false 0, by decide, rfl⟩
theorem avsFaultLimit : Statement (.avsFaultLimit) := ⟨.avsFaultLimit, by decide, rfl⟩
theorem relaxLimit : Statement (.relaxLimit) := ⟨.relaxLimit, by decide, rfl⟩
theorem headingSelect (v : BitVec 3) : Statement (.headingSelect v) := ⟨.headingSelect 0, by decide, rfl⟩
theorem sqDoorbell (q : Nat) : Statement (.sqDoorbell q) := ⟨.sqDoorbell 0, by decide, rfl⟩
theorem cqDoorbell (q : Nat) : Statement (.cqDoorbell q) := ⟨.cqDoorbell 0, by decide, rfl⟩
theorem sqProdWrite (q : Nat) (value : BitVec 32) : Statement (.sqProdWrite q value) :=
    ⟨.sqProdWrite 0 0, by decide, rfl⟩
theorem cqConsWrite (q : Nat) (value : BitVec 32) : Statement (.cqConsWrite q value) :=
    ⟨.cqConsWrite 0 0, by decide, rfl⟩
theorem sqInvalidate (q : Nat) : Statement (.sqInvalidate q) := ⟨.sqInvalidate 0, by decide, rfl⟩
theorem invalidateDone (q : Nat) : Statement (.invalidateDone q) := ⟨.invalidateDone 0, by decide, rfl⟩
theorem unitFetchDone (q : Nat) (r : HostRead) : Statement (.unitFetchDone q r) :=
    ⟨.unitFetchDone 0 (.ok []), by decide, rfl⟩
theorem nop (q : Nat) : Statement (.nop q) := ⟨.nop 0, by decide, rfl⟩
theorem send (q : Nat) (sgList : HostRead) : Statement (.send q sgList) := ⟨.send 0 (.ok []), by decide, rfl⟩
theorem sendFrameFetched (q : Nat) (head : Bytes) (frame : HostRead) : Statement (.sendFrameFetched q head frame) :=
    ⟨.sendFrameFetched 0 [] (.ok []), by decide, rfl⟩
theorem rxPost (q : Nat) : Statement (.rxPost q) := ⟨.rxPost 0, by decide, rfl⟩
theorem acyclicSend (q : Nat) (data : HostRead) : Statement (.acyclicSend q data) :=
    ⟨.acyclicSend 0 (.ok []), by decide, rfl⟩
theorem tenderRun (q : Nat) : Statement (.tenderRun q) := ⟨.tenderRun 0, by decide, rfl⟩
theorem adminEnable (value : Word) : Statement (.adminEnable value) := ⟨.adminEnable 0, by decide, rfl⟩
theorem createCq : Statement (.createCq) := ⟨.createCq, by decide, rfl⟩
theorem deleteCq : Statement (.deleteCq) := ⟨.deleteCq, by decide, rfl⟩
theorem createSq : Statement (.createSq) := ⟨.createSq, by decide, rfl⟩
theorem deleteSq : Statement (.deleteSq) := ⟨.deleteSq, by decide, rfl⟩
theorem testStart : Statement (.testStart) := ⟨.testStart, by decide, rfl⟩
theorem testEnd : Statement (.testEnd) := ⟨.testEnd, by decide, rfl⟩
theorem tenderDescriptorFetched (c : Nat) (desc : Bytes) (srcList : Bytes) (dstList : Bytes) :
    Statement (.tenderDescriptorFetched c desc srcList dstList) :=
    ⟨.tenderDescriptorFetched 16 (List.replicate 64 0) [] [], by decide, rfl⟩
theorem tenderReadComplete (c : Nat) (dst : Bool) (offset : Nat) (data : Bytes) :
    Statement (.tenderReadComplete c dst offset data) :=
    ⟨.tenderReadComplete 16 false 0 [], by decide, rfl⟩
theorem tenderReadError (c : Nat) (what : TenderReadKind) (cause : Nat) : Statement (.tenderReadError c what cause) :=
    ⟨.tenderReadError 16 .desc 1, by decide, rfl⟩
theorem barrierReadDone (c : Nat) : Statement (.barrierReadDone c) := ⟨.barrierReadDone 16, by decide, rfl⟩
theorem tenderAbort (c : Nat) : Statement (.tenderAbort c) := ⟨.tenderAbort 16, by decide, rfl⟩
theorem tenderClear (c : Nat) : Statement (.tenderClear c) := ⟨.tenderClear 16, by decide, rfl⟩
theorem msixHoldoffExpire (v : Nat) : Statement (.msixHoldoffExpire v) := ⟨.msixHoldoffExpire 0, by decide, rfl⟩
theorem eventRouteWrite (i : Nat) (value : Word) : Statement (.eventRouteWrite i value) :=
    ⟨.eventRouteWrite 0 0, by decide, rfl⟩
theorem eventVecWrite (v : Nat) (value : Word) : Statement (.eventVecWrite v value) :=
    ⟨.eventVecWrite 0 0, by decide, rfl⟩
theorem flashHeaderReadDone : Statement (.flashHeaderReadDone) := ⟨.flashHeaderReadDone, by decide, rfl⟩
theorem slotReadDone (readOk : Bool) : Statement (.slotReadDone readOk) := ⟨.slotReadDone false, by decide, rfl⟩
theorem slotVerifyDone : Statement (.slotVerifyDone) := ⟨.slotVerifyDone, by decide, rfl⟩
theorem chartCheckDone : Statement (.chartCheckDone) := ⟨.chartCheckDone, by decide, rfl⟩
theorem retiredEraseDone : Statement (.retiredEraseDone) := ⟨.retiredEraseDone, by decide, rfl⟩
theorem stageBegin (flashOk : Bool) : Statement (.stageBegin flashOk) := ⟨.stageBegin false, by decide, rfl⟩
theorem stageWrite (data : HostRead) (flashOk : Bool) : Statement (.stageWrite data flashOk) :=
    ⟨.stageWrite (.ok []) false, by decide, rfl⟩
theorem stageVerify : Statement (.stageVerify) := ⟨.stageVerify, by decide, rfl⟩
theorem slotInvalidate (flashOk : Bool) : Statement (.slotInvalidate flashOk) :=
    ⟨.slotInvalidate false, by decide, rfl⟩
theorem persistWrite (data : HostRead) (flashOk : Bool) : Statement (.persistWrite data flashOk) :=
    ⟨.persistWrite (.ok []) false, by decide, rfl⟩
theorem persistRead : Statement (.persistRead) := ⟨.persistRead, by decide, rfl⟩
theorem lcProvision (keyHash : HostRead) (fuseOk : Bool) : Statement (.lcProvision keyHash fuseOk) :=
    ⟨.lcProvision (.ok []) false, by decide, rfl⟩
theorem lcField (fuseOk : Bool) : Statement (.lcField fuseOk) := ⟨.lcField false, by decide, rfl⟩
theorem lcRetire (auth : HostRead) (fuseOk : Bool) : Statement (.lcRetire auth fuseOk) :=
    ⟨.lcRetire (.ok []) false, by decide, rfl⟩
theorem warmReset (value : Word) : Statement (.warmReset value) := ⟨.warmReset 0, by decide, rfl⟩
theorem smbReadStatus : Statement (.smbReadStatus) := ⟨.smbReadStatus, by decide, rfl⟩
theorem smbReadTmax : Statement (.smbReadTmax) := ⟨.smbReadTmax, by decide, rfl⟩
theorem smbReadPower : Statement (.smbReadPower) := ⟨.smbReadPower, by decide, rfl⟩
theorem smbReadCurrent : Statement (.smbReadCurrent) := ⟨.smbReadCurrent, by decide, rfl⟩
theorem smbReadVoltage : Statement (.smbReadVoltage) := ⟨.smbReadVoltage, by decide, rfl⟩
theorem smbReadHeading : Statement (.smbReadHeading) := ⟨.smbReadHeading, by decide, rfl⟩
theorem smbReadCrossing : Statement (.smbReadCrossing) := ⟨.smbReadCrossing, by decide, rfl⟩
theorem smbReadSensor (code : BitVec 8) : Statement (.smbReadSensor code) := ⟨.smbReadSensor 0x10, by decide, rfl⟩
theorem smbReadUnlisted (code : BitVec 8) (bytes : Nat) : Statement (.smbReadUnlisted code bytes) :=
    ⟨.smbReadUnlisted 7 0, by decide, rfl⟩
theorem smbWrite (code : BitVec 8) (data : Bytes) : Statement (.smbWrite code data) :=
    ⟨.smbWrite 0 [], by decide, rfl⟩
theorem smbAlertResponse : Statement (.smbAlertResponse) := ⟨.smbAlertResponse, by decide, rfl⟩
theorem extest : Statement (.extest) := ⟨.extest, by decide, rfl⟩
theorem idcode : Statement (.idcode) := ⟨.idcode, by decide, rfl⟩
theorem samplePreload : Statement (.samplePreload) := ⟨.samplePreload, by decide, rfl⟩
theorem extestPulse : Statement (.extestPulse) := ⟨.extestPulse, by decide, rfl⟩
theorem extestTrain : Statement (.extestTrain) := ⟨.extestTrain, by decide, rfl⟩
theorem highz : Statement (.highz) := ⟨.highz, by decide, rfl⟩
theorem clamp : Statement (.clamp) := ⟨.clamp, by decide, rfl⟩
theorem bypass : Statement (.bypass) := ⟨.bypass, by decide, rfl⟩
theorem debugInstruction (code : BitVec 8) : Statement (.debugInstruction code) :=
    ⟨.debugInstruction 0x40, by decide, rfl⟩
theorem powerDown : Statement (.powerDown) := ⟨.powerDown, by decide, rfl⟩
theorem pcieLinkUp : Statement (.pcieLinkUp) := ⟨.pcieLinkUp, by decide, rfl⟩
theorem patternLock (p : Nat) (locked : Bool) (bitErrors : Nat) : Statement (.patternLock p locked bitErrors) :=
    ⟨.patternLock 0 false 0, by decide, rfl⟩

end Sys2Proof.Laws.Sendable
end

