-- ==== Sys2Proof/Tests/Slice0.lean ====
section
/-!
SUPPORT. Tests. Well-formedness first, with an ill-formed term for each check. Then, for each statement of
Obligations.lean, one theorem that names a concrete state and operands for each set of hypotheses of it (`wit_…`); where a
hypothesis binds what a function found, `found` and `right` say that it finds something of which the rest holds. Last,
  single
steps whose expected values are worked out by hand from the spec's text.
-/

namespace Sys2Proof.Tests

set_option Elab.async false

open Sys2Proof.Machine Sys2Proof.Safety

/-! ### Helpers -/

/-- Something is found, and `f` holds of it. -/
def found {α : Type} (o : Option α) (f : α → Bool) : Bool :=
  match o with
  | some x => f x
  | none => false

/-- What `found` says. -/
theorem found_iff {α : Type} (o : Option α) (f : α → Bool) : found o f = true ↔ ∃ x, o = some x ∧ f x = true := by
  cases o <;> simp [found]

/-- The right-hand side is answered, and `f` holds of it. -/
def right {α β : Type} (o : α ⊕ β) (f : β → Bool) : Bool :=
  match o with
  | .inr x => f x
  | .inl _ => false

/-- What `right` says. -/
theorem right_iff {α β : Type} (o : α ⊕ β) (f : β → Bool) : right o f = true ↔ ∃ x, o = .inr x ∧ f x = true := by
  cases o <;> simp [right]

/-- A command answers a next state, and `f` holds of it. -/
def goes (o : Host.Outcome State Fault Refusal) (f : State → Bool) : Bool :=
  match o with
  | .next t => f t
  | .fault _ | .refused _ => false

/-- What `goes` says. -/
theorem goes_iff (o : Host.Outcome State Fault Refusal) (f : State → Bool) :
    goes o f = true ↔ ∃ t, o = .next t ∧ f t = true := by
  cases o <;> simp [goes]

/-- A device in RUN with its link up and PF0 a bus master; everything else at its reset value. -/
def base : Device := { ({} : Device) with
  st := .run, pcie := { perst := false, linkUp := true, pf0 := { busMaster := true } }, raw := 1000 }

/-- The state of a device with nothing else in it. -/
def ofDev (d : Device) : State := { dev := d }

/-- A device with one field set. -/
def put (f : Fld) (v : Nat) (i : Nat := 0) (j : Nat := 0) (d : Device := base) : Device := d.ru f v i j

/-! ### Well-formedness -/

theorem test_wf_port : (Instr.ferryReturn 31).wf = true ∧ (Instr.ferryReturn 32).wf = false := by decide
theorem test_wf_branch : (Instr.rearm 31).wf = true ∧ (Instr.rearm 32).wf = false := by decide
theorem test_wf_frame : (Instr.ferryLaunch 0 15).wf = true ∧ (Instr.ferryLaunch 0 16).wf = false := by decide
theorem test_wf_acyWindow : (Instr.acyclicLaunch 0 3).wf = true ∧ (Instr.acyclicLaunch 0 4).wf = false := by decide
theorem test_wf_cls : (Instr.pauseTimerExpire 0 7).wf = true ∧ (Instr.pauseTimerExpire 0 8).wf = false := by decide
theorem test_wf_point : (Instr.cyclePointFire 63).wf = true ∧ (Instr.cyclePointFire 64).wf = false := by decide
theorem test_wf_pin : (Instr.tioArm 15).wf = true ∧ (Instr.tioArm 16).wf = false := by decide
theorem test_wf_netRef : (Instr.refclkNetLost 1).wf = true ∧ (Instr.refclkNetLost 2).wf = false := by decide
theorem test_wf_queue : (Instr.send 4095 (.ok [])).wf = true ∧ (Instr.send 4096 (.ok [])).wf = false := by decide
theorem test_wf_anyQueue : (Instr.sqDoorbell 4096).wf = true ∧ (Instr.sqDoorbell 4097).wf = false := by decide
theorem test_wf_stream : (Instr.genReset 4095).wf = true ∧ (Instr.genReset 4096).wf = false := by decide
theorem test_wf_meter : (Instr.meterCfgWrite 2047 0).wf = true ∧ (Instr.meterCfgWrite 2048 0).wf = false := by decide
theorem test_wf_rule : (Instr.ruleRead false 16383).wf = true ∧ (Instr.ruleRead false 16384).wf = false := by decide
theorem test_wf_channel : (Instr.tenderAbort 16).wf = true ∧ (Instr.tenderAbort 63).wf = true ∧
    (Instr.tenderAbort 15).wf = false ∧ (Instr.tenderAbort 64).wf = false := by decide
theorem test_wf_source : (Instr.eventRouteWrite 511 0).wf = true ∧ (Instr.eventRouteWrite 512 0).wf = false := by decide
theorem test_wf_vector : (Instr.msixUnmask .pf0 2047).wf = true ∧ (Instr.msixUnmask .pf0 2048).wf = false ∧
    (Instr.msixUnmask .pf1 31).wf = true ∧ (Instr.msixUnmask .pf1 32).wf = false := by decide
theorem test_wf_flit : (Instr.flitReceive 0 { sent := List.replicate 64 0, data := List.replicate 64 0 } 0).wf = true ∧
    (Instr.flitReceive 0 { sent := List.replicate 64 0, data := List.replicate 63 0 } 0).wf = false ∧
    (Instr.flitReceive 0 { sent := List.replicate 63 0, data := List.replicate 64 0 } 0).wf = false := by decide
theorem test_wf_skew : (Instr.timedLaunch 0 209714).wf = true ∧ (Instr.timedLaunch 0 209715).wf = false ∧
    (Instr.fixFrameSend 32 0).wf = false ∧ (Instr.coldstartSend 0 209715).wf = false := by decide
theorem test_wf_aligned : (Instr.regWrite .pf0 4 .w32 0).wf = true ∧ (Instr.regWrite .pf0 2 .w32 0).wf = false ∧
    (Instr.rcRead .pf0 8 .w64).wf = true ∧ (Instr.rcRead .pf0 4 .w64).wf = false := by decide
theorem test_wf_unsupported : (Instr.unsupportedAccess .pf0 0 2 false).wf = true ∧
    (Instr.unsupportedAccess .pf0 8 8 false).wf = false ∧ (Instr.unsupportedAccess .pf0 4 4 true).wf = false := by decide
theorem test_wf_only64 : (Instr.unsupportedAccess .pf0 0x40108 4 true).wf = true ∧
    (Instr.unsupportedAccess .pf0 0x40108 4 false).wf = false := by decide
theorem test_wf_site : (Instr.memUncorrectable .uncorrectable (.recordStamp 4095)).wf = true ∧
    (Instr.memUncorrectable .uncorrectable (.recordStamp 4096)).wf = false ∧
    (Instr.memUncorrectable .uncorrectable (.recordSample 16384)).wf = false := by decide
theorem test_wf_holdPlace : (Instr.memUncorrectable .uncorrectable (.hold (.queued 31 7 40))).wf = true ∧
    (Instr.memUncorrectable .uncorrectable (.hold (.queued 0 8 0))).wf = false ∧
    (Instr.memUncorrectable .uncorrectable (.hold (.listed 32 0))).wf = false ∧
    (Instr.memUncorrectable .uncorrectable (.hold (.recirculating 256))).wf = false := by decide
theorem test_wf_sensors : (Instr.trimEvalInterval (List.replicate 24 { valid := true, tempC := 0 })).wf = true ∧
    (Instr.trimEvalInterval []).wf = false := by decide
theorem test_wf_cfgTarget : (Instr.pcieConfigWrite .pf0 (.configSpace 4092) 0).wf = true ∧
    (Instr.pcieConfigWrite .pf0 (.configSpace 4096) 0).wf = false ∧
    (Instr.pcieConfigWrite .pf1 (.msixTable 32 0) 0).wf = false ∧
    (Instr.pcieConfigWrite .pf0 (.msixTable 0 4) 0).wf = false ∧
    (Instr.pcieConfigWrite .pf0 (.deviceControl 7 7) 0).wf = true ∧
    (Instr.pcieConfigWrite .pf0 (.deviceControl 8 0) 0).wf = false ∧
    (Instr.pcieConfigWrite .pf0 (.pendingBits 0x100) 0).wf = false := by decide
theorem test_wf_descriptor : (Instr.tenderDescriptorFetched 16 (List.replicate 64 0) [] []).wf = true ∧
    (Instr.tenderDescriptorFetched 16 [] [] []).wf = false := by decide
theorem test_wf_sensorCode : (Instr.smbReadSensor 0x27).wf = true ∧ (Instr.smbReadSensor 0x28).wf = false ∧
    (Instr.smbReadSensor 0x0F).wf = false := by decide
theorem test_wf_unlistedCode : (Instr.smbReadUnlisted 7 0).wf = true ∧ (Instr.smbReadUnlisted 6 0).wf = false ∧
    (Instr.smbReadUnlisted 0x10 0).wf = false := by decide
theorem test_wf_debugCode : (Instr.debugInstruction 0x40).wf = true ∧ (Instr.debugInstruction 3).wf = true ∧
    (Instr.debugInstruction 1).wf = false ∧ (Instr.debugInstruction 0xFF).wf = false := by decide

/-! ### Witnesses: the step, power, resets and the host link -/

theorem wit_IdleStepTicks : (ofDev base).pending = [] ∧ Powered (ofDev base) ∧
    ¬ Powered (ofDev { base with st := .off }) := by
  decide +kernel

theorem wit_ExecKeepsQueue : goes (exec .ppsInEdge { ofDev base with pending := [.detach] })
    (fun t => t.pending == [.detach]) =
    true := by decide +kernel

theorem wit_FlashStaysCanonical : FlashOk (ofDev base).nv ∧ goes (step (ofDev base)) (fun _ => true) = true ∧
    FlashOk { (ofDev base).nv with flash := [(3, 0), (7, 5)] } := by decide +kernel

theorem wit_FusesOnlyGoForward : goes (step (ofDev base)) (fun t => t.nv.uid == (ofDev base).nv.uid) =
    true := by decide +kernel

/-- A commit of the next life-cycle state does change the fuses. -/
theorem wit_OnlyTheseWriteNonVolatile : goes (exec .retiredEraseDone
    { ofDev { put F.CHART_STATUS_ERASING 1 0 0 { base with st := .load } with
        boot.step := .retiredIdle, boot.slotSize := 65536 }
      with nv := { ({} : NonVol) with flash := [(0, 0)] } })
    (fun t => t.nv != { ({} : NonVol) with flash := [(0, 0)] }) = true := by decide +kernel

theorem wit_StepsEndDecided : Settled (ofDev base) ∧ goes (step (ofDev base)) (fun _ => true) = true := by decide +kernel

theorem wit_DecisionOnlySendsMessages : (∀ v < 8, F.RECKON_PPS_RAW_VALUE.key 0 0 ≠ F.EVENT_VEC_PENDING.key v 0) ∧
    (∀ v < 8, 0xD5008 ≠ 0xD1000 + 8 * v) := by decide +kernel

theorem wit_UnpoweredDeviceIgnoresCommands : (ofDev { base with st := .off }).dev.st = .off ∧
    (ofDev { base with st := .reset }).dev.st = .reset := by decide +kernel

theorem wit_PowerAndResetMoves : (ofDev { base with st := .off }).dev.st = .off ∧ (ofDev base).dev.st ≠ .off ∧
    (ofDev { base with st := .reset }).dev.st = .reset ∧ (ofDev base).dev.st ≠ .reset ∧ Powered (ofDev base) ∧ 100 ≤ 100 ∧
    ¬ Powered (ofDev { base with st := .off }) := by decide +kernel

theorem wit_ShortPulsesIgnored : 99 < 100 ∧ Powered (ofDev base) ∧ 100 ≤ 100 := by decide +kernel

theorem wit_WarmResetIsShortReset : Linked (ofDev base) ∧
    bits (0x9640000000000001 : Word).toNat 63 48 = 0x9640 ∧ bit (0x9640000000000001 : Word).toNat 0 = true ∧
    goes (exec (.resetAssert .sysResetN 1000) (ofDev base)) (fun t =>
      goes (exec (.resetRelease ((ofDev base).dev.rb F.RECKON_STATUS_REF_SEL)) t) fun _ => true) = true ∧
    (bits (0x9641000000000001 : Word).toNat 63 48 ≠ 0x9640 ∨ bit (0x9641000000000001 : Word).toNat 0 = false) := by
  decide +kernel

theorem wit_HostResetLeavesCrossings : Powered (ofDev base) ∧ 100 ≤ 100 ∧ Linked (ofDev base) ∧ 99 < 100 ∧
    ¬ Powered (ofDev { base with st := .off }) ∧
    (ofDev { base with pcie.linkUp := false }).dev.pcie.linkUp = false := by decide +kernel

theorem wit_LinkAndBusMaster : Powered (ofDev base) ∧ (ofDev base).dev.pcie.perst = false ∧
    (ofDev { base with pcie.perst := true }).dev.pcie.perst = true ∧ Linked (ofDev base) ∧
    (ofDev base).dev.pcie.pf0.d3hot = false ∧ Linked (ofDev { base with pcie.pf0.d3hot := true }) ∧
    (ofDev { base with pcie.pf0.d3hot := true }).dev.pcie.pf0.d3hot = true ∧
    (ofDev base).dev.pcie.pf0.master = true ∧
     (ofDev { base with pcie.pf0.d3hot := true }).dev.pcie.pf0.master = false := by
  decide +kernel

/-- A device whose vector 5 of PF0 has its pending bit set and may send. -/
def msixPending : Device := { base with
  pcie.pf0 := { busMaster := true, msixEnable := true, unmasked := [(5, true)], pba := [(5, true)] } }

theorem wit_ConfigurationWrites : Linked (ofDev base) ∧ 2047 < fnVectors .pf0 ∧ 2 < 3 ∧ 8 ≠ 4 ∧
    fnVectors .pf0 ≤ 2048 ∧ 3 < 4 ∧
    tabGet false ((ofDev msixPending).dev.fnState .pf0).pba 5 = true ∧
    msixOpen ((ofDev msixPending).dev.fnState .pf0) 5 = true ∧
    tabGet false ((ofDev base).dev.fnState .pf0).pba 5 = false ∧ msixOpen ((ofDev base).dev.fnState .pf0) 5 = false := by
  decide +kernel

/-! ### Witnesses: register access and the event matrix -/

theorem wit_UnsupportedRequestChangesNothing : Linked (ofDev base) ∧ isDoorbell .pf0 4 = false ∧
    isDoorbell .pf0 2 = false ∧ accessOk .pf0 4 (widthBytes .w64) true = false ∧
    accessOk .pf0 2 (widthBytes .w32) false = false := by decide +kernel

theorem wit_RegisterWrites : Linked (ofDev base) ∧ accessOk .pf1 0 (widthBytes .w64) true = true ∧
    accessOk .pf0 0x38 (widthBytes .w64) true = true ∧ lookupReg (0x7FFF8 / 8 * 8) = none ∧
    accessOk .pf0 (F.RECKON_SWITCH_AT_VALUE.addr) (widthBytes .w64) true = true ∧
    found (lookupReg (F.RECKON_SWITCH_AT_VALUE.addr / 8 * 8)) (fun r => (writeTo.find? fun e => e.1 == r.1.addr).isNone) =
      true ∧
    accessOk .pf0 (F.QUEUE_ADMIN_SQ_DB_RING.addr) (widthBytes .w64) true = true ∧
    found (lookupReg (F.QUEUE_ADMIN_SQ_DB_RING.addr / 8 * 8)) (fun r => (writeTo.find? fun e => e.1 == r.1.addr).isSome) =
      true ∧
    0 < msixBase .pf1 ∧ F.RECKON_SWITCH_AT_VALUE.addr < doorbellBase ∧ 0x7FFF8 < doorbellBase ∧
    (doorbellBase ≤ 0x2007FFF ∧ 0x2007FFF < doorbellBase + 0x8000) ∧
    (doorbellBase + 0x8000 ≤ 0x2008000 ∧ 0x200FFFF < msixBase .pf0) ∧
    (accessOk .pf0 0x2010000 (widthBytes .w64) true = true ∧ msixBase .pf0 ≤ 0x2010000) ∧
    (accessOk .pf1 0xC00000 (widthBytes .w32) true = true ∧ msixBase .pf1 ≤ 0xC00000) := by decide +kernel

/-- A field of each type, among them one with a reserved encoding. -/
theorem wit_FieldWritesByType : (allRegs.any fun r => r.fields.any fun f => f.type == .rw && f.isReserved 3) = true ∧
    (allRegs.any fun r => r.fields.any fun f => f.type == .rwa && !f.isReserved 1) = true ∧
    (allRegs.any fun r => r.fields.any fun f => f.type == .w1c) = true ∧
    (allRegs.any fun r => r.fields.any fun f => f.type == .ro) = true := by decide +kernel

theorem wit_ReadsReturnAndClear : Linked (ofDev base) ∧ isDoorbell .pf0 0x2000000 = true ∧
    isDoorbell .pf0 0x200FFFF = true ∧
    isDoorbell .pf1 0 = false ∧ isDoorbell .pf0 countBase = false ∧
    accessOk .pf0 countEnd (widthBytes .w64) false = true ∧
    isDoorbell .pf0 countEnd = false ∧ countEnd ≤ countEnd ∧ accessOk .pf1 0 (widthBytes .w64) false = true ∧
    accessOk .pf0 countBase (widthBytes .w64) false = true ∧ countBase ≤ countBase ∧ countBase < countEnd ∧
    accessOk .pf0 (countBase - 8) (widthBytes .w64) false = true ∧ countBase - 8 < countBase := by decide +kernel

/-- A device that has loaded a chart. -/
def charted : Device := { base with charted := true }
/-- A device whose vector 5 has run its holdoff of 1 µs. -/
def holdoff : Device := { put F.EVENT_VEC_HOLDOFF_NS 1000 5 with ev.timer := [(5, some 0)] }

theorem wit_RoutesAndVectors : Linked (ofDev base) ∧ (ofDev base).dev.charted = false ∧
    Linked (ofDev charted) ∧ (ofDev charted).dev.charted = true ∧
    (let d := writeReg64 (F.EVENT_ROUTE_MSIX_EN.addr 511) 0 (ofDev charted).dev
     d.rg F.EVENT_ROUTE_DEFER_EN 511 = (ofDev charted).dev.rg F.EVENT_ROUTE_DEFER_EN 511 ∧
       d.rg F.EVENT_ROUTE_DEFER_CP 511 = (ofDev charted).dev.rg F.EVENT_ROUTE_DEFER_CP 511) ∧
    (let d := writeReg64 (F.EVENT_ROUTE_MSIX_EN.addr 511) (BitVec.ofNat 64 (2 ^ 64 - 1)) (ofDev charted).dev
     d.rg F.EVENT_ROUTE_DEFER_EN 511 ≠ (ofDev charted).dev.rg F.EVENT_ROUTE_DEFER_EN 511) ∧
    tabGet none (ofDev holdoff).dev.ev.timer 5 = some 0 ∧ (ofDev holdoff).dev.rg F.EVENT_VEC_HOLDOFF_NS 5 ≠ 0 ∧
    (ofDev holdoff).dev.passedNs 0 ((ofDev holdoff).dev.rg F.EVENT_VEC_HOLDOFF_NS 5) = true ∧
    tabGet none (ofDev base).dev.ev.timer 5 = none ∧ (ofDev base).dev.rg F.EVENT_VEC_HOLDOFF_NS 5 = 0 ∧
    (let d := { holdoff with raw := 799 }
     tabGet none d.ev.timer 5 = some 0 ∧ d.passedNs 0 (d.rg F.EVENT_VEC_HOLDOFF_NS 5) = false) := by decide +kernel

/-- Whether a target of source 38's route is enabled. -/
def routedTo (d : Device) : Bool :=
  d.rb F.EVENT_ROUTE_MSIX_EN 38 || d.rb F.EVENT_ROUTE_PF1_EN 38 || d.rb F.EVENT_ROUTE_TENDER_EN 38 ||
    d.rg F.EVENT_ROUTE_TIO_MASK 38 != 0

theorem wit_OccurrencesLatchAndDefer : neverRaised 3 = true ∧ neverRaised 38 = false ∧
    (put F.EVENT_ROUTE_DEFER_EN 1 38).rb F.EVENT_ROUTE_DEFER_EN 38 = true ∧
     routedTo (put F.EVENT_ROUTE_DEFER_EN 1 38) = false ∧
    (let d := put F.EVENT_ROUTE_MSIX_EN 1 38 0 (put F.EVENT_ROUTE_DEFER_EN 1 38)
     d.rb F.EVENT_ROUTE_DEFER_EN 38 = true ∧ routedTo d = true) := by decide +kernel

/-! ### Witnesses: the Reckoner -/

/-- A device whose domain A has a write pending for raw count 900 (`due`) or 2,000. -/
def pendingA (k : Word) : Device := base.setDom .a { pend := some (.step 5, k), lastFold := some 0 }
/-- A device whose domain A was folded at raw count 0, so that the next fold waits for 1,600. -/
def foldedA : Device := base.setDom .a { lastFold := some 0 }

theorem wit_ParameterWritesFold : Dom.a ≠ .x ∧ Linked (ofDev base) ∧ ((ofDev base).dev.dom .a).pend = none ∧
    incrInRange ((0x14000000000 : Word).toNat % 2 ^ 48) = true ∧
    foldTick ((ofDev base).dev.dom .a) (ofDev base).dev.raw = (ofDev base).dev.raw ∧
    stepAllowed ((ofDev base).dev.dom .a) (ofDev base).dev.raw (.step (stepOf 5)) = true ∧
    stepAllowed ((ofDev base).dev.dom .a) (ofDev base).dev.raw (.step (stepOf (BitVec.ofNat 64 (2 ^ 63)))) = false ∧
    stepAllowed ((ofDev (pendingA 900)).dev.dom .a) 900 (.step (-2 ^ 63)) = false ∧
    bits (BitVec.ofNat 64 (999999999 * 2 ^ 16)).toNat 47 16 ≤ 999999999 ∧ ((ofDev foldedA).dev.dom .a).pend = none ∧
    foldTick ((ofDev foldedA).dev.dom .a) (ofDev foldedA).dev.raw ≠ (ofDev foldedA).dev.raw ∧
    ((ofDev (pendingA 900)).dev.dom .a).pend = some (.step 5, 900) ∧
     (900 : Word).toNat ≤ (ofDev (pendingA 900)).dev.raw.toNat ∧
    stepAllowed ((ofDev (pendingA 900)).dev.dom .a) 900 (.step 5) = true ∧
    ((ofDev (pendingA 2000)).dev.dom .a).pend = some (.step 5, 2000) ∧
     (ofDev (pendingA 2000)).dev.raw.toNat < (2000 : Word).toNat := by
  decide +kernel

theorem wit_SetHiStagesSeconds : Linked (ofDev base) ∧ Dom.b ≠ .x ∧ ((ofDev base).dev.dom .b).pend = none ∧
    bits (0 : Word).toNat 47 16 ≤ 999999999 ∧
    foldTick ((ofDev base).dev.dom .b) (ofDev base).dev.raw = (ofDev base).dev.raw := by
  decide +kernel

theorem wit_RejectedParameterWrites : Linked (ofDev base) ∧ Dom.a ≠ .x ∧
    ((ofDev (pendingA 2000)).dev.dom .a).pend ≠ none ∧
    ((ofDev base).dev.dom .a).pend = none ∧ incrInRange ((0 : Word).toNat % 2 ^ 48) = false ∧
    999999999 < bits (BitVec.ofNat 64 (1000000000 * 2 ^ 16)).toNat 47 16 := by decide +kernel

/-- A device whose domain A tracks and whose holdover timer has run. -/
def heldOver : Device := { put F.RECKON_D_HOLDOVER_TIMEOUT_TIMEOUT_MS 1 with raw := 800000 }.setDom .a { st := .tracking }
/-- A device whose primary switch is armed for raw count 1,000. -/
def armedSwitch : Device := put F.RECKON_PRIMARY_ARM 1 0 0 (put F.RECKON_SWITCH_AT_VALUE 1000)

/-- A device whose primary domain A has run its holdover timer, with AUTO set and domain B tracking. -/
def autoDue : Device := ((put F.RECKON_PRIMARY_AUTO 1 0 0 (put F.RECKON_PRIMARY_ARM 1 0 0
  (put F.RECKON_SWITCH_AT_VALUE 1000 0 0 heldOver)))).setDom .b { st := .tracking }

theorem wit_HoldoverAndPrimary : Linked (ofDev heldOver) ∧ Dom.a ≠ .x ∧ ((ofDev heldOver).dev.dom .a).st ≠ .unset ∧
    holdoverDue .a (ofDev heldOver).dev = true ∧ holdoverDue .a (ofDev base).dev = false ∧
    (ofDev armedSwitch).dev.rb F.RECKON_PRIMARY_ARM = true ∧
    (ofDev armedSwitch).dev.rg F.RECKON_SWITCH_AT_VALUE ≤ (ofDev armedSwitch).dev.raw.toNat ∧
    ((ofDev base).dev.dom .a).st = .unset ∧ autoSwitchDue (ofDev armedSwitch).dev = false ∧
    (ofDev autoDue).dev.rb F.RECKON_PRIMARY_ARM = true ∧ autoSwitchDue (ofDev autoDue).dev = true ∧
    (ofDev autoDue).dev.rg F.RECKON_SWITCH_AT_VALUE ≤ (ofDev autoDue).dev.raw.toNat ∧
    (ofDev base).dev.rb F.RECKON_PRIMARY_ARM = false ∧
    (ofDev { armedSwitch with raw := 999 }).dev.raw.toNat < (ofDev { armedSwitch with raw := 999 }).dev.rg F.RECKON_SWITCH_AT_VALUE := by
  decide +kernel

theorem wit_SnapshotCapturesAll : Linked (ofDev base) := by decide +kernel
theorem wit_PpsEdgeStamped : Powered (ofDev base) := by decide +kernel

theorem wit_ReferenceLoss : Powered (ofDev base) ∧
    goes (exec .refclkTimeLost (ofDev base)) (fun t => t.dev.raw == 1000) = true ∧
    goes (exec .refclkTimeReturn (ofDev base)) (fun t => t.dev.raw == 1000) = true ∧ (ofDev base).pending = [] := by
  decide +kernel

/-- A device with PTM enabled, automatic dialogs, and one dialog in progress since raw count 0. -/
def ptmOn : Device := { put F.RECKON_PTM_CTRL_AUTO 1 0 0 (put F.RECKON_PTM_CTRL_INTERVAL_MS 1) with
  pcie.pf0.ptmEnable := true, reckon.ptmDialogs := [0], raw := 10000000 }

theorem wit_PtmDialogs : Linked (ofDev ptmOn) ∧ (ofDev ptmOn).dev.pcie.pf0.ptmEnable = true ∧
    (ofDev base).dev.pcie.pf0.ptmEnable = false ∧ (ofDev ptmOn).dev.rb F.RECKON_PTM_CTRL_AUTO = true ∧
    (ofDev ptmOn).dev.passedNs (ofDev ptmOn).dev.reckon.ptmAutoFrom ((ofDev ptmOn).dev.rg F.RECKON_PTM_CTRL_INTERVAL_MS * 1000000) = true ∧
    (ofDev ptmOn).dev.reckon.ptmDialogs = 0 :: [] ∧ (ofDev ptmOn).dev.passedNs 0 100000 = true ∧
    ({ ptmOn with reckon.ptmDialogs := [9999000] } : Device).passedNs 9999000 100000 = false ∧
    (ofDev base).dev.reckon.ptmDialogs = [] ∧ (ofDev base).dev.rb F.RECKON_PTM_CTRL_AUTO = false ∧
    (ofDev { ptmOn with pcie.pf0.ptmEnable := false }).dev.pcie.pf0.ptmEnable = false ∧
    (ofDev { ptmOn with pcie.linkUp := false }).dev.pcie.linkUp = false := by decide +kernel

/-! ### Witnesses: stamp records and TIO pins -/

theorem wit_StampRecordConsWrites : Linked (ofDev base) ∧
    ((ofDev base).dev.rg F.RECKON_STREC_PROD_PROD + 2 ^ 32 - (0 : BitVec 32).toNat) % 2 ^ 32 ≤ 4096 ∧
    ((ofDev base).dev.rg F.RECKON_STREC_PROD_PROD + 2 ^ 32 - (BitVec.ofNat 32 (2 ^ 32 - 4096)).toNat) % 2 ^ 32 ≤ 4096 ∧
    4096 < ((ofDev base).dev.rg F.RECKON_STREC_PROD_PROD + 2 ^ 32 - (BitVec.ofNat 32 (2 ^ 32 - 4097)).toNat) % 2 ^ 32 ∧
    accessOk .pf1 0 (widthBytes .w64) true = true ∧ 0 < msixBase .pf1 ∧ Powered (ofDev base) ∧ 100 ≤ 100 ∧
    goes (exec (.resetAssert .sysResetN 100) (ofDev (put F.RECKON_STREC_PROD_PROD 9))) (fun _ => true) = true := by
  decide +kernel

theorem wit_StampRecordQueue : strecUsed (put F.RECKON_STREC_PROD_PROD 4096) = 4096 ∧ strecUsed base ≠ 4096 := by
  decide +kernel

/-- A beacon pin of MODE m: period 1 ms, width 1 µs, start 1 s. -/
def beaconPin (m : Nat) : Device := put F.RECKON_TIO_CFG_MODE m 0 0 (put F.RECKON_TIO_PERIOD_NANOSECONDS 1000000 0 0
  (put F.RECKON_TIO_CFG_WIDTH_NS 1000 0 0 (put F.RECKON_TIO_START_S_SECONDS 1)))
/-- A CAPTURE pin that takes both edges. -/
def capturePin : Device := put F.RECKON_TIO_CFG_MODE 3 0 0 (put F.RECKON_TIO_CFG_EDGES 3)

theorem wit_TioPins : Linked (ofDev base) ∧
    (writeReg64 (F.RECKON_TIO_CFG_MODE.addr 0) 0 (ofDev base).dev).rg F.RECKON_TIO_CFG_MODE 0 =
      (ofDev base).dev.rg F.RECKON_TIO_CFG_MODE 0 ∧
    (writeReg64 (F.RECKON_TIO_CFG_MODE.addr 0) 3 (ofDev base).dev).rg F.RECKON_TIO_CFG_MODE 0 ≠
      (ofDev base).dev.rg F.RECKON_TIO_CFG_MODE 0 ∧
    (beaconPin 1).rg F.RECKON_TIO_CFG_MODE 0 = 1 ∧ (beaconPin 2).rg F.RECKON_TIO_CFG_MODE 0 = 2 ∧
    tioArmOk true (1000000 * 2 ^ 16) ((beaconPin 1).rg F.RECKON_TIO_CFG_WIDTH_NS 0) = true ∧
    tioFirstTarget true (u16Of 1 0 0) (1000000 * 2 ^ 16) ((beaconPin 1).now ((beaconPin 1).tb 0)) = some (u16Of 1 0 0) ∧
    tioFirstTarget true (u16Of 0 0 0) (1000000 * 2 ^ 16) ((beaconPin 1).now ((beaconPin 1).tb 0)) = none ∧
    tioArmOk false 0 ((beaconPin 2).rg F.RECKON_TIO_CFG_WIDTH_NS 0) = false ∧
    ¬ ((ofDev base).dev.rg F.RECKON_TIO_CFG_MODE 0 = 1 ∨ (ofDev base).dev.rg F.RECKON_TIO_CFG_MODE 0 = 2) ∧
    capturePin.rg F.RECKON_TIO_CFG_MODE 0 = 3 ∧ tioDriven capturePin.st = true ∧
    bit (capturePin.rg F.RECKON_TIO_CFG_EDGES 0) (if true then 0 else 1) = true ∧
    bit (capturePin.rg F.RECKON_TIO_CFG_EDGES 0) (if false then 0 else 1) = true ∧
    bit (base.rg F.RECKON_TIO_CFG_EDGES 0) (if true then 0 else 1) = false ∧
    ¬ (tioDriven ({ capturePin with st := .load } : Device).st = true) := by decide +kernel

/-- A periodic beacon pin that is armed, with its next target at `t` units of 2^-16 ns. -/
def armedPin (m : Nat) (t : Int) : Device :=
  (put F.RECKON_TIO_STATUS_ARMED 1 0 0 (beaconPin m)).setPin 0 { next := some t, period := 65536000000 }
/-- A pin whose pulse began at raw count 0 and lasts 1 µs, with the raw counter at `r`. -/
def pulsePin (r : Word) : Device := { (beaconPin 2).setPin 0 { pulse := some 0 } with raw := r }

/-- A once-only beacon whose timebase was stepped from 1,250 ns to 1,250.5 ns at raw count 1,000, past its target. -/
def steppedPin : Device :=
  let d := armedPin 1 81936384
  d.setDom .x { d.dom .x with cur := foldSet (d.dom .x).cur 1000 (.step 32768), prev := (d.dom .x).cur }

theorem wit_BeaconsAndPulses : carriedPast 0 (ofU16 81920000) (armedPin 1 81920000) = false ∧
    base.tb (steppedPin.rg F.RECKON_TIO_CFG_TB 0) = .x ∧ steppedPin.rg F.RECKON_TIO_CFG_TB 0 = 0 ∧
    carriedPast 0 (ofU16 81936384) steppedPin = true ∧
    (steppedPin.pin 0).next = some 81936384 ∧ steppedPin.rb F.RECKON_TIO_STATUS_ARMED 0 = true ∧
    ofU16 81936384 ≤ steppedPin.now .x ∧
    steppedPin.now .x - ofU16 81936384 < ((steppedPin.dom .x).cur.incr : Int) * 2 ^ 16 ∧ Powered (ofDev base) ∧
    ((armedPin 2 (2 ^ 60)).pin 0).next = some (2 ^ 60) ∧ (armedPin 2 0).now .x < ofU16 (2 ^ 60) ∧
    ((armedPin 1 81920000).pin 0).next = some 81920000 ∧ (armedPin 1 81920000).rb F.RECKON_TIO_STATUS_ARMED 0 = true ∧
    (armedPin 1 81920000).rg F.RECKON_TIO_CFG_MODE 0 = 1 ∧ (armedPin 2 0).rg F.RECKON_TIO_CFG_MODE 0 = 2 ∧
    ¬ ((put F.RECKON_TIO_STATUS_ARMED 0 0 0 (armedPin 1 0)).rb F.RECKON_TIO_STATUS_ARMED 0 = true) ∧
    ((pulsePin 800).pin 0).once = false ∧ (((pulsePin 800).setPin 0 { pulse := some 0, once := true }).pin 0).once = true ∧
    tioDriven (armedPin 1 81920000).st = true ∧ tioDriven ({ base with st := .halt } : Device).st = false ∧
    ofU16 81920000 ≤ (armedPin 1 81920000).now .x ∧
    (armedPin 1 81920000).now .x - ofU16 81920000 < (((armedPin 1 81920000).dom .x).cur.incr : Int) * 2 ^ 16 ∧
    (armedPin 1 81920000).rg F.RECKON_TIO_CFG_MODE 0 = 1 ∧ (armedPin 2 81920000).rg F.RECKON_TIO_CFG_MODE 0 ≠ 1 ∧
    ofU16 0 ≤ (armedPin 2 0).now .x ∧
    (((armedPin 2 0).dom .x).cur.incr : Int) * 2 ^ 16 ≤ (armedPin 2 0).now .x - ofU16 0 ∧
    ((pulsePin 800).pin 0).pulse = some 0 ∧
     (pulsePin 800).passedNs 0 ((pulsePin 800).rg F.RECKON_TIO_CFG_WIDTH_NS 0) = true ∧
    (pulsePin 799).passedNs 0 ((pulsePin 799).rg F.RECKON_TIO_CFG_WIDTH_NS 0) = false ∧
     ((ofDev base).dev.pin 0).pulse = none := by
  decide +kernel

/-! ### Witnesses: SMBus, the test access port, the fabric and Trim -/

theorem wit_SmbusTransactions : Powered (ofDev base) ∧ 0x10 ≤ (0x27 : BitVec 8).toNat ∧ (0x27 : BitVec 8).toNat ≤ 0x27 ∧
    (0x10 ≤ (0x10 : BitVec 8).toNat) ∧ 0x27 < (0x28 : BitVec 8).toNat ∧ (0x0F : BitVec 8).toNat < 0x10 ∧
     ([0] : Bytes) ≠ [] ∧
    (ofDev { base with trim.alert := true }).dev.trim.alert = true ∧
     (ofDev base).dev.trim.alert = false := by decide +kernel

theorem wit_PinTakingInstructions : (ofDev { base with st := .reset }).dev.st ≠ .off ∧
    (ofDev { base with st := .reset }).dev.st = .reset ∧ (ofDev { base with st := .halt }).dev.st = .halt ∧
    ¬ ((ofDev base).dev.st = .reset ∨ (ofDev base).dev.st = .halt) ∧ 100 ≤ 100 ∧
    (ofDev { base with st := .halt, tap := 8 }).dev.tap ∈ [0x00, 0x05, 0x06, 0x07, 0x08] ∧
    goes (exec (.resetRelease true) (ofDev { base with st := .reset, tap := 0 })) (fun t => t.dev.tap == 0xFF) = true ∧
    goes (exec (.resetAssert .sysResetN 100) (ofDev { base with st := .halt, tap := 8 }))
      (fun t => t.dev.tap == 0xFF) = true := by
  decide +kernel

theorem wit_TapInstructions : (ofDev base).dev.st ≠ .off ∧
    ({ ofDev base with nv := { fuses := { provisioned := 3, fielded := 3 } } } : State).nv.lifecycle = .fielded ∧
     (0x3F : BitVec 8).toNat < 0x40 ∧
    0x7F < (0x80 : BitVec 8).toNat ∧ Powered (ofDev { base with tap := 8 }) ∧
    (ofDev { base with tap := 8 }).dev.st ≠ .halt ∧
    100 ≤ 100 ∧ (ofDev { base with tap := 8 }).dev.tap ∈ [0x00, 0x05, 0x06, 0x07, 0x08] ∧
    goes (exec (.resetAssert .sysResetN 100) (ofDev { base with tap := 8 })) (fun t => t.dev.tap == 8) = true := by
  decide +kernel

theorem wit_OnlyDebugInstructionRefused : (ofDev base).dev.st ≠ .off ∧ (ofDev base).nv.lifecycle ≠ .fielded ∧
    0x40 ≤ (0x40 : BitVec 8).toNat ∧ (0x7F : BitVec 8).toNat ≤ 0x7F := by decide +kernel

/-- A device whose link 3 has failed `n` times in a row. -/
def failing (n : Nat) : Device := base.setLink 3 { fails := n }

/-- A device whose link 3 owes the replay of the last two flits sent. -/
def owing : Device := base.setLink 3 { fails := 1, buffer := [List.replicate 64 1, List.replicate 64 0], owed := 2 }

theorem wit_FabricLinkCounts : Powered (ofDev base) ∧
    crc16 (List.replicate 64 0) = (BitVec.ofNat 16 (crc16 (List.replicate 64 0))).toNat ∧
    crc16 (List.replicate 64 0) ≠ (BitVec.ofNat 16 (crc16 (List.replicate 64 0) + 1)).toNat ∧
    ((ofDev (failing 6)).dev.link 3).fails < 7 ∧ 8 ≤ ((ofDev (failing 8)).dev.link 3).fails ∧
    ((ofDev (failing 7)).dev.link 3).fails < 8 ∧ ((ofDev (failing 6)).dev.link 3).owed = 0 ∧
    0 < ((ofDev owing).dev.link 3).owed := by decide +kernel

/-- A device in RUN with one frame in class 7 of port 0, held by no queue entry. -/
def oneQueued : Device := base.setCls 0 7 { frames := [{ bytes := List.replicate 60 0, flow := 0 }] }

theorem wit_SramErrors : Powered (ofDev base) ∧ holdDrop (.queued 0 7 0) (evRaise 0 (ofDev base).dev) = none ∧
    Powered (ofDev oneQueued) ∧ found (holdDrop (.queued 0 7 0) (evRaise 0 (ofDev oneQueued).dev)) (fun e =>
      (e.cls 0 7).frames == []) = true := by decide +kernel

/-- A device on rung 2 of the ladder whose intervals of low load have reached the limit. -/
def relaxing : Device := { put F.TRIM_STATUS_RUNG 2 0 0 (put F.TRIM_LOOP_CFG_RELAX_INTERVALS 4) with trim.relax := 4 }
/-- A device in WIPE with EVAL_US 10, 10 µs after its last interval ended. -/
def evaluating : Device := { put F.TRIM_LOOP_CFG_EVAL_US 10 with st := .wipe, raw := 8000 }
/-- The 24 readings of sensors that give none. -/
def noReadings : List Sensor := List.replicate 24 { valid := false, tempC := 0 }

theorem wit_TrimBusAndLadder : Powered (ofDev base) ∧ 3 ≤ (put F.TRIM_AVS_FAULT_RUN 3).rg F.TRIM_AVS_FAULT_RUN ∧
    (put F.TRIM_AVS_FAULT_RUN 3).rb F.TRIM_STATUS_AVS_FAULT = false ∧
     (put F.TRIM_AVS_FAULT_RUN 2).rg F.TRIM_AVS_FAULT_RUN < 3 ∧
    (put F.TRIM_STATUS_AVS_FAULT 1).rb F.TRIM_STATUS_AVS_FAULT = true ∧ 0 < relaxing.rung ∧
    relaxing.rg F.TRIM_LOOP_CFG_RELAX_INTERVALS ≤ relaxing.trim.relax ∧ 0 < relaxing.trim.relax ∧ base.rung = 0 ∧
    (let d := { evaluating with raw := 7999 }
     d.passedNs d.trim.evalFrom (d.rg F.TRIM_LOOP_CFG_EVAL_US * 1000) = false) ∧
    evaluating.passedNs evaluating.trim.evalFrom (evaluating.rg F.TRIM_LOOP_CFG_EVAL_US * 1000) = true ∧
    ¬ (0 < base.rung) := by decide +kernel

theorem wit_HeadingSelection : Linked (ofDev base) ∧ (ofDev { base with st := .wipe }).dev.st = .wipe ∧
    (ofDev { base with st := .load }).dev.st = .load ∧ (ofDev base).dev.st = .run ∧
    (ofDev { base with st := .recovery }).dev.st ∈ [DevState.muster, .firstCrossing, .test, .recovery] ∧
     (6 : BitVec 3) ≠ 7 ∧
    (ofDev { base with st := .halt }).dev.st = .halt ∧
     (ofDev { base with st := .dormant }).dev.st = .dormant := by decide +kernel

/-! ### Witnesses: ports, redundancy and Helm -/

/-- A device whose port 0 is as given. -/
def withPort (x : Port) (d : Device := base) : Device := d.setPort 0 x

/-- Port 0 verifying since raw count 0 with pre-emption enabled, 10 ms later. -/
def verifying : Device :=
  { withPort { st := .run, verify := .verifying } (put F.REDUN_PE_CFG_ENABLE 1 0 0
    (put F.REDUN_PE_CFG_VERIFY_TIME_MS 10)) with
    raw := 8000000 }
/-- That port as a branch arm. -/
def verifyingArm : Device := put F.PILOT_ARM_CFG_ROLE 1 0 0 verifying
/-- Stream 4095 with a reset timer of 1 µs that started at raw count 0. -/
def timedStream (r : Word) : Device :=
  { (put F.REDUN_STREAM_RCVY_RESET_US 1 4095).setStream 4095 { timer := some 0 } with raw := r }

theorem wit_VerificationAndRecovery : Powered (ofDev verifying) ∧ verifying.portRun 0 = true ∧
    verifying.rb F.REDUN_PE_CFG_ENABLE 0 = true ∧ (verifying.port 0).verify = .verifying ∧
    (withPort { st := .run }).portRun 0 = true ∧ (base.port 0).verify ≠ .verifying ∧
    verifying.isArm 0 = false ∧ verifyingArm.isArm 0 = true ∧ verifyingArm.portRun 0 = true ∧
    verifyingArm.rb F.REDUN_PE_CFG_ENABLE 0 = true ∧
    (let d := withPort { st := .run } (put F.REDUN_PE_CFG_ENABLE 1)
     d.portRun 0 = true ∧ d.rb F.REDUN_PE_CFG_ENABLE 0 = true ∧ d.isArm 0 = false ∧ (d.port 0).verify ≠ .verifying) ∧
    (let d := withPort { st := .run }
     d.portRun 0 = true ∧ d.rb F.REDUN_PE_CFG_ENABLE 0 = false) ∧
    ((withPort { st := .fenced }).port 0).st = .fenced ∧ (base.port 0).st ≠ .fenced ∧
    base.rb F.REDUN_PE_CFG_ENABLE 0 = false ∧ base.portRun 0 = false ∧ verifying.passedNs (verifying.port 0).verifyFrom
      (verifying.rg F.REDUN_PE_CFG_VERIFY_TIME_MS 0 * 1000000) = true ∧ Linked (ofDev base) ∧
    (put F.REDUN_PE_CFG_VERIFY_LIMIT 1).rg F.REDUN_PE_STATUS_ATTEMPTS 0 <
      (put F.REDUN_PE_CFG_VERIFY_LIMIT 1).rg F.REDUN_PE_CFG_VERIFY_LIMIT 0 ∧
    (put F.REDUN_PE_STATUS_ATTEMPTS 3).rg F.REDUN_PE_CFG_VERIFY_LIMIT 0 ≤
      (put F.REDUN_PE_STATUS_ATTEMPTS 3).rg F.REDUN_PE_STATUS_ATTEMPTS 0 ∧
    ((timedStream 800).stream 4095).timer = some 0 ∧
    (timedStream 801).rg F.REDUN_STREAM_RCVY_RESET_US 4095 * 800 < (timedStream 801).since 0 ∧
    (timedStream 800).since 0 ≤ (timedStream 800).rg F.REDUN_STREAM_RCVY_RESET_US 4095 * 800 ∧
    lineFree 0 verifying = true ∧ (verifying.port 0).mergeDue = [] ∧
    lineFree 0 (withPort { st := .run, mergeDue := [true], gapEnd := 1001 }) = false ∧
    ((withPort { st := .run, mergeDue := [true] }).port 0).mergeDue ≠ [] ∧
    ¬ ((base.port 0).verify = .verifying) ∧
    (base.stream 0).timer = none ∧ (frerVector 0 65535 base).1 = true := by decide +kernel

/-- A frame of 60 bytes. -/
def frame60 : TxFrame := { bytes := List.replicate 60 0, flow := 0 }
/-- An uplink, port 0, in RUN at 1 Gbit/s. -/
def uplink (x : Port) : Device := withPort { x with st := .run } (put F.PILOT_ARM_CFG_ROLE 2 0 0 (put F.PORT_MODE_MODE 1))
/-- A class frame in transmission, preemptable, of 300 bytes. -/
def sending : TxNow :=
  { frame := { bytes := List.replicate 296 0, flow := 0 }, cls := some 2, pe := true, bytes := List.replicate 300 0,
    stamp := { count := 0 }, from_ := { count := 0 } }
/-- What a SEND entry asks for: a frame of 60 bytes; launch time `t` ns in domain A. -/
def sendCtx60 (t : Int) (timed : Bool) : SendCtx :=
  { len := 1, batchEnd := false, cid := 7, head := List.replicate 8 0, frameLen := 60, csumL3 := false, csumL4 := false,
    stream := none, ext := false, stampOp := 0, record := false, tb := 0, launch := timed, stampOffset := 0,
      corrOffset := 0,
    tag := 0, refRaw := { count := 0 }, launchTime := t }
/-- An uplink with a frame in its launch list for `t` ns; now is 1,250 ns. -/
def timedPort (t : Int) : Device := uplink { launch := [{ frame60 with ctx := some (sendCtx60 t true) }] }
/-- Gates whose class 2 is open until 1,300 ns and closed after. -/
def closing : Port :=
  { now := some sending, oper := { en := true, cycle := 2000, entries := [(0xFF, 1300), (0xFB, 700)] }, entryEnd := 1300 }

/-- What the port is when FRAME_TX_START looks at it. -/
def atStart (d : Device) : Device := peSettle 0 (ownDone 0 d)

theorem wit_Transmission_starts : Powered (ofDev base) ∧ base.portRun 0 = false ∧
    lineFree 0 (uplink { now := some sending }) = false ∧
    (uplink {}).portRun 0 = true ∧ lineFree 0 (uplink {}) = true ∧
    ((atStart (uplink { mergeDue := [true] })).port 0).mergeDue = true :: [] ∧
    reachesLaunch 0 64 (atStart (uplink { mergeDue := [true] })) = false ∧
    lineFree 0 (timedPort 1300) = true ∧ reachesLaunch 0 64 (atStart (timedPort 1300)) = true ∧
    ((atStart (uplink { ctrlDue := [[1]] })).port 0).ctrlDue = [1] :: [] ∧
     ((atStart (uplink { ctrlDue := [[1]] })).port 0).mergeDue = [] ∧
    reachesLaunch 0 (txLen 1) (atStart (uplink { ctrlDue := [[1]] })) = false ∧
    reachesLaunch 0 (txLen 1) (atStart (uplink { ctrlDue := [[1]], launch := ((timedPort 1300).port 0).launch })) = true ∧
    ((atStart (withPort { st := .run })).port 0).ctrlDue = [] ∧ (atStart (withPort { st := .run })).isUplink 0 = false ∧
    lineFree 0 (withPort { st := .run }) = true ∧ (atStart (uplink {})).isUplink 0 = true ∧
    pickClass 0 false (guardWaits 0 (atStart (uplink { classes := [(3, { frames := [frame60] })] }))) =
      some (3, frame60) := by
  decide +kernel

/-- Port 0 with a pre-empted frame held and pre-emption active, so that class 2 is preemptable. -/
def preempted : Device := put F.REDUN_PE_CFG_PREEMPTABLE 0x04 0 0
  (uplink { held := some sending, verify := .succeeded, classes := [(2, { frames := [frame60] })] })

theorem wit_Transmission_resumes : pickClass 0 false (guardWaits 0 (atStart (uplink { held := some sending }))) = none ∧
    ((guardWaits 0 (atStart (uplink { held := some sending }))).port 0).held = some sending ∧
    heldMay 0 (guardWaits 0 (atStart (uplink { held := some sending }))) = some sending ∧
    (let d := uplink { held := some sending, pauseEnd := [(2, some 2000)] }
     pickClass 0 false (guardWaits 0 (atStart d)) = none ∧ heldMay 0 (guardWaits 0 (atStart d)) = none) ∧
    (let d := guardWaits 0 (atStart (preempted.setPort 0 { preempted.port 0 with held := none }))
     pickClass 0 false d = none ∧ (d.port 0).held = none ∧ pickClass 0 true d = some (2, frame60)) ∧
    pickClass 0 true (guardWaits 0 (atStart (uplink {}))) = none := by decide +kernel

theorem wit_Transmission_launches : ((uplink { now := some sending }).port 0).now = some sending ∧
    ((uplink {}).port 0).now = none ∧
    ((timedPort 1251).port 0).launch = [] ++ { frame60 with ctx := some (sendCtx60 1251 true) } :: [] ∧
    ¬ (nsT 1251 ≤ (timedPort 1251).now ((timedPort 1251).tb 0)) ∧
    (nsT 1247 ≤ (timedPort 1247).now ((timedPort 1247).tb 0) ∧
      nsT 2 < (timedPort 1247).now ((timedPort 1247).tb 0) - nsT 1247) ∧
    (nsT 1248 ≤ (timedPort 1248).now ((timedPort 1248).tb 0) ∧
      ¬ (nsT 2 < (timedPort 1248).now ((timedPort 1248).tb 0) - nsT 1248) ∧ lineFree 0 (timedPort 1248) = true) ∧
    ((uplink { waits := [(0, { frame60 with ctx := some (sendCtx60 1250 true) })] }).port 0).waits.map (·.2) =
      [] ++ { frame60 with ctx := some (sendCtx60 1250 true) } :: [] := by decide +kernel

theorem wit_Transmission_preempts :
    (let d := uplink { now := some sending, ctrlDue := [[1]] }
     fragAt 0 sending 0 d = some (sentBytes 0 sending 0 d) ∧ wantsLine 0 sending 0 d = true) ∧
    fragAt 0 { sending with pe := false } 0 (uplink { now := some sending }) = none ∧
    wantsLine 0 sending 0 (uplink { now := some sending }) = false ∧ wantsLine 0 sending 0 (uplink closing) = false ∧
    found (fragAt 0 sending 0 (uplink closing)) (fun _ => true) = true ∧ sending.cls = some 2 ∧
    gateOpen 0 2 (uplink closing) = true ∧ inGuard 0 2 true (uplink closing) = true ∧
    inGuard 0 2 true (uplink { now := some sending }) = false ∧ closesFor 0 sending 2 (uplink closing) = true ∧
    (∀ c < 8, closesFor 0 sending c (uplink { now := some sending }) = false) ∧ sending.due = false ∧
    (let t := { sending with due := true }
     (let d := uplink { now := some t, ctrlDue := [[1]] }
      fragAt 0 t 0 d = some (sentBytes 0 t 0 d) ∧ wantsLine 0 t 0 d = true) ∧
     found (fragAt 0 t 0 (uplink { closing with now := some t })) (fun _ => true) = true ∧
     wantsLine 0 t 0 (uplink { closing with now := some t }) = false ∧
     closesFor 0 t 2 (uplink { closing with now := some t }) = true ∧
     fragAt 0 { t with pe := false } 0 (uplink { now := some t }) = none ∧
     wantsLine 0 t 0 (uplink { now := some t }) = false ∧
     ∀ c < 8, closesFor 0 t c (uplink { now := some t }) = false) ∧ Linked (ofDev base) ∧
    (let d := put F.HELM_SAMPLE_CFG_ENABLE 1 0 0 (put F.TRIM_HROW_B_SAMPLE_NS 1000)
     d.rb F.HELM_SAMPLE_CFG_ENABLE = true ∧ d.rung = 0 ∧ samplePeriod d ≠ 0 ∧
     d.passedNs d.net.sampleAt (samplePeriod d) = true) ∧
    base.rb F.HELM_SAMPLE_CFG_ENABLE = false := by decide +kernel

/-- A legal gate list of one entry, 1 ms. -/
def oneEntry : GateList := { en := true, cycle := 1000000, entries := [(0xFF, 1000000)] }
/-- A port with a change to that list pending for `ct` ns; now is 1,250 ns. -/
def pendingGate (ct : Int) : GatePend := { list := oneEntry, ct := ct }
/-- Gates with a list in force and a change to that list pending for `ct` ns. -/
def changing (ct : Int) : Port := { closing with pend := some (pendingGate ct) }
/-- A device whose administrative list of port 0 is legal. -/
def adminGate : Device := put F.HELM_GATE_CTRL_ADMIN_GATE_EN 1 0 0 (put F.HELM_GATE_CTRL_ADMIN_LIST_LEN 1 0 0
  (put F.HELM_GATE_CYCLE_CYCLE_NS 1000000 0 0 (put F.HELM_GATE_ADMIN_INTERVAL_NS 1000000)))

theorem wit_GateLists : Linked (ofDev base) ∧ ((uplink { pend := some (pendingGate 0) }).port 0).pend.isSome = true ∧
    (adminGate.port 0).pend = none ∧ gateListOk (adminList 0 adminGate) = true ∧
    adminGate.rg F.HELM_GATE_CTRL_ADMIN_LIST_LEN 0 ≤ 1024 ∧
    ¬ (gateListOk (adminList 0 (put F.HELM_GATE_CTRL_ADMIN_LIST_LEN 1025)) = true ∧
      (put F.HELM_GATE_CTRL_ADMIN_LIST_LEN 1025).rg F.HELM_GATE_CTRL_ADMIN_LIST_LEN 0 ≤ 1024) ∧
    (base.port 0).pend = none ∧ ((uplink { pend := some (pendingGate 1251) }).port 0).pend = some (pendingGate 1251) ∧
    nowNs oneEntry.tb base < (pendingGate 1251).ct ∧ (pendingGate 1250).ct ≤ nowNs oneEntry.tb base ∧
    gateListOk (adminList 0 base) = false ∧
    (base.port 0).oper.en = false ∧ nowNs closing.oper.tb (uplink closing) < closing.entryEnd ∧
    (let x : Port := { closing with entryEnd := 1250, now := none }
     x.oper.en = true ∧ x.entryEnd ≤ nowNs x.oper.tb (uplink x) ∧ x.now = none) ∧
    (let x := (uplink { pend := some (pendingGate 1251) }).port 0
     x.pend = some (pendingGate 1251) ∧ x.oper.en = false) ∧
    (let x := changing 1400
     nsUp (changeOper x (pendingGate 1400) (uplink x)) = 1400 ∧ x.oper.en = true ∧ x.entryEnd ≠ 1400) ∧
    (let x := changing 1300
     nsUp (changeOper x (pendingGate 1300) (uplink x)) = 1300 ∧ x.oper.en = true ∧ x.entryEnd = 1300 ∧
       holdFrom x.oper (changeOper x (pendingGate 1300) (uplink x)) = none) ∧
    (let x := { changing 2300 with oper := { closing.oper with ext := 500 }, entryEnd := 2300 }
     nsUp (changeOper x (pendingGate 2300) (uplink x)) = 2300 ∧ x.oper.en = true ∧ x.entryEnd = 2300 ∧
       holdFrom x.oper (changeOper x (pendingGate 2300) (uplink x)) = some 2000) := by decide +kernel

/-- Port 0 in SLEEP at 1 Gbit/s, with a wake pattern of one byte, 0. -/
def patterned : Device := withPort { st := .sleep } (put F.PORT_MODE_MODE 1 0 0 (put F.PORT_WAKE_CFG_ENABLE 1 0 0
  (put F.PORT_WAKE_CFG_LEN 1 0 0 (put F.PORT_WAKE_MASK_LO_MASK 1 0 0 (put F.PORT_WAKE_CFG_CHECK (crc32 [0]))))))
/-- Port 0 in SLEEP, waking on a signal. -/
def asleep : Device := withPort { st := .sleep } (put F.PORT_WAKE_CTRL_WAKE_ON_SIGNAL 1)

theorem wit_PortStates : Powered (ofDev base) ∧ ((withPort { st := .start }).port 0).st = .start ∧
    refLost 0 (withPort { st := .start }) = false ∧ ¬ ((base.port 0).st = .start ∨ (base.port 0).st = .recovery) ∧
    refLost 0 { base with net.refLost := [(0, true), (1, true)] } = true ∧ ((uplink {}).port 0).st = .run ∧
    (base.port 0).st ≠ .run ∧
    (uplink {}).portRun 0 = true ∧ ((withPort { st := .recovery, recoverFrom := some 0 }).port 0).recoverFrom = some 0 ∧
    ({ base with raw := 8000000 } : Device).passedNs 0 10000000 = true ∧
     ((withPort { st := .recovery }).port 0).recoverFrom = none ∧
    (withPort { st := .start } (put F.PORT_MODE_AN_EN 1)).rb F.PORT_MODE_AN_EN 0 = true ∧
    tabGet false ({ base with net.refLost := [(1, true)] } : Device).net.refLost 1 = true ∧ Linked (ofDev base) ∧
    portTestOk 0 { base with st := .test } = true ∧ portTestOk 0 (uplink {}) = false ∧
    ((withPort { st := .test }).port 0).st = .test ∧
    base.rg F.PILOT_ARM_CFG_ROLE 0 = 0 ∧ (withPort { st := .test }
      (put F.PILOT_ARM_CFG_ROLE 1)).rg F.PILOT_ARM_CFG_ROLE 0 ≠ 0 ∧
    (patterned.port 0).st = .sleep ∧ ((uplink {}).port 0).st ≠ .sleep ∧ wakesByPattern 0 patterned = true ∧
    found ((List.range 8).find? fun k => wakeMatches 0 k (withFcs (List.replicate 60 0)) patterned)
      (fun k => k == 0) = true ∧
    wakesByPattern 0 asleep = false ∧ asleep.rb F.PORT_WAKE_CTRL_WAKE_ON_SIGNAL 0 = true ∧ (base.port 0).st ≠ .test := by
  decide +kernel

/-- A frame of 64 bytes from destination address `da` on, with its FCS, whose first bit was stamped at raw count 1,000. -/
def rx (head : Bytes) : RxFrame :=
  { bytes := withFcs (head ++ List.replicate (60 - head.length) 0), island := { count := 1000 } }
/-- A PAUSE frame of 5 quanta, or a PFC frame. -/
def macControl (op : BitVec 8 × BitVec 8) : RxFrame :=
  rx ([0x01, 0x80, 0xC2, 0, 0, 1, 0, 0, 0, 0, 0, 0, 0x88, 0x08, op.1, op.2, 0, 5] : Bytes)
/-- A port in RUN that is no arm. -/
def plain : Device := withPort { st := .run } (put F.PORT_MODE_MODE 1 0 0 (put F.PORT_FRAME_MAX_FRAME 1518))
/-- An arm in RUN, with the windows given. -/
def arm (l : List Window) : Device :=
  { withPort { st := .run } (put F.PILOT_ARM_CFG_ROLE 1 0 0 (put F.PORT_MODE_MODE 1)) with pilot.windows := l }
/-- A window of port 0 that admits any frame and closes at `close`. -/
def open_ (kind : WinKind) (close : Int) : Window :=
  { id := 4, port := 0, kind := kind, expect := 0, accLo := 0, accHi := 2 ^ 100, close := close, crossing := 9, branch := 0,
    idx := 0, chan := 0 }
/-- A port that sends PAUSE frames and has sent the last XOFF of class 7 long ago. -/
def xoff : Device := { withPort { st := .run } (put F.PORT_FLOW_MODE 1 0 0 (put F.PORT_FLOW_STATUS_XOFF 0x80 0 0
  (put F.PORT_MODE_MODE 1))) with raw := 80000000000 }

/-- An uplink of a device that listens for FIX frames. -/
def unbound : Device := { uplink {} with st := .muster }
/-- A FIX frame to the device's group address. -/
def fixHead : RxFrame := rx (beBytes 6 unbound.netCfg.groupAddr ++ beBytes 6 0 ++ beBytes 2 unbound.netCfg.etherType ++ [3])
/-- That port with pre-emption enabled. -/
def merging : Device := put F.REDUN_PE_CFG_ENABLE 1 0 0 plain

theorem wit_Reception : Powered (ofDev base) ∧ ((withPort { st := .fenced }).port 0).st = .fenced ∧
    (base.port 0).st ≠ .fenced ∧
    base.portRun 0 = false ∧ plain.portRun 0 = true ∧ (plain.port 0).st ≠ .fenced ∧
    ({ rx [] with delimiter := .first 0 false } : RxFrame).delimiter ≠ .express ∧
     ({ rx [] with delimiter := .unknown } : RxFrame).delimiter = .unknown ∧
    plain.rb F.REDUN_PE_CFG_ENABLE 0 = false ∧ merging.rb F.REDUN_PE_CFG_ENABLE 0 = true ∧ merging.portRun 0 = true ∧
    (reassemble 0 { rx [] with delimiter := .first 0 false } false merging).1 = none ∧
    found (reassemble 0 { rx [] with delimiter := .first 0 true } false merging).1
      (fun g => g.bytes == (rx []).bytes) = true ∧
    (rx []).delimiter = .express ∧ pilotJudges 0 (rx []).bytes plain = false ∧
    pilotJudges 0 (rx []).bytes (arm []) = true ∧
    (pilotJudge 0 (rxStamp 0 { count := 1000 } 0 (arm [])) (arm [])).1 = .block ∧ (arm []).portRun 0 = true ∧
    (pilotJudge 0 (rxStamp 0 { count := 1000 } 0 (arm [open_ .ferry 0])) (arm [open_ .ferry 0])).1 =
      .admitted (some (open_ .ferry 0)) ∧
    isMacControl (macControl (0, 1)).bytes = true ∧ beField (macControl (0, 1)).bytes 14 2 = 1 ∧
    beField (macControl (1, 1)).bytes 14 2 = 0x101 ∧ 14 ≤ (rx []).bytes.length ∧
    pilotJudges 0 fixHead.bytes unbound = true ∧
    (pilotJudge 0 (rxStamp 0 { count := 1000 } 0 unbound) unbound).1 = .admitted none ∧
    ¬ ((isMacControl (rx []).bytes && beField (rx []).bytes 14 2 == 1) = true) ∧
    ((put F.PORT_FLOW_MODE 2).count (portCnt 0 0x68)).rg F.PORT_FLOW_MODE 0 = 2 ∧
     (1000 : Word).toNat < ({ base with raw := 1001 } : Device).raw.toNat ∧
    ({ base with raw := 999 } : Device).raw.toNat < (1000 : Word).toNat ∧
    holdAdmits 0 (framePrio 0 (rx []).bytes plain) plain = false ∧
    ((put F.PORT_FLOW_MODE 1).count (portCnt 0 0x68)).rg F.PORT_FLOW_MODE 0 = 1 ∧
    tabGet none ((withPort { pauseEnd := [(7, some 1000)] }).port 0).pauseEnd 7 = some 1000 ∧
    (1000 : Word).toNat ≤ base.raw.toNat ∧
    tabGet none (base.port 0).pauseEnd 7 = none ∧
    ((List.range 8).filter fun k => bit (base.rg F.PORT_FLOW_STATUS_XOFF 0) k &&
      decide (quantaTicks 0 (base.rg F.PORT_FLOW_PAUSE_QUANTA 0 / 2) base ≤
        base.since (tabGet 0 (base.port 0).xoffAt k))) = [] ∧
    ((List.range 8).filter fun k => bit (xoff.rg F.PORT_FLOW_STATUS_XOFF 0) k &&
      decide (quantaTicks 0 (xoff.rg F.PORT_FLOW_PAUSE_QUANTA 0 / 2) xoff ≤
        xoff.since (tabGet 0 (xoff.port 0).xoffAt k))) ≠ [] ∧
    xoff.rg F.PORT_FLOW_MODE 0 = 1 := by decide +kernel

/-- A frame in the recirculation queue, bound for node 0 of bank 1. -/
def recirc : Recirc :=
  { port := 0, bytes := [], status := 0, stamp := { count := 0 }, bank := true, act0 := 0, act1 := 0, stop := 0,
    stopNode := 0,
    lenConflict := false, len := 0, hold := 0, at_ := 0 }
/-- An entry of a bank. -/
def ruleEnt : RuleEnt := { value := 1, mask := 3, act0 := 5, act1 := 7 }
/-- The device as a rule command for entry `i` of a bank, which waits for no other, finds it. -/
def ruleTaken (b : Bool) (i : Nat) (d : Device) : Device :=
  ({ d with freeCtr := d.freeCtr + 1 }.rub F.COMPASS_RULE_CMD_BANK b).ru F.COMPASS_RULE_CMD_INDEX i
/-- A device whose parse graph has a valid node 0, with entry 16,383 of bank 1 valid. -/
def ruled : Device := { put F.COMPASS_PG_NODE_VALID 1 with compass.bank1 := [(16383, some ruleEnt)] }

theorem wit_CompassCommands : Powered (ofDev base) ∧ base.compass.queue = [] ∧
    ({ base with compass.queue := [recirc] } : Device).compass.queue = recirc :: [] ∧ Linked (ofDev base) ∧
    bankWritable true (ruleTaken true 16383 ruled) = true ∧ actionBad (ruleTaken true 16383 ruled) = false ∧
    bankWritable false (ruleTaken false 0 ruled) = false ∧ actionBad (ruleTaken true 0 base) = true ∧
    tabGet none ((ruleTaken true 0 ruled).bank true) 0 = none ∧
    tabGet none ((ruleTaken true 16383 ruled).bank true) 16383 = some ruleEnt ∧ bankWritable true base = true ∧
    bankWritable false base = false ∧
    (ofDev { base with compass.busyEnd := 1001 }).dev.raw.toNat < (ofDev { base with compass.busyEnd := 1001 }).dev.compass.busyEnd.toNat ∧
    ¬ ((ofDev ruled).dev.raw.toNat < (ofDev ruled).dev.compass.busyEnd.toNat) := by decide +kernel

/-! ### Witnesses: host queues and the Tender -/

/-- A 32-byte unit of four words. -/
def unit (w0 w1 w2 w3 : Nat) : Bytes := leBytes 8 w0 ++ leBytes 8 w1 ++ leBytes 8 w2 ++ leBytes 8 w3
/-- Word 0 of an entry: opcode, LEN, CID 7 and the rest. -/
def word0 (op len rest : Nat) : Nat := op * 2 ^ 56 + len * 2 ^ 52 + 7 * 2 ^ 32 + rest
/-- A device whose queue q, of a kind, holds the units given. -/
def queued (q kind : Nat) (units : List Bytes) (d : Device := base) : Device :=
  d.setSq q { present := true, kind := kind, sizeLog2 := 6, prod := BitVec.ofNat 32 units.length, cache := units }
/-- A device whose completion queue q has made `n` completions and had one consumed. -/
def completing (q n : Nat) (notify : Bool) : Device :=
  base.setCq q { present := true, sizeLog2 := 6, prod := BitVec.ofNat 32 n, cons := 1, notify := notify }
/-- A submission queue that fetches 2 units and has tried `n` times. -/
def fetching (n : Nat) : Device := base.setSq 9 { present := true, sizeLog2 := 6, inflight := 2, tries := n }

theorem wit_QueueRegisters : Linked (ofDev base) ∧ ((queued 4095 0 []).sq 4095).present = true ∧ 4095 ≠ adminQ ∧
    (base.sq 9).present = false ∧ (base.cq 9).present = false ∧ ((completing 9 1 false).cq 9).present = true ∧
    ((completing 9 1 false).cq 9).notify = false ∧ ((completing 9 1 true).cq 9).notify = true ∧
    ((completing 9 1 true).cq 9).prod = ((completing 9 1 true).cq 9).cons ∧
    ((completing 9 2 true).cq 9).prod ≠ ((completing 9 2 true).cq 9).cons ∧
     prodRejected ((queued 9 0 []).sq 9) 64 = false ∧
    prodRejected ((queued 9 0 []).sq 9) 65 = true ∧
    ((2 : BitVec 32) - ((completing 9 2 true).cq 9).cons).toNat ≤
      (((completing 9 2 true).cq 9).prod - ((completing 9 2 true).cq 9).cons).toNat ∧
    (((completing 9 2 true).cq 9).prod - ((completing 9 2 true).cq 9).cons).toNat <
      ((3 : BitVec 32) - ((completing 9 2 true).cq 9).cons).toNat ∧ Powered (ofDev base) ∧
    ((base.setSq 9 { present := true, invalidating := true }).sq 9).invalidating = true ∧
     (base.sq 9).invalidating = false ∧
    ((fetching 0).sq 9).inflight ≠ 0 ∧ ((fetching 0).sq 9).deleting = none ∧ ((fetching 0).sq 9).invalidating = false ∧
    (List.replicate 64 (0 : Byte)).length = 32 * ((fetching 0).sq 9).inflight ∧ (base.sq 9).inflight = 0 ∧
    (List.replicate 63 (0 : Byte)).length ≠ 32 * ((fetching 0).sq 9).inflight ∧
    (((fetching 0).setSq 9 { (fetching 0).sq 9 with deleting := some 7 }).sq 9).deleting.isSome = true ∧
    (put F.QUEUE_ADMIN_CFG_ENABLE 1).rb F.QUEUE_ADMIN_CFG_ENABLE = true ∧ bit (0 : Word).toNat 63 = false ∧
    (base.sq adminQ).present = false ∧ ((queued adminQ 3 []).sq adminQ).present = true ∧
    ((put F.QUEUE_CFG_RETRY_MAX 1).setSq 9 { present := true, inflight := 2 }).rg F.QUEUE_CFG_RETRY_MAX = 1 ∧
    ((fetching 0).sq 9).tries < (put F.QUEUE_CFG_RETRY_MAX 1 0 0 (fetching 0)).rg F.QUEUE_CFG_RETRY_MAX ∧
    (put F.QUEUE_CFG_RETRY_MAX 1 0 0 (fetching 1)).rg F.QUEUE_CFG_RETRY_MAX ≤ ((fetching 1).sq 9).tries ∧
    base.rb F.QUEUE_ADMIN_CFG_ENABLE = false ∧ (base.cq adminQ).present = false ∧
    (let w : Word := BitVec.ofNat 64 (2 ^ 63 + 12 * 2 ^ 32 + 6 * 2 ^ 24)
     bit w.toNat 63 = true ∧ bit w.toNat 61 = false ∧ 6 ≤ bits w.toNat 28 24 ∧ bits w.toNat 28 24 ≤ 12 ∧
       6 ≤ bits w.toNat 36 32 ∧ bits w.toNat 36 32 ≤ 12) ∧
    (let w : Word := BitVec.ofNat 64 (2 ^ 63 + 13 * 2 ^ 32 + 6 * 2 ^ 24)
     bit w.toNat 63 = true ∧ bit w.toNat 61 = false ∧
       ¬ (6 ≤ bits w.toNat 28 24 ∧ bits w.toNat 28 24 ≤ 12 ∧ 6 ≤ bits w.toNat 36 32 ∧ bits w.toNat 36 32 ≤ 12)) := by
  decide +kernel

/-- A SEND queue whose head is a NOP; a unit of LEN 0, which is malformed; a SEND of one pair of `len` bytes. -/
def nopQ : Device := queued 9 2 [unit (word0 0 1 0) 0 0 0]
def badQ : Device := queued 9 2 [unit (word0 0 0 0) 0 0 0]
def sendQ (pairs len : Nat) : Device := queued 9 0 [unit (word0 1 1 pairs) 0 0x10000 len]
/-- A GENERAL queue whose head is a TENDER_RUN of channel c, which stands as given. -/
def tenderQ (c : Nat) (st : ChState) : Device := queued 9 2 [unit (word0 4 1 c) 0 0 0] (base.setChan c { st := st })
/-- A GENERAL queue whose head is an ACYCLIC_SEND without data for branch 0, which is in service on port 0. -/
def acySendQ (d : Device) : Device := queued 9 2 [unit (word0 3 1 0x20) 0 0 0] d

theorem wit_QueueEntries : Powered (ofDev base) ∧ headEntry 9 base = none ∧
    found (headEntry 9 badQ) (fun e => entryBadStatus (badQ.sq 9).kind e == some 0x02) = true ∧
    found (headEntry 9 nopQ) (fun e => entryBadStatus (nopQ.sq 9).kind e == none && bits (leWord e.bytes 0) 63 56 == 0 &&
      word0Reserved e.bytes == false && bits (leWord e.bytes 0) 63 56 != 1) = true ∧
    (let d := queued 9 2 [unit (word0 0 1 (2 ^ 48)) 0 0 0]
     found (headEntry 9 d) (fun e => entryBadStatus (d.sq 9).kind e == none && bits (leWord e.bytes 0) 63 56 == 0 &&
       word0Reserved e.bytes) = true) ∧
    right (entryPick 9 0 word0Reserved nopQ) (fun _ => true) = true ∧
    right (entryPick 9 0 word0Reserved base) (fun _ => true) = false ∧
    right (entryPick 9 2 rxPostReserved (queued 9 1 [unit (word0 2 1 0) 0x10000 64 0])) (fun _ => true) = true ∧
    right (entryPick 9 4 (fun b => word0Reserved b || entryUnits b != 1) (tenderQ 63 .idle))
      (fun e => leWord e.bytes 0 % 64 == 63) = true ∧ ((tenderQ 63 .idle).chan 63).st = .idle ∧
    ((tenderQ 16 .running).chan 16).st = .running ∧ ((tenderQ 16 .halted).chan 16).st = .halted ∧
    right (entryPick 9 4 (fun b => word0Reserved b || entryUnits b != 1) (tenderQ 15 .idle))
      (fun e => leWord e.bytes 0 % 64 == 15) = true := by decide +kernel

/-- A SEND queue whose entry holds its one pair in host memory at 0x20000. -/
def listQ : Device := queued 9 0 [unit (word0 1 1 (2 ^ 30 + 1)) 0x20000 0 0]
/-- A SEND queue whose extended entry asks for a stamp of type 1 at an offset inside the Ethernet header. -/
def stampQ : Device := queued 9 0 [unit (word0 1 2 (2 ^ 31 + 1)) 0 0x10000 60, unit (2 ^ 61) 0 0 0]

/-- A device with 256 requests of the host queues outstanding. -/
def noTag : Device := { sendQ 1 60 with hq.sqs := (List.range 256).map fun q => (q, { present := true, inflight := 2 }) }

theorem wit_QueueEntries_send : queueTag (sendQ 1 60) = true ∧ noTag.bme = true ∧ queueTag noTag = false ∧
    base.bme = true ∧ ({ base with pcie.pf0 := {} } : Device).bme = false ∧
    right (entryPick 9 1 sendReserved (sendQ 1 60)) (fun e => sgEntryOk e.bytes && !bit (leWord e.bytes 0) 30 &&
      sgPairsOk (sgPairs 1 (slice e.bytes 16 16 ++ e.bytes.drop 32)) &&
      stampOk (sendCtx e.bytes 0 60) (bits (leWord e.bytes 7) 63 32) 60) = true ∧
    right (entryPick 9 1 sendReserved (sendQ 1 13)) (fun e => sgEntryOk e.bytes &&
      !sgPairsOk (sgPairs 1 (slice e.bytes 16 16 ++ e.bytes.drop 32))) = true ∧
    right (entryPick 9 1 sendReserved stampQ) (fun e => sgEntryOk e.bytes && bit (leWord e.bytes 0) 31 &&
      sgPairsOk (sgPairs 1 (slice e.bytes 16 16 ++ e.bytes.drop 64)) &&
      !stampOk (sendCtx e.bytes 0 60) (bits (leWord e.bytes 7) 63 32) 60) = true ∧
    right (entryPick 9 1 sendReserved (sendQ 0 60)) (fun e => !sgEntryOk e.bytes) = true ∧
    right (entryPick 9 1 sendReserved listQ) (fun e => sgEntryOk e.bytes && bit (leWord e.bytes 0) 30 &&
      leWord e.bytes 0 % 512 == 1) = true ∧
    (listQ.sq 9).listTries < (put F.QUEUE_CFG_RETRY_MAX 1 0 0 listQ).rg F.QUEUE_CFG_RETRY_MAX ∧
    (put F.QUEUE_CFG_RETRY_MAX 0 0 0 listQ).rg F.QUEUE_CFG_RETRY_MAX ≤ (listQ.sq 9).listTries ∧
    (leBytes 8 0x10000 ++ leBytes 8 60).length = 16 * 1 ∧ ([] : Bytes).length ≠ 16 * 1 ∧
    sgPairsOk (sgPairs 1 (leBytes 8 0x10000 ++ leBytes 8 60)) = true ∧
    ((base.sq 9).sending = none) ∧
    (let d := (sendQ 1 60).setSq 9 { (sendQ 1 60).sq 9 with sending := some (sendCtx60 0 false) }
     (d.sq 9).sending = some (sendCtx60 0 false) ∧ found ((d.sq 9).entryAt 0) (fun _ => true) = true ∧
       (List.replicate 60 (0 : Byte)).length = (sendCtx60 0 false).frameLen ∧
       (List.replicate 59 (0 : Byte)).length ≠ (sendCtx60 0 false).frameLen ∧
       (List.replicate 8 (0 : Byte)).length = 8 ∧ (List.replicate 8 (0 : Byte)) = (sendCtx60 0 false).head ∧
       (List.replicate 8 (1 : Byte)) ≠ (sendCtx60 0 false).head) := by decide +kernel

/-- That queue with a DOWN window in use that takes at most 4 bytes, and an entry of `n` bytes of data. -/
def acyDownQ (n : Nat) : Device := put F.PILOT_ACY_CFG_MAX_DATA 4 0 0 (put F.PILOT_ACY_CFG_ENABLE 1 0 0
  (put F.PILOT_ACY_CFG_DIR 1 0 0 (put F.CROSS_BR_CFG_ENABLE 1 0 0 (queued 9 2 [unit (word0 3 1 0x20) 0 n 0]))))

theorem wit_QueueEntries_acyclic : queueTag (acyDownQ 4) = true ∧ (acyDownQ 4).bme = true ∧
    (let d := acySendQ (put F.CROSS_BR_CFG_ENABLE 1)
     right (entryPick 9 3 acyclicReserved d) (fun e => bits (leWord e.bytes 0) 31 27 == 0 &&
       leWord e.bytes 2 % 2 ^ 11 == 0) = true ∧
       ¬ (d.rb F.CROSS_BR_CFG_ENABLE 0 = false ∨ d.rg F.FIX_MUSTER_BR_RESULT 0 = 3 ∨ pathsOf 0 d = []) ∧
       downWindows 0 d = []) ∧
    right (entryPick 9 3 acyclicReserved (acySendQ base)) (fun _ => base.rb F.CROSS_BR_CFG_ENABLE 0 == false) = true ∧
    (∀ n < 6, right (entryPick 9 3 acyclicReserved (acyDownQ n)) (fun e => leWord e.bytes 2 % 2 ^ 11 == n) = true) ∧
    ¬ ((acyDownQ 4).rb F.CROSS_BR_CFG_ENABLE 0 = false ∨ (acyDownQ 4).rg F.FIX_MUSTER_BR_RESULT 0 =
      3 ∨ pathsOf 0 (acyDownQ 4) = []) ∧
    downWindows 0 (acyDownQ 5) = [0] ∧ (acyDownQ 5).rg F.PILOT_ACY_CFG_MAX_DATA 0 0 = 4 ∧ 0 ≤ 4 ∧ 4 ≤ 4 ∧ ¬ 5 ≤ 4 ∧
    ([1, 2, 3, 4] : Bytes).length = 4 ∧ ([] : Bytes).length ≠ 4 := by decide +kernel

/-- A device whose admin queue holds a command of two units. -/
def admin (op w0 w1 w2 : Nat) (d : Device := { base with hq.createOk := true }) : Device :=
  (queued adminQ 3 [unit (word0 op 2 w0) w1 w2 0, unit 0 0 0 0] d).setCq adminQ
    { present := true, sizeLog2 := 6, reserve := 4 }
/-- Word 2 of CREATE_CQ and of CREATE_SQ: 64 entries; a reservation of 4, or completion queue 1. -/
def cqWord : Nat := 4 * 2 ^ 48 + 6
def sqWord : Nat := 1 * 2 ^ 52 + 1 * 2 ^ 50 + 6

theorem wit_AdminCommands_pick :
    right (entryPick adminQ 0x01 (fun _ => false) (admin 0x01 4096 0x1000 cqWord))
      (fun e => leWord e.bytes 0 % 2 ^ 16 == 4096) = true ∧
    right (entryPick adminQ 0x01 (fun _ => false) (admin 0x01 (2 ^ 48) 0x1000 cqWord))
      (fun e => word0Reserved e.bytes) = true ∧
    right (entryPick adminQ 0x01 (fun _ => false) (admin 0x01 1 0x1000 cqWord { base with st := .halt }))
      (fun e => !word0Reserved e.bytes && entryUnits e.bytes == 2) = true ∧ 0x01 < 0x20 ∧
    chartOpAllowed 0x24 .halt = false ∧ chartOpAllowed 0x24 .run = true ∧
    right (entryPick adminQ 0x02 (fun _ => false) (admin 0x01 1 0x1000 cqWord)) (fun _ => true) = false := by decide +kernel

theorem wit_AdminCommands : Powered (ofDev base) ∧
    (let d := admin 0x01 4095 0x1000 cqWord
     right (adminPick 0x01 true (fun _ => false) d) (fun e =>
       let o := entryStart adminQ e 0 d
       createOk o.2 && !(o.2.cq 4095).present && leWord e.bytes 0 % 2 ^ 16 == 4095 && leWord e.bytes 1 % 4096 == 0 &&
         leWord e.bytes 2 == cqWord && decide (reservations o.2 + 4 ≤ 32768)) = true) ∧
    (6 ≤ cqWord % 32 ∧ cqWord % 32 ≤ 16 ∧ 4 ≤ bits cqWord 63 48) ∧
    (let d := (admin 0x01 1 0x1000 cqWord).setCq 1 { present := true }
     right (adminPick 0x01 true (fun _ => false) d) (fun e => ((entryStart adminQ e 0 d).2.cq 1).present) = true) ∧
    (let d := ((admin 0x02 1 0 0).setCq 1 { present := true }).setSq 2 { present := true, cq := 1 }
     right (adminPick 0x02 true (fun _ => false) d) (fun e => ((entryStart adminQ e 0 d).2.cq 1).present &&
       (entryStart adminQ e 0 d).2.hq.sqs.any fun x => x.1 != adminQ && x.2.present && x.2.cq == 1) = true) ∧
    (let d := (admin 0x02 1 0 0).setCq 1 { present := true }
     right (adminPick 0x02 true (fun _ => false) d) (fun e => ((entryStart adminQ e 0 d).2.cq 1).present &&
       !(entryStart adminQ e 0 d).2.hq.sqs.any fun x => x.1 != adminQ && x.2.present && x.2.cq == 1) = true) ∧
    (let d := (admin 0x03 2 0x1000 sqWord).setCq 1 { present := true }
     right (adminPick 0x03 true (fun b => bits (leWord b 2) 51 50 == 3) d) (fun e =>
       let o := entryStart adminQ e 0 d
       createOk o.2 && !(o.2.sq 2).present && (o.2.cq (bits sqWord 63 52)).present && leWord e.bytes 2 == sqWord) = true) ∧
    (6 ≤ sqWord % 32 ∧ sqWord % 32 ≤ 16 ∧ bits sqWord 51 50 = 1) ∧
    (let d := (admin 0x03 2 0x1000 sqWord).setSq 2 { present := true }
     right (adminPick 0x03 true (fun b => bits (leWord b 2) 51 50 == 3) d)
       (fun e => ((entryStart adminQ e 0 d).2.sq 2).present && createOk (entryStart adminQ e 0 d).2) = true) ∧
    (let d := admin 0x04 4095 0 0
     right (adminPick 0x04 true (fun _ => false) d)
       (fun e => decide (leWord e.bytes 0 % 2 ^ 16 ≤ 4095) && !(d.sq 4095).present) = true ∧ d.st ≠ .halt) ∧
    (let d := (admin 0x04 2 0 0).setSq 2 { present := true }
     right (adminPick 0x04 true (fun _ => false) d) (fun _ => (d.sq 2).present) = true) ∧
    (let d := admin 0x07 0 0 0 (put F.GLOBAL_CFG_TEST_PERMITTED 1)
     right (adminPick 0x07 false (fun _ => false) d) (fun _ => true) = true ∧
       d.st = .run ∧ d.rb F.GLOBAL_CFG_TEST_PERMITTED = true) ∧
    (let d := admin 0x07 0 0 0 { base with st := .recovery }
     right (adminPick 0x07 false (fun _ => false) d) (fun _ => true) = true ∧
       d.st ≠ .run ∧ d.st ≠ .halt) ∧
    (let d := admin 0x07 0 0 0 { base with st := .halt }
     right (adminPick 0x07 false (fun _ => false) d) (fun _ => true) = false ∧ d.st = .halt) ∧
    (let d := admin 0x08 0 0 0 { base with st := .test }
     right (adminPick 0x08 false (fun _ => false) d) (fun _ => true) = true ∧
       d.st = .test) ∧
    (let d := admin 0x08 0 0 0
     right (adminPick 0x08 false (fun _ => false) d) (fun _ => true) = true ∧
       d.st ≠ .test ∧ d.st ≠ .halt) := by decide +kernel

/-- What CREATE_CQ (1) or CREATE_SQ (3) finds on a device: the entry it may run and the device after its start. -/
def creating (op : Nat) (d : Device) (f : Entry → Device → Bool) : Bool :=
  right (adminPick op true (fun b => op == 3 && bits (leWord b 2) 51 50 == 3) d) fun e => f e (entryStart adminQ e 0 d).2

theorem wit_AdminCommands_cases :
    creating 1 (admin 0x01 1 0x1000 cqWord base) (fun _ o => !createOk o) = true ∧
    creating 1 (admin 0x01 1 0x1001 cqWord) (fun e o => createOk o && leWord e.bytes 1 % 4096 != 0) = true ∧
    creating 1 (admin 0x01 1 0x1000 (cqWord - 1)) (fun e _ => decide (leWord e.bytes 2 % 32 < 6)) = true ∧
    creating 1 (admin 0x01 1 0x1000 (cqWord + 11)) (fun e _ => decide (16 < leWord e.bytes 2 % 32)) = true ∧
    creating 1 (admin 0x01 1 0x1000 (cqWord - 2 ^ 48)) (fun e _ => decide (bits (leWord e.bytes 2) 63 48 < 4)) = true ∧
    creating 1 (admin 0x01 1 0x1000 (cqWord + 32768 * 2 ^ 48)) (fun e o =>
      decide (32768 < reservations o + bits (leWord e.bytes 2) 63 48)) = true ∧
    creating 3 (admin 0x03 2 0x1000 sqWord base) (fun _ o => !createOk o) = true ∧
    creating 3 (admin 0x03 2 0x1000 sqWord) (fun _ o => !(o.sq 2).present && !(o.cq 1).present) = true ∧
    creating 3 ((admin 0x03 2 0x1001 sqWord).setCq 1 { present := true }) (fun e o =>
      (o.cq 1).present && leWord e.bytes 1 % 4096 != 0) = true ∧
    creating 3 ((admin 0x03 2 0x1000 (sqWord + 11)).setCq 1 { present := true }) (fun e _ =>
      decide (16 < leWord e.bytes 2 % 32)) = true ∧
    creating 3 ((admin 0x03 2 0x1000 (sqWord - 2 ^ 50)).setCq 1 { present := true }) (fun e o =>
      bits (leWord e.bytes 2) 51 50 == 0 && !egressOk (bits (leWord e.bytes 2) 46 42) o) = true := by decide +kernel

/-- A run whose descriptor stands at 0x4000. -/
def run0 : TenderRun := { descAddr := 0x4000 }
/-- A copy of 64 bytes from 0x1000 to 0x2000, as a descriptor with LAST and as its 64 bytes. -/
def copy64 : TenderDesc :=
  { op := 1, barrier := false, last := true, srcSpace := 0, length := 64, src := [{ addr := 0x1000, len := 64 }],
    dst := [{ addr := 0x2000, len := 64 }], dstSpace := 0, pattern := 0, next := 0 }
def copyBytes : Bytes := unit (2 ^ 56 + 2 ^ 54 + 64) 0x1000 0x2000 0 ++ unit 0 0 0 0
/-- A descriptor with a destination list, and a run whose source list is being read. -/
def listBytes : Bytes := unit (2 ^ 56 + 2 ^ 54 + 2 ^ 53 + 2 ^ 52 + 64) 0x1000 0x2000 0 ++ unit 0 0 0 0
def listing : TenderRun := { run0 with reading := .list false 0x1000 32, listed := [false], tries := 1 }
/-- Channel c with that run, or with another. -/
def tending (c : Nat) (r : TenderRun := run0) : Device := base.setChan c { st := .running, run := some r }
/-- A run that waits for bytes 0 to 63 of its source, and one that waits for its confirming read. -/
def reading : TenderRun := { run0 with desc := some copy64, reads := [{ dst := false, off := 0, len := 64 }] }
def confirming : TenderRun := { run0 with desc := some copy64, confirming := true }

theorem wit_TenderChannels : Powered (ofDev base) ∧ (base.chan 63).run = none ∧ ((tending 63).chan 63).run = some run0 ∧
    run0.reading = .desc ∧ metaComes run0 .desc = true ∧ metaComes run0 (.list false 0x1000 32) = true ∧
    metaComes listing .desc = false ∧ metaComes listing (.list false 0x1000 32) = true ∧
    metaComes listing (.list true 0x2000 32) = true ∧ metaComes reading .desc = false ∧
    listing.tries < (put F.TENDER_CFG_RETRY_MAX 2).rg F.TENDER_CFG_RETRY_MAX ∧
    (put F.TENDER_CFG_RETRY_MAX 1).rg F.TENDER_CFG_RETRY_MAX ≤ listing.tries ∧
    (put F.TENDER_CFG_RETRY_MAX 0).rg F.TENDER_CFG_RETRY_MAX ≤
      ({ listing with reading := .list true 0x2000 32, tries := 0, listed := [true, false] } : TenderRun).tries ∧
    (bit (leWord listBytes 0) 53 = true ∧ listing.listed.contains false = true ∧ run0.listed.contains false = false ∧
      bit (leWord listBytes 0) 52 = true ∧ listing.listed.contains true = false) ∧
    readFree base = true ∧ readFree { base with pcie.pf0 := {} } = false ∧
    run0.metaDue = false ∧ run0.desc = none ∧ parseDesc copyBytes [] [] = some copy64 ∧
    parseDesc (List.replicate 64 0) [] [] = none ∧ run0.tries < (put F.TENDER_CFG_RETRY_MAX 1).rg F.TENDER_CFG_RETRY_MAX ∧
    (put F.TENDER_CFG_RETRY_MAX 0).rg F.TENDER_CFG_RETRY_MAX ≤ run0.tries ∧ ([7] : Bytes) ≠ [] ∧
    readCovers false 63 1 reading.reads = true ∧ readCovers false 64 1 reading.reads = false ∧
    reading.desc = some copy64 ∧
    readCovers false 0 1 reading.reads = true ∧ confirming.desc = some copy64 ∧ confirming.confirming = true ∧
    reading.confirming = false ∧ hostChan 16 = true ∧ hostChan 63 = true ∧ hostChan 15 = false ∧ hostChan 64 = false ∧
    run0.again = none ∧ ¬ (reading.metaDue = false ∧ reading.again = none ∧ reading.desc = none) ∧ base.bme = true ∧
    ({ tending 63 with pcie.pf0 := {} } : Device).bme = false ∧
    (bit (leWord (unit (2 ^ 53) 0 0 0) 0) 53 = true ∧
     ¬ (bit (leWord copyBytes 0) 53 = true ∨ bit (leWord copyBytes 0) 52 = true)) ∧
    run0.descAddr = 0x4000 ∧ Linked (ofDev base) ∧ 16 ≤ 16 ∧ 63 ≤ 63 ∧
    ((base.setChan 16 { st := .halted }).chan 16).st = .halted ∧ (base.chan 16).st ≠ .halted ∧ 15 < 16 ∧ 63 < 64 := by
  decide +kernel

/-! ### Witnesses: crossings, the hand-over, Pilot and muster -/

/-- A frame of a train, and a skiff, that leave at `t` ns; a run of branch 3 in crossing 0 with one of each kind given. -/
def frameAt (t : Int) (ready : Bool) : FrameRun :=
  { len := 64, pduLen := 20, first := 0, count := 0, launchAt := nsT t, ready := ready }
def skiffAt (t : Int) : SkiffRun := { len := 64, pduLen := 20, berths := [], launchAt := nsT t }
def runOf (start deadline : Int) (frames : List FrameRun) (skiffs : List SkiffRun := []) : Run :=
  { branch := 3, crossing := 0, start := nsT start, deadline := nsT deadline,
    test := false, last := 0, submult := 0, frames := frames,
    berths := [], skiffs := skiffs }
/-- A device in crossing 0 of 31,250 ns with these runs; the crossing clock stands at 1,250 ns. -/
def crossing (l : List Run) : Device :=
  { put F.CROSS_PERIOD_PERIOD_NS 31250 with cross := { epoch := true, current := some 0, runs := l } }
/-- A window of branch 3 for frame 0 of crossing 0, closing at `t` ns, and a frame that came through it. -/
def window (kind : WinKind) (t : Int) : Window := { open_ kind (nsT t) with crossing := 0, branch := 3 }
def handed (kind : WinKind) (pdu : Bytes) : Handed :=
  { port := 0, win := some (window kind 0), bytes := List.replicate 14 0 ++
    pdu, off := 14, stamp := { count := 900 }, rxStatus := 0,
    endAt := 0 }
/-- A device with that frame handed over. -/
def holding (kind : WinKind) (pdu : Bytes) (d : Device := base) : Device := { d with pilot.handed := [handed kind pdu] }
/-- A cycle point entry that is due now. -/
def due0 : CpDue := { point := 63, crossing := 0, milestone := 0, branch := 0, at_ := 0, met := true }
/-- A device whose berth 65,535 is no spare but whose berth 1 is, on branch 3, where node 5 was found. -/
def spares : Device := { base with
  chart.berths := [{ node := 4 }, { node := 5, branch := 3, spare := true }], muster.found := [(3, [5])] }
/-- An own ACYCLIC frame that waits. -/
def acyOut : AcyOut :=
  { node := 1, mbx := 1, seq := 0, data := [],
    entry := { sq := 9, cid := 7, opcode := 3, batchEnd := false, tb := 0, id := 0 } }
/-- Branch 3 with that frame waiting and ACYCLIC window 3 as a DOWN window. -/
def acyclic : Device :=
  (put F.PORT_MODE_MODE 1 0 0 (put F.PILOT_ACY_CFG_ENABLE 1 3 3
    (put F.PILOT_ACY_CFG_DIR 1 3 3 (crossing [runOf 1250 2000 []])))).setBranch 3
    { acyQueue := [acyOut] }
/-- The PDU of a node's ACYCLIC frame: NODE_ADDR `a`, mailbox 1, SEQ 2, WINDOW `w`. -/
def acyPdu (a w : Nat) : Bytes := List.replicate 12 0 ++ ([0, 0, BitVec.ofNat 8 a, 1, 2, BitVec.ofNat 8 w] : Bytes)

/-- A run whose skiff carries berth 7, whose ferry frame was lost, or was not. -/
def skiffOf (lost : Bool) : Run :=
  { runOf 0 2000 [{ frameAt 1000 true with lost := lost }] [{ skiffAt 1300 with berths := [7] }] with
    berths := [{ idx := 7, frame := 0, pos := 20, sent := [], spare := false, absent := false, safe := false,
                 stale := false, outAge := 0 }] }

theorem wit_CrossingCommands : skiffLost (skiffOf true) { skiffAt 1300 with berths := [7] } = true ∧
    skiffLost (skiffOf false) { skiffAt 1300 with berths := [7] } = false ∧
    skiffLost (runOf 0 2000 [] [skiffAt 1250]) (skiffAt 1250) = false ∧ Powered (ofDev base) ∧
    base.runWith 3 (frameWaiting 0) = none ∧
    (crossing [runOf 0 2000 [frameAt 1250 false]]).runWith 3 (frameWaiting 0) = some (runOf 0 2000 [frameAt 1250 false]) ∧
    (runOf 0 2000 [frameAt 1250 false]).frames[0]? = some (frameAt 1250 false) ∧
    (frameAt 1250 false).launchAt ≤ (crossing []).xNow ∧
    (crossing [runOf 0 2000 [frameAt 1251 false]]).runWith 3 (frameWaiting 0) = some (runOf 0 2000 [frameAt 1251 false]) ∧
    (runOf 0 2000 [frameAt 1251 false]).frames[0]? = some (frameAt 1251 false) ∧
    (crossing []).xNow < (frameAt 1251 false).launchAt ∧ base.runWith 3 (frameDue 0 base.xNow) = none ∧
    (crossing [runOf 0 2000 [frameAt 1250 true]]).runWith 3 (frameDue 0 (crossing []).xNow) =
      some (runOf 0 2000 [frameAt 1250 true]) ∧
    (frameAt 1250 true).ready = true ∧ (runOf 0 2000 [frameAt 1250 true]).frames[0]? = some (frameAt 1250 true) ∧
    (crossing [runOf 0 2000 [frameAt 1250 false]]).runWith 3 (frameDue 0 (crossing []).xNow) =
      some (runOf 0 2000 [frameAt 1250 false]) ∧
    (frameAt 1250 false).ready = false ∧ base.runWith 3 (skiffDue base.xNow) = none ∧
    (crossing [runOf 0 2000 [] [skiffAt 1250]]).runWith 3 (skiffDue (crossing []).xNow) =
      some (runOf 0 2000 [] [skiffAt 1250]) ∧
    (runOf 0 2000 [] [skiffAt 1250]).skiffs.getLast? = some (skiffAt 1250) ∧
    (let d := crossing [runOf 0 2000 [] [skiffAt 1250]]
     let x := logSlack 1 (slackX ((skiffAt 1250).launchAt - readyMargin d) 900 d) d
     x.timeAt .x { count := 900 } < (skiffAt 1250).launchAt ∧
     x.timeAt .x { count := 900 } ≤ (skiffAt 1250).launchAt - readyMargin d ∧
       (skiffAt 1250).launchAt ≤ x.timeAt .x { count := 1000 }) ∧
    (let d := holding .ferry [] (crossing [runOf 0 2000 [frameAt 1250 true]])
     found (takeHanded 0 (handedKind .ferry) d) (fun h => h.1.win == some (window .ferry 0) &&
       (h.2.runOf 3 0).isSome) = true) ∧
    found (takeHanded 0 (handedKind .ferry) (holding .ferry [])) (fun h => h.2.runOf 3 0 == none) = true ∧
    found (takeHanded 0 (handedKind .skiff) (holding .skiff [])) (fun h => h.2.runOf 3 0 == none) = true ∧
    (let d := holding .skiff [] (crossing [runOf 0 2000 [] [skiffAt 1250]])
     found (takeHanded 0 (handedKind .skiff) d) (fun h => h.1.win == some (window .skiff 0) &&
       found (h.2.runOf 3 0) fun r => r.skiffs[(window .skiff 0).idx]? == some (skiffAt 1250)) = true) ∧
    takeHanded 0 (handedKind .ferry) base = none ∧ takeHanded 0 (handedKind .skiff) base = none ∧
    (let d := { base with pilot.windows := [window .ferry 1250] }
     d.pilot.windows.find? (fun w => w.id == 4) = some (window .ferry 1250) ∧ (window .ferry 1250).kind ≠ .muster ∧
       (window .ferry 1250).used = false ∧ (window .ferry 1250).doneAt = none ∧ (window .ferry 1250).close ≤ d.xNow) ∧
    base.pilot.windows.find? (fun w => w.id == 4) = none ∧
    ¬ ((window .ferry 1251).close ≤ base.xNow) ∧ base.runWith 3 (fun r => !r.final) = none ∧
    (crossing [runOf 0 1251 []]).xNow < (runOf 0 1251 []).deadline ∧
    (let d := crossing [runOf 0 1250 []]
     d.runWith 3 (fun r => !r.final) = some (runOf 0 1250 []) ∧ (runOf 0 1250 []).deadline ≤ d.xNow ∧
       crossingOf (runOf 0 1250 []).deadline d ≤ d.crossingNo) ∧
    (let d := { base with cross.due := [due0] }
     d.cross.due.filter (fun e => e.point == 63 && e.met && decide (e.at_ ≤ d.xNow)) = [due0]) := by decide +kernel

theorem wit_CrossingCommands_spares :
    (let d := admin 0x05 1 22 0 spares
     right (adminPick 0x05 false (fun _ => false) d) (fun e =>
       let o := entryStart adminQ e 0 d
       let i := leWord e.bytes 0 % 2 ^ 16
       let v := leWord e.bytes 1 % 2 ^ 16
       let x := (o.2.chart.berths[i]?).getD ({} : BerthEntry)
       liveState o.2.st && x.spare && tabGet none (futureClaims o.2) i == none &&
         !(o.2.chart.berths.any fun y => !y.spare && y.node == v / 4 && y.bidx == v % 4) &&
         !((futureClaims o.2).any fun c => c.2 == some (v / 4, v % 4)) &&
           (tabGet [] o.2.muster.found x.branch).contains (v / 4)) = true) ∧
    (let d := admin 0x05 65535 22 0 spares
     right (adminPick 0x05 false (fun _ => false) d) (fun e =>
       let o := entryStart adminQ e 0 d
       liveState o.2.st && !((o.2.chart.berths[leWord e.bytes 0 % 2 ^ 16]?).getD ({} : BerthEntry)).spare) = true) ∧
    (let d := admin 0x05 1 22 0 { spares with st := .muster }
     right (adminPick 0x05 false (fun _ => false) d) (fun e => !liveState (entryStart adminQ e 0 d).2.st) = true) ∧
    (let d := admin 0x06 1 0 0 { spares with cross.claims := [(1, some (5, 2))] }
     right (adminPick 0x06 false (fun _ => false) d) (fun e =>
       let o := entryStart adminQ e 0 d
       liveState o.2.st && (tabGet none (futureClaims o.2) (leWord e.bytes 0 % 2 ^ 16)).isSome) = true) ∧
    (let d := admin 0x06 1 0 0 spares
     right (adminPick 0x06 false (fun _ => false) d) (fun e =>
       let o := entryStart adminQ e 0 d
       liveState o.2.st && tabGet none (futureClaims o.2) (leWord e.bytes 0 % 2 ^ 16) == none) = true) := by decide +kernel

/-- What CLAIM_SPARE finds on a device. -/
def claiming (d : Device) (f : Nat → BerthEntry → Device → Bool) : Bool :=
  right (adminPick 0x05 false (fun _ => false) d) fun e =>
    let o := entryStart adminQ e 0 d
    f (leWord e.bytes 1 % 2 ^ 16) ((o.2.chart.berths[leWord e.bytes 0 % 2 ^ 16]?).getD {}) o.2

theorem wit_CrossingCommands_claims :
    right (adminPick 0x05 false (fun _ => false) spares) (fun _ => true) = false ∧
    right (adminPick 0x06 false (fun _ => false) spares) (fun _ => true) = false ∧
    claiming (admin 0x05 1 22 0 { spares with cross.claims := [(1, some (5, 2))] }) (fun _ y o =>
      y.spare && (tabGet none (futureClaims o) 1).isSome) = true ∧
    claiming (admin 0x05 1 16 0 spares) (fun v y o =>
      y.spare && o.chart.berths.any (fun y => !y.spare && y.node == v / 4 && y.bidx == v % 4)) = true ∧
    claiming (admin 0x05 1 26 0 spares) (fun v y o => y.spare &&
      !(o.chart.berths.any fun y => !y.spare && y.node == v / 4 && y.bidx == v % 4) &&
      !(tabGet [] o.muster.found y.branch).contains (v / 4)) = true := by decide +kernel

theorem wit_CrossingCommands_acyclic : (base.branch 3).acyQueue = [] ∧ (acyclic.branch 3).acyQueue = acyOut :: [] ∧
    (acyclic.cross.runs.filter fun r => r.branch == 3).getLast? = some (runOf 1250 2000 []) ∧
     violating acyclic.st = true ∧
    pathsOf 3 acyclic ≠ [] ∧ acyclic.rb F.PILOT_ACY_CFG_ENABLE 3 3 = true ∧ acyclic.rb F.PILOT_ACY_CFG_DIR 3 3 = true ∧
    (∀ q ∈ pathsOf 3 acyclic, (acyclic.port q.port).own = none) ∧
    (let d := put F.PILOT_ACY_CFG_DIR 0 3 3 acyclic
     (d.branch 3).acyQueue = acyOut :: [] ∧ ¬ (d.rb F.PILOT_ACY_CFG_DIR 3 3 = true)) ∧
    (let open_ := (runOf 1250 2000 []).start + nsT (acyclic.rg F.PILOT_ACY_GAP_GAP_NS 3 3)
     let most := nsT (branchWire 3 (armFrameLen (24 + acyclic.rg F.PILOT_ACY_CFG_MAX_DATA 3 3)) acyclic)
     let len := armFrameLen (24 + acyOut.data.length)
     open_ ≤ acyclic.xNow ∧ acyclic.xNow + lastBitT 3 len acyclic < open_ + most + acceptWindow acyclic) ∧
    (let own : OwnTx := { bytes := [], stop := 1000, stamp := { count := 0 } }
     ((acyclic.setPort 0 { own := some own }).port 0).own = some own ∧ own.stop.toNat ≤ acyclic.raw.toNat) ∧
    (base.cross.runs.filter fun r => r.branch == 3).getLast? = none ∧
    found (takeHanded 0 (handedKind .ownAcyclic) (holding .ownAcyclic [])) (fun _ => true) = true ∧
    takeHanded 0 (handedKind .ownAcyclic) base = none ∧
    (let d := holding .nodeAcyclic (acyPdu 1 0)
     found (takeHanded 0 (handedKind .nodeAcyclic) d) (fun h => h.1.win == some (window .nodeAcyclic 0) &&
       beField (h.1.bytes.drop h.1.off) 12 3 % 2 ^ 20 % 2 ^ 14 != windowOwner 3 0 0 h.2) = true) ∧
    (let d := holding .nodeAcyclic (acyPdu 0 0) { base with cross.acySeen := [(0, 1, 2)] }
     found (takeHanded 0 (handedKind .nodeAcyclic) d) (fun h =>
       let pdu := h.1.bytes.drop h.1.off
       let addr := beField pdu 12 3 % 2 ^ 20
       addr % 2 ^ 14 == windowOwner 3 0 0 h.2 && beField pdu 17 1 % 4 == 0 &&
         h.2.cross.acySeen.contains (addr, beField pdu 15 1, beField pdu 16 1)) = true) ∧
    (let d := holding .nodeAcyclic (acyPdu 0 1)
     found (takeHanded 0 (handedKind .nodeAcyclic) d) (fun h =>
       let pdu := h.1.bytes.drop h.1.off
       beField pdu 12 3 % 2 ^ 20 % 2 ^ 14 == windowOwner 3 0 0 h.2 && beField pdu 17 1 % 4 != 0) = true) ∧
    base.rb F.QUEUE_ACY_CFG_ENABLE = false ∧
    (let d := holding .nodeAcyclic (acyPdu 0 0) (put F.QUEUE_ACY_CFG_ENABLE 1)
     found (takeHanded 0 (handedKind .nodeAcyclic) d) (fun h =>
       let pdu := h.1.bytes.drop h.1.off
       let addr := beField pdu 12 3 % 2 ^ 20
       addr % 2 ^ 14 == windowOwner 3 0 0 h.2 && beField pdu 17 1 % 4 == 0 &&
         !h.2.cross.acySeen.contains (addr, beField pdu 15 1, beField pdu 16 1) &&
           h.2.rb F.QUEUE_ACY_CFG_ENABLE) = true) := by
  decide +kernel

/-- A device whose hand-over runs, in crossing 0, with the fetch and the snapshot given and a run of each channel that has
one; the image is of 8 bytes. -/
def handing (f : FetchSt) (s : Option Snapshot := none) (r0 r1 : Option TenderRun := none) : Device :=
  let d := put F.CARGO_STATUS_ATTACHED 1 0 0 (put F.CARGO_HOST_SLOTS_OUT_SLOTS 2 0 0
    (put F.CARGO_IMAGE_OUT_SIZE 8 0 0 (crossing [])))
  ({ d with cargo := { fetch := f, snap := s, lastOseq := some 5 } }.setChan 0 { run := r0 }).setChan 1 { run := r1 }
/-- A snapshot of crossing 0. -/
def snap0 : Snapshot := { crossing := 0, count := 1, from_ := 900 }
/-- The run that reads OUT_SEQ, before its read is issued or after. -/
def seqRun (due : Bool) : TenderRun := { descAddr := 0, metaDue := due }
/-- The run of a fetch that has asked for its 8 bytes and read `n` of them. -/
def fetchRun (n : Nat) : TenderRun :=
  { descAddr := 0, reqSrc := 8, done := n, reads := [{ dst := false, off := n, len := 8 - n }] }

theorem wit_HandoverCommands_fetch : Powered (ofDev base) ∧ base.cross.current = none ∧
    (handing .none).cross.current = some 0 ∧
    (handoverRuns (handing .none) = true ∧ (handing .none).cargo.fetchPoint ≠ some 0 ∧
      boundaryT 0 (handing .none) + nsT ((handing .none).rg F.CARGO_TIMING_FETCH_AT) ≤ (handing .none).xNow) ∧
    ({ handing .none with cargo.fetchPoint := some 0 } : Device).cargo.fetchPoint = some 0 ∧
    ((handing .none).cargo.fetch = .none ∧ ((handing .none).chan 0).st ≠ .halted) ∧
     (handing (.seq 0)).cargo.fetch ≠ .none ∧
    (handing .none).bme = true ∧ ({ handing .none with pcie.pf0 := {} } : Device).bme = false ∧
    (handing (.seq 0)).cargo.fetch = .seq 0 ∧ bit (0 : Word).toNat 63 = false ∧ handoverRuns base = false ∧
    (handing (.seq 0)).cargo.lastOseq = some ((BitVec.ofNat 64 (2 ^ 63 + 5) : Word).toNat % 2 ^ 32) ∧
    (let v : Word := BitVec.ofNat 64 (2 ^ 63 + 1 * 2 ^ 32 + 6)
     bit v.toNat 63 = true ∧ (handing (.seq 0)).cargo.lastOseq ≠ some (v.toNat % 2 ^ 32) ∧
       bits v.toNat 39 32 < (handing (.seq 0)).rg F.CARGO_HOST_SLOTS_OUT_SLOTS) ∧
    (let v : Word := BitVec.ofNat 64 (2 ^ 63 + 2 * 2 ^ 32 + 6)
     bit v.toNat 63 = true ∧ (handing (.seq 0)).cargo.lastOseq ≠ some (v.toNat % 2 ^ 32) ∧
       (handing (.seq 0)).rg F.CARGO_HOST_SLOTS_OUT_SLOTS ≤ bits v.toNat 39 32) ∧
    ((handing .none).chan 0).run = none ∧ (handing (.image 0 1 6) none (some (fetchRun 4))).cargo.fetch = .image 0 1 6 ∧
    ((handing (.image 0 1 6) none (some (fetchRun 4))).chan 0).run = some (fetchRun 4) ∧ ([1, 2, 3, 4] : Bytes) ≠ [] ∧
    readCovers false 4 4 (fetchRun 4).reads = true ∧ readCovers false 5 4 (fetchRun 4).reads = false ∧
    ((fetchRun 4).reqSrc = 8 ∧ (fetchRun 4).done + 4 = (handing .none).rg F.CARGO_IMAGE_OUT_SIZE) ∧
    (fetchRun 4).done + 3 ≠ (handing .none).rg F.CARGO_IMAGE_OUT_SIZE := by decide +kernel

theorem wit_HandoverCommands_transfers :
    outSeqDue (handing (.seq 0) none (some (seqRun true))) = true ∧
    outSeqDue (handing (.seq 0) none (some (seqRun false))) = false ∧
    (handing (.seq 0) none (some (seqRun false))).cargo.fetch = .seq 0 ∧
    ((handing (.seq 0) none (some (seqRun true))).chan 0).run = some (seqRun true) ∧ (seqRun true).metaDue = true ∧
    ((handing (.seq 0) none (some (seqRun false))).chan 0).run = some (seqRun false) ∧ (seqRun false).metaDue = false ∧
    ((handing .none (some snap0) none (some reading)).chan 1).run = some reading ∧ 0 ≠ 1 ∧
    handoverRuns { handing .none with st := .halt } = false ∧ ((handing (.seq 0)).chan 0).run = none ∧
    (handing .none (some snap0) none (some confirming)).cargo.snap = some snap0 ∧ (handing .none).cargo.snap = none ∧
    handoverRuns (handing .none (some snap0) none (some confirming)) = true ∧
    ((handing .none (some snap0) none (some confirming)).chan 1).run = some confirming ∧ confirming.confirming = true ∧
    reading.confirming = false ∧ ((handing .none).chan 1).run = none ∧
    (fetchRun 0).tries < (put F.TENDER_CFG_RETRY_MAX 1).rg F.TENDER_CFG_RETRY_MAX ∧
    (put F.TENDER_CFG_RETRY_MAX 0).rg F.TENDER_CFG_RETRY_MAX ≤ (fetchRun 0).tries ∧
    (let d := handing (.image 0 1 6) none (some (fetchRun 4))
     let v : Word := BitVec.ofNat 64 (outSlotAddr 1 d + 7)
     outSlotAddr 1 d ≤ v.toNat ∧ readCovers false (v.toNat - outSlotAddr 1 d) 1 (fetchRun 4).reads = true ∧
       readCovers false 8 1 (fetchRun 4).reads = false) ∧
    hostChan 15 = false ∧ hostChan 0 = false ∧
    ({ base with cargo.errDue := true } : Device).cargo.errDue = true ∧
    (put F.CARGO_ERR_INFO_ERR_RUN 4 0 0 (put F.CARGO_TIMING_ERR_LIMIT 4)).rg F.CARGO_TIMING_ERR_LIMIT ≤
      (put F.CARGO_ERR_INFO_ERR_RUN 4 0 0 (put F.CARGO_TIMING_ERR_LIMIT 4)).rg F.CARGO_ERR_INFO_ERR_RUN ∧
    (handing .none).rb F.CARGO_STATUS_ATTACHED = true ∧ base.rb F.CARGO_STATUS_ATTACHED = false ∧
     base.cargo.errDue = false ∧
    (put F.CARGO_ERR_INFO_ERR_RUN 3 0 0 (put F.CARGO_TIMING_ERR_LIMIT 4)).rg F.CARGO_ERR_INFO_ERR_RUN <
      (put F.CARGO_ERR_INFO_ERR_RUN 3 0 0 (put F.CARGO_TIMING_ERR_LIMIT 4)).rg F.CARGO_TIMING_ERR_LIMIT ∧
       Linked (ofDev base) ∧
    (put F.CARGO_BR_POLICY_LATCHED 1 31).rb F.CARGO_BR_POLICY_LATCHED 31 = true ∧
     base.rb F.CARGO_BR_POLICY_LATCHED 31 = false := by
  decide +kernel

/-- An arm with FENCE_EN whose violations of crossing 0 are `n`, with a limit of 3. -/
def violated (n : Nat) : Device :=
  (put F.PILOT_ARM_CFG_FENCE_EN 1 0 0 (put F.PILOT_FENCE_CFG_VIOLATION_LIMIT 3 0 0 (put F.PILOT_FENCE_CFG_FENCE_PERIOD 8 0 0
    (crossing [])))).setArm 0 { viols := [(0, n)] }
/-- A device in MUSTER whose channel 0 of branch 3 has a frame in flight in window 4. -/
def mustering : Device :=
  let sent : MusterSent := { crossing := 0, op := 2, skip := 0, entryMax := 0, stamp := { count := 0 }, window := 4 }
  { base.setMch 0 { sent := some sent } with
    st := .muster, pilot.windows := [window .muster 1250] }

theorem wit_PilotAndMuster :
    (let d := holding .muster (List.replicate 9 0 ++ [1] ++ List.replicate 10 0) mustering
     found (takeHanded 0 (handedKind .muster) d) (fun h => h.2.st == .muster &&
       found (h.2.mch 0).sent (fun g => g.crossing != (gvParse (h.1.bytes.drop h.1.off)).crossing)) = true) ∧
    (let d := holding .muster ([0, 0, 0x40] ++ List.replicate 17 0) (mustering.setMch 9
       { sent := some { crossing := 0, op := 1, skip := 0, entryMax := 0, stamp := { count := 0 }, window := 5 } })
     found (takeHanded 0 (handedKind .muster) (put F.CROSS_BR_CFG_PORT_B 9 3 0 d)) (fun h =>
       (gvParse (h.1.bytes.drop h.1.off)).chan == 1 && portB 3 h.2 == 9 && (h.2.mch 9).sent.isSome &&
       found (h.2.mch 0).sent (fun v => v.window == (window .muster 0).id)) = true) ∧ Powered (ofDev base) ∧
       (violated 3).rb F.PILOT_ARM_CFG_FENCE_EN 0 = true ∧
    ((violated 3).arm 0).st = .serving ∧ 0 < violRecent 0 (violated 3) ∧
    (violated 3).rg F.PILOT_FENCE_CFG_VIOLATION_LIMIT ≤ violRecent 0 (violated 3) ∧
    violRecent 0 (violated 2) < (violated 2).rg F.PILOT_FENCE_CFG_VIOLATION_LIMIT ∧
    (put F.PILOT_ARM_STATE_REMAIN 1).rg F.PILOT_ARM_STATE_REMAIN 0 ≠ 0 ∧ base.rg F.PILOT_ARM_STATE_REMAIN 0 = 0 ∧
    ((base.setArm 0 { st := .fenced }).arm 0).st = .fenced ∧
     ((base.setArm 0 { st := .probation }).arm 0).st = .probation ∧
    Linked (ofDev base) ∧ ((base.setArm 0 { st := .locked }).arm 0).st = .locked ∧ (base.arm 0).st = .serving ∧
    takeHanded 0 (handedKind .muster) base = none ∧
    found (takeHanded 0 (handedKind .muster) (holding .muster [])) (fun h => (h.2.mch 0).sent == none) = true ∧
    found (takeHanded 0 (handedKind .muster) (holding .muster [] { mustering with st := .run })) (fun h =>
      (h.2.mch 0).sent.isSome && h.2.st == .run) = true ∧
    (let d := holding .muster (List.replicate 18 0 ++ [0, 1]) mustering
     found (takeHanded 0 (handedKind .muster) d) (fun h => decide (0 < beField (h.1.bytes.drop h.1.off) 18 2) &&
       (h.2.mch 0).sent.isSome && h.2.st == .muster) = true) ∧
    (let d := holding .muster (List.replicate 20 0) { mustering with muster.stage := [(3, 1)] }
     found (takeHanded 0 (handedKind .muster) d) (fun h => h.2.mstage 3 == 1 &&
       !(gvParse (h.1.bytes.drop h.1.off)).ret) = true) ∧
    ({ mustering with muster.chans := [] } : Device).pilot.windows = mustering.pilot.windows ∧
    (({ mustering with muster.chans := [] } : Device).mch 0).sent = none ∧
    (let d := holding .muster (List.replicate 20 0) mustering
     found (takeHanded 0 (handedKind .muster) d) (fun h => h.1.win == some (window .muster 0) && (h.2.mch 0).sent.isSome &&
       found (h.2.mch 0).sent (fun g => g.window == 4 && decide (beField (h.1.bytes.drop h.1.off) 18 2 ≤ g.entryMax)) &&
       h.2.st == .muster && h.2.mstage 3 == 0) = true ∧
     d.pilot.windows.find? (fun w => w.port == 0 && w.kind == .muster &&
       decide (w.close ≤ d.xNow)) = some (window .muster 1250) ∧
     (d.pilot.handed.any fun h => h.port == 0 && handedKind .muster h) = true) ∧
    base.pilot.windows.find? (fun w => w.port == 0 && w.kind == .muster && decide (w.close ≤ base.xNow)) = none ∧
    mustering.pilot.windows.find? (fun w => w.port == 0 && w.kind == .muster && decide (w.close ≤ mustering.xNow)) =
      some (window .muster 1250) ∧ (mustering.pilot.handed.any fun h => h.port == 0 && handedKind .muster h) = false ∧
    found (mustering.mch 0).sent (fun g => g.window == (window .muster 1250).id) = true ∧ mustering.st = .muster ∧
    (let d := put F.FIX_MUSTER_CFG_MUSTER_TIMEOUT_MS 1 0 0 { mustering with raw := 800000 }
     d.passedNs d.muster.from_ (d.rg F.FIX_MUSTER_CFG_MUSTER_TIMEOUT_MS * 1000000) = true) ∧ base.st ≠ .muster ∧
    (let d := put F.FIX_MUSTER_BR_RESULT 3 31 0 (put F.FIX_MUSTER_BR_REASON 127 31)
     liveState d.st = true ∧ d.rg F.FIX_MUSTER_BR_RESULT 31 = 3 ∧ d.rg F.FIX_MUSTER_BR_REASON 31 < 2 ^ 7) ∧
    ¬ (base.rg F.FIX_MUSTER_BR_RESULT 31 = 3) := by decide +kernel

/-! ### Witnesses: Fix, the boundary, the chart loader and the life cycle -/

/-- The PDU of a FIX (3) or COLDSTART (4) frame of device 5 with status `st`, on a single channel, of period 31,250 ns. -/
def fixFrame (kind st : Nat) : Bytes :=
  ([BitVec.ofNat 8 (0x10 + kind), 0, 0x85, 0, 0, 0, 0, 0, 0, 0, 0, 0, 0, BitVec.ofNat 8 st, 0, 0, 0x7A, 0x12] : Bytes) ++
    List.replicate 26 0
/-- A device in Fix state `st` with source 14, device 5 on port 0, and device 5 as its peer in slot 3; that frame came
in. -/
def fixing (st : FixSt) (pdu : Bytes) : Device :=
  { holding .fix pdu (put F.FIX_SRC_ENABLE 1 14 0 (put F.FIX_SRC_DEV 5 14 0 (put F.FIX_PEERS_VALID3 1 0 0
    (put F.FIX_PEERS_DEV3 5 0 0
      (put F.GLOBAL_ID_DEVICE_ID 9 0 0 (crossing [])))))) with fix := { st := st } }
/-- A device without sources and peers to which that frame came in. -/
def alone (st : FixSt) (pdu : Bytes) : Device :=
  { holding .fix pdu (put F.GLOBAL_ID_DEVICE_ID 9 0 0 (crossing [])) with fix := { st := st } }
/-- A device that sends FIX frames on uplink 0, in crossing 0. -/
def fixSender : Device := { withPort { st := .run } (put F.PILOT_ARM_CFG_ROLE 2 0 0 (put F.PORT_MODE_MODE 1 0 0
    (put F.FIX_CFG_TX_OFFSET 1250
  0 0 (put F.FIX_TX_PORTS 1 0 0 (crossing []))))) with fix := { st := .coldstarting, csDue := [0] } }

/-- What each port's frames in hand are to Fix: the frame of kind `k` at port 0, and `f` of it and the device. -/
def inHand (k : Nat) (d : Device) (f : Handed → Bytes → Bool) : Bool :=
  found (takeHanded 0 (handedGv k) d) fun h => f h.1 (h.1.bytes.drop h.1.off)

theorem wit_FixCommands_sent : Powered (ofDev base) ∧ base.cross.current = none ∧ fixStatus base.fix.st = none ∧
    fixSender.cross.current = some 0 ∧ fixStatus fixSender.fix.st = some 2 ∧
    (fixSends 0 fixSender = true ∧ fixSender.fix.from_ ≤ 0 ∧ tabGet none fixSender.fix.sent 0 ≠ some 0 ∧
      boundaryT 0 fixSender + nsT (fixSender.rg F.FIX_CFG_TX_OFFSET) ≤ fixSender.xNow) ∧
    (let d := put F.FIX_CFG_TX_OFFSET 1251 0 0 fixSender
     d.cross.current = some 0 ∧ fixStatus d.fix.st = some 2 ∧
     ¬ (boundaryT 0 d + nsT (d.rg F.FIX_CFG_TX_OFFSET) ≤ d.xNow)) ∧
    (fixSends 0 fixSender = true ∧ fixSender.fix.csDue.contains 0 = true ∧
      nsT (fixSender.rg F.FIX_CFG_TX_OFFSET) ≤ fixSender.xNow) ∧
    base.fix.csDue.contains 0 = false := by decide +kernel

theorem wit_FixCommands_fix : takeHanded 0 (handedGv 3) base = none ∧
    (let d := fixing .synchronised (fixFrame 3 9)
     inHand 3 d fun _ b => fixRejects b d) = true ∧
    (let d := fixing .synchronised (fixFrame 3 1)
     inHand 3 d fun _ b => !fixRejects b d && fixMeasures d.fix.st) = true ∧
    (let d := fixing .listen (fixFrame 3 2)
     inHand 3 d fun h b => !fixRejects b d && !fixMeasures d.fix.st && fixOffer h d != none &&
       found (fixGoverns d) fun g => g.1 == h) = true ∧
    (let d := alone .coldstarting (fixFrame 3 1)
     inHand 3 d fun h b => !fixRejects b d && !fixMeasures d.fix.st && fixOffer h d == none) = true := by decide +kernel

/-- That device with a COLDSTART that collides at port 1, and the frame given at port 0. -/
def colliding (pdu : Bytes) : Device :=
  let d := put F.FIX_CS_WINDOW_COLLISION_WINDOW 4000 0 0 (fixing .coldstarting pdu)
  { d with pilot.handed := d.pilot.handed ++ [{ handed .fix (fixFrame 4 0) with port := 1 }] }

/-- A collision that waits comes first: the FIX frame is then taken in BACKOFF. -/
theorem wit_FixCommands_collision : (colliding (fixFrame 3 1)).pilot.handed.any
    (fun h => fixCollides h (colliding (fixFrame 3 1))) = true ∧
    (fixCollisions (colliding (fixFrame 3 1))).fix.st = .backoff ∧
    (let d := colliding (fixFrame 3 1)
     inHand 3 d fun h b => !fixRejects b d && !fixMeasures d.fix.st && fixOffer h d != none &&
       found (fixGoverns (fixCollisions d)) fun g => g.1 == h) = true := by decide +kernel

theorem wit_FixCommands_coldstart : takeHanded 0 (handedGv 4) base = none ∧
    (let d := { fixing .listen (fixFrame 4 0) with regs := [] }
     inHand 4 d fun _ b => fixRejects b d) = true ∧
    (let d := alone .listen (fixFrame 4 0)
     inHand 4 d fun _ b => !fixRejects b d && peerRank b d == none) = true ∧
    (let d := put F.FIX_CS_WINDOW_COLLISION_WINDOW 4000 0 0 (fixing .coldstarting (fixFrame 4 0))
     inHand 4 d fun h b => !fixRejects b d && peerRank b d != none && fixCollides h d) = true ∧
    (let d := fixing .backoff (fixFrame 4 0)
     inHand 4 d fun h b => !fixRejects b d && peerRank b d != none && !fixCollides h d && fixOffer h d != none &&
       found (fixGoverns d) fun g => g.1 == h) = true ∧
    (let d := fixing .integrating (fixFrame 4 0)
     inHand 4 d fun h b => !fixRejects b d && peerRank b d != none && !fixCollides h d && fixOffer h d == none) = true ∧
    (let d := fixing .lostFix (fixFrame 4 0)
     inHand 4 d fun h b => !fixRejects b d && peerRank b d != none && !fixCollides h d && fixOffer h d == none) = true := by
  decide +kernel

/-- A device in Fix state `st` whose count in field `f` is `n`, with one source and limits of 4. -/
def counting (st : FixSt) (f : Fld) (n : Nat) : Device :=
  { put f n 0 0 (put F.FIX_COLDSTART_INTEGRATE_CROSSINGS 4 0 0 (put F.FIX_LIMITS_REGAIN_CROSSINGS 4 0 0
      (put F.FIX_LIMITS_SOURCE_LOSS_LIMIT 4 0 0 (put F.FIX_SRC_ENABLE 1)))) with fix := { st := st } }
/-- A device in Fix state `st` whose timer started at raw count 0, 1 s ago, with timeouts of 20 ms. -/
def timed (st : FixSt) (cs : Nat) : Device :=
  { put F.FIX_COLDSTART_LISTEN_TIMEOUT 20000 0 0 (put F.FIX_COLDSTART_BACKOFF_BASE 20000 0 0
    (put F.FIX_CFG_CS_CAPABLE cs)) with
    raw := 800000000, fix := { st := st } }

/-- The same device in LISTEN or BACKOFF with a FIX frame in hand that R217 names. -/
def waiting (st : FixSt) : Device := fixing st (fixFrame 3 1)

theorem wit_FixCommands_timers :
    fixWaits (waiting .listen) = true ∧ fixWaits (waiting .coldstarting) = true ∧
    (let d := timed .listen 1
     fixWaits d = false ∧ d.fix.st = .listen ∧
       d.passedNs d.fix.timerFrom (d.rg F.FIX_COLDSTART_LISTEN_TIMEOUT * 1000) = true ∧
       d.rb F.FIX_CFG_CS_CAPABLE = true) ∧
    fixWaits (timed .listen 0) = false ∧ (timed .listen 0).rb F.FIX_CFG_CS_CAPABLE = false ∧ base.fix.st ≠ .listen ∧
    (let d := { timed .listen 1 with raw := 15999999 }
     ¬ d.passedNs d.fix.timerFrom (d.rg F.FIX_COLDSTART_LISTEN_TIMEOUT * 1000) = true) ∧
    (let d := timed .backoff 1
     fixWaits d = false ∧ d.fix.st = .backoff ∧
       d.passedNs d.fix.timerFrom (d.rg F.FIX_COLDSTART_BACKOFF_BASE * (1 + d.rg F.FIX_CFG_RANK) * 1000) = true) ∧
    base.fix.st ≠ .backoff ∧
    (let d := { timed .backoff 1 with raw := 15999999 }
     ¬ d.passedNs d.fix.timerFrom (d.rg F.FIX_COLDSTART_BACKOFF_BASE * (1 + d.rg F.FIX_CFG_RANK) * 1000) = true) ∧
    (let d := { put F.FIX_COLDSTART_CONFIRM_CROSSINGS 4 with
               cross := { current := some 4 }, fix := { st := .coldstarting } }
     fixWaits d = false ∧ d.fix.st = .coldstarting ∧ 0 < d.crossingNo ∧
     d.rg F.FIX_COLDSTART_CONFIRM_CROSSINGS ≤ d.crossingNo) ∧
    (let d := { put F.FIX_COLDSTART_CONFIRM_CROSSINGS 4 with cross := { current := some 3 } }
     ¬ (d.rg F.FIX_COLDSTART_CONFIRM_CROSSINGS ≤ d.crossingNo)) ∧ base.fix.st ≠ .coldstarting := by decide +kernel

theorem wit_FixCommands_counts :
    (let d := counting .integrating F.FIX_STATUS_REGAIN 4
     d.fix.st = .integrating ∧ 0 < d.rg F.FIX_STATUS_REGAIN ∧
     d.rg F.FIX_COLDSTART_INTEGRATE_CROSSINGS ≤ d.rg F.FIX_STATUS_REGAIN) ∧
    (let d := counting .integrating F.FIX_STATUS_REGAIN 3
     ¬ (d.rg F.FIX_COLDSTART_INTEGRATE_CROSSINGS ≤ d.rg F.FIX_STATUS_REGAIN)) ∧ base.fix.st ≠ .integrating ∧
    (let d := counting .lostFix F.FIX_STATUS_REGAIN 4
     d.fix.st = .lostFix ∧ 0 < d.rg F.FIX_STATUS_REGAIN ∧ d.rg F.FIX_LIMITS_REGAIN_CROSSINGS ≤ d.rg F.FIX_STATUS_REGAIN) ∧
    (let d := counting .lostFix F.FIX_STATUS_REGAIN 3
     ¬ (d.rg F.FIX_LIMITS_REGAIN_CROSSINGS ≤ d.rg F.FIX_STATUS_REGAIN)) ∧ base.fix.st ≠ .lostFix ∧
    (let d := { counting .integrating F.FIX_STATUS_SOURCE_LOSS 0 with fix := { st := .integrating, missed := 4 } }
     fixSources d ≠ [] ∧ 0 < d.fix.missed ∧ d.rg F.FIX_LIMITS_SOURCE_LOSS_LIMIT ≤ d.fix.missed) ∧
    (let d := { counting .integrating F.FIX_STATUS_SOURCE_LOSS 4 with fix := { st := .integrating, missed := 3 } }
     ¬ (d.rg F.FIX_LIMITS_SOURCE_LOSS_LIMIT ≤ d.fix.missed)) ∧
    (let d := counting .synchronised F.FIX_STATUS_SOURCE_LOSS 4
     d.fix.st = .synchronised ∧ fixSources d ≠ [] ∧ 0 < d.rg F.FIX_STATUS_SOURCE_LOSS ∧
       d.rg F.FIX_LIMITS_SOURCE_LOSS_LIMIT ≤ d.rg F.FIX_STATUS_SOURCE_LOSS) ∧
    (let d := counting .synchronised F.FIX_STATUS_SOURCE_LOSS 3
     ¬ (d.rg F.FIX_LIMITS_SOURCE_LOSS_LIMIT ≤ d.rg F.FIX_STATUS_SOURCE_LOSS)) ∧
    base.fix.st ≠ .synchronised := by decide +kernel

/-- A flash header in copy 0: slots of 1 MiB. -/
def flashHead : Bytes :=
  let b := leBytes 4 0x9640F1A5 ++ leBytes 2 1 ++ leBytes 2 1 ++ List.replicate 52 0
  b ++ leBytes 4 (crc32 b)
/-- A section, and an image: records that set the period to 31,250 ns and parse graph node 0
valid, an empty node table, an empty berth map, END. -/
def section_ (type : Nat) (payload : Bytes) : Bytes :=
  leBytes 2 type ++ leBytes 2 0 ++ leBytes 4 payload.length ++ List.replicate 8 0 ++ payload
def image : Bytes :=
  section_ 1 (leBytes 4 F.CROSS_PERIOD_PERIOD_NS.base ++ List.replicate 4 0 ++ leBytes 8 31250 ++
    leBytes 4 F.COMPASS_PG_NODE_VALID.base ++ List.replicate 4 0 ++ leBytes 8 (2 ^ F.COMPASS_PG_NODE_VALID.lo)) ++
    section_ 2 [] ++ section_ 3 [] ++ section_ 0x7FFF []
/-- A slot header for an image, SEQ 1 and SVN 0, and the image. -/
def slotOf (image : Bytes) : Bytes :=
  leBytes 4 0x9640C4A7 ++ leBytes 2 1 ++ leBytes 2 0 ++ leBytes 4 1 ++ leBytes 4 0 ++ leBytes 4 image.length ++
    leBytes 2 0x9640 ++
    List.replicate 42 0 ++ image
/-- A flash with a header and that slot. -/
def chartFlash (image : Bytes) : NonVol := { flash := flashProgram (flashProgram [] 0 flashHead) 0x100000 (slotOf image) }
/-- A device in LOAD at a loader step, with slot 0 as the candidate and slots of 1 MiB. -/
def loading (step : BootStep) (l : Option Loading := none) : Device :=
  { base with st := .load, boot := { step := step, slotSize := 0x100000, cands := [0], load := l } }
/-- The chart of that image as the loader completes it. -/
def goodChart : Loading :=
  let l := chartComplete { regs := chartSet F.COMPASS_PG_NODE_VALID 1 0 0 (chartSet F.CROSS_PERIOD_PERIOD_NS 31250 0 0 []) }
  { l with final := l.regs }
/-- A device at its boundary of crossing 0, and one with the epoch lost before it. -/
def boundary (st : DevState) : Device :=
  { crossing [] with st := st, cross := { epoch := true }, fix := { st := .synchronised } }

theorem wit_BoundaryAndBoot_boundary : Powered (ofDev base) ∧
    crossingState ({ base with st := .muster } : Device).st = false ∧
    base.cross.epoch = false ∧ (let d := crossing []; d.xNow < boundaryT (nextCrossing d) d) ∧
    ¬ (crossingState (boundary .run).st = false ∨ (boundary .run).cross.epoch = false ∨
      (boundary .run).xNow < boundaryT (nextCrossing (boundary .run)) (boundary .run)) ∧
    ({ boundary .run with wipeDue := true } : Device).wipeDue = true ∧
     (boundary .run).wipeDue = false := by decide +kernel

theorem wit_BoundaryAndBoot_move :
    (let e := boundaryFix 0 1000 (rwaTake (boundary .run))
     e.cross.epoch = true ∧
       (boundaryMove e.cross.current.isSome true {} (crossingReset { e with cross.current := some 0 })).2.st ≠ .dormant) ∧
    (let e := boundaryFix 0 1000 (rwaTake { boundary .run with trim.pend := some 7 })
     e.cross.epoch = true ∧
       (boundaryMove e.cross.current.isSome true {} (crossingReset { e with cross.current := some 0 })).2.st =
         .dormant) := by
  decide +kernel

theorem wit_BoundaryAndBoot : ({ base with st := .wipe } : Device).st = .wipe ∧ base.st ≠ .wipe ∧
    (loading .header).st = .load ∧
    (loading .header).boot.step = .header ∧ flashHeader ({} : NonVol).flash 22 = none ∧
     (loading .read).boot.step = .read ∧
    (loading .read).boot.cands = 0 :: [] ∧ slotLoad (chartFlash []) 0x100000 0 = .inl 0 ∧
    (loading .verify (some goodChart)).boot.step = .verify ∧
     found (loading .verify (some goodChart)).boot.load (fun _ => true) = true ∧
    slotVerify { fuses := { retired := 3 } } [] [] 0 0 ≠ 0 ∧ (loading .check (some goodChart)).boot.step = .check ∧
    base.st ≠ .load ∧ (loading .idle).boot.step ≠ .header ∧ (loading .idle).boot.step ≠ .read ∧
    (loading .idle).boot.step ≠ .verify ∧ (loading .idle).boot.step ≠ .check ∧
    (let d := put F.CHART_STATUS_ERASING 1 0 0 (loading .retiredIdle)
     d.st = .load ∧ d.boot.step = .retiredIdle ∧ d.rb F.CHART_STATUS_ERASING = true ∧ d.boot.slotSize ≠ 0) ∧
    ({ base with boot := { slotSize := 0 } } : Device).boot.slotSize = 0 ∧ base.boot.load = none ∧ base.boot.cands = [] ∧
    (loading .retiredIdle).rb F.CHART_STATUS_ERASING = false := by decide +kernel

theorem wit_BoundaryAndBoot_flash : found (flashHeader (chartFlash []).flash 22) (fun h => h.slotSize == 0x100000) = true ∧
    right (slotLoad (chartFlash image) 0x100000 0) (fun _ => true) = true := by decide +kernel

theorem wit_BoundaryAndBoot_good : chartCheck goodChart goodChart.final = true ∧
    chartCheck { goodChart with final := [] } goodChart.regs = true := by decide +kernel

theorem wit_BoundaryAndBoot_bad : chartCheck {} ({} : Loading).final = false ∧ chartCheck {} ({} : Loading).regs = false ∧
    chartCheck { goodChart with final := [] } [] = false := by decide +kernel

/-- A BLANK device whose slot is signed verifies it: the signature is the one condition no evaluation can decide. -/
theorem wit_BoundaryAndBoot_signed (key sig : Bytes) (digest : BitVec 384)
    (h : Config.ecdsaP384Verifies key digest sig = true) : slotVerify {} key sig digest 0 = 0 := by
  have b : ({} : NonVol).lifecycle = .blank := by decide +kernel
  simp only [slotVerify, h, b]; decide

/-- A device in RUN with slots of 1 MiB, its chart from slot 0, whose admin queue holds a chart command. -/
def chartCmd (op w0 w1 w2 w3 : Nat) (s : Option StageSess := none) : Device :=
  queued adminQ 3 [unit (word0 op 2 w0) w1 w2 w3, unit 0 0 0 0]
    { base with charted := true, boot := { slotSize := 0x100000, stage := s } }
/-- A session for 96 bytes of slot 1, of which 32 are written. -/
def session : StageSess := { slot := 1, length := 96, written := 32 }
/-- A persistent region of 16 sectors, of which the first is open with a record of key 1 and GEN 1, and the others were
cut short. -/
def region (payload : Bytes) : Mem :=
  let base := persistBase 0x100000
  let m : Mem := ((List.range 15).map fun k => (sectorAt base (k + 1) + 16, (0 : Byte)))
  flashProgram (sectorOpen base 0 1 m) (sectorAt base 0 + 16) (recordBytes 1 1 payload true)
/-- The same with no sector open. -/
def noRegion : Mem := (List.range 16).map fun k => (sectorAt (persistBase 0x100000) k + 16, (0 : Byte))

/-- A device that owes a HALT_LOG record. -/
def halted : Device := { base with haltLog := some { cause := 1, left := 6, raw := 9, crossing := 3 } }

theorem wit_ChartAndLifeCycle : Powered (ofDev base) ∧
    (let d := chartCmd 0x20 0 64 0 0
     right (adminPick 0x20 false (fun _ => false) d) (fun e =>
       let f := (entryStart adminQ e 0 d).2
       slotRuns (leWord e.bytes 0 % 2) f) = true) ∧
    (let d := chartCmd 0x20 1 0x100000 0 0
     right (adminPick 0x20 false (fun _ => false) d) (fun e =>
       let f := (entryStart adminQ e 0 d).2
       !slotRuns (leWord e.bytes 0 % 2) f && decide (leWord e.bytes 1 % 2 ^ 32 ≤ f.boot.slotSize)) = true) ∧
       base.bme = true ∧
    (let d := chartCmd 0x21 0 0 0 1
     right (adminPick 0x21 false stageLenBad d) (fun e => (entryStart adminQ e 0 d).2.boot.stage == none) = true) ∧
    (let d := chartCmd 0x21 0 0 32 64 (some session)
     right (adminPick 0x21 false stageLenBad d) (fun e => (entryStart adminQ e 0 d).2.boot.stage == some session &&
       leWord e.bytes 2 % 2 ^ 32 == session.written &&
       decide (leWord e.bytes 2 % 2 ^ 32 + leWord e.bytes 3 % 2 ^ 21 ≤ session.length)) = true) ∧
    (let d := chartCmd 0x22 0 0 0 0 (some session)
     right (adminPick 0x22 false (fun _ => false) d) (fun e => (entryStart adminQ e 0 d).2.boot.stage == some session) = true ∧
       ¬ (d.st = .load ∧ d.boot.step = .fault)) ∧ stagedFault {} 0x100000 1 ≠ 0 ∧
    (let d := chartCmd 0x23 0 0 0 0
     right (adminPick 0x23 false (fun _ => false) d) (fun e => slotRuns (leWord e.bytes 0 % 2) (entryStart adminQ e 0 d).2) = true) ∧
    (let d := chartCmd 0x23 1 0 0 0
     right (adminPick 0x23 false (fun _ => false) d) (fun e => !slotRuns (leWord e.bytes 0 % 2) (entryStart adminQ e 0 d).2 &&
       (entryStart adminQ e 0 d).2.boot.slotSize != 0) = true) ∧
    (let d := chartCmd 0x24 0xF000 0 4 0
     right (adminPick 0x24 false (fun b => decide (4080 < leWord b 2 % 4096)) d)
       (fun e => !persistKeyOk (leWord e.bytes 0 % 2 ^ 16)) = true) ∧
    (let d := chartCmd 0x24 0xEFFF 0 4080 0
     right (adminPick 0x24 false (fun b => decide (4080 < leWord b 2 % 4096)) d)
       (fun e => persistKeyOk (leWord e.bytes 0 % 2 ^ 16) && leWord e.bytes 2 % 4096 != 0) = true) ∧
    (let d := chartCmd 0x25 1 0 4 0
     right (adminPick 0x25 false (fun _ => false) d) (fun e => leWord e.bytes 0 % 2 ^ 16 == 1 &&
       leWord e.bytes 2 % 4096 != 0 &&
       (entryStart adminQ e 0 d).2.boot.slotSize != 0) = true) ∧
    right (adminPick 0x26 false (fun _ => false) (chartCmd 0x26 0 0 0 0)) (fun _ => true) = true ∧
    ({} : NonVol).lifecycle = .blank ∧ ({ fuses := { provisioned := 3 } } : NonVol).lifecycle = .provisioned ∧
    ({ fuses := { provisioned := 3 } } : NonVol).lifecycle ≠ .blank ∧ ({} : NonVol).lifecycle ≠ .provisioned ∧
    right (adminPick 0x27 false (fun _ => false) (chartCmd 0x27 0 0 0 0)) (fun _ => true) = true ∧
    right (adminPick 0x28 false (fun _ => false) (chartCmd 0x28 0 0 0 0)) (fun _ => true) = true ∧
    authOk { fuses := { provisioned := 3, fielded := 3 } } [] = false ∧
    ({ fuses := { retired := 3 } } : NonVol).lifecycle = .retired ∧
    base.haltLog = none ∧ halted.haltLog ≠ none := by
  decide +kernel

/-- What a head entry of opcode `op` with no command of it there ends as: nothing waits, so nothing happens. -/
def stopped {β : Type} (o : Device ⊕ β) : Bool := match o with | .inl _ => true | .inr _ => false

theorem wit_ChartAndLifeCycle_stopped :
    ([0x20, 0x22, 0x23, 0x25, 0x26, 0x27, 0x28].all fun op => stopped (adminPick op false (fun _ => false) base)) = true ∧
    stopped (adminPick 0x21 false stageLenBad base) = true ∧
    stopped (adminPick 0x24 false (fun b => decide (4080 < leWord b 2 % 4096)) base) = true ∧
    ({ base with pcie := {} } : Device).bme = false := by decide +kernel

theorem wit_ChartAndLifeCycle_bounds :
    (let d := chartCmd 0x20 1 0x100001 0 0
     right (adminPick 0x20 false (fun _ => false) d) (fun e =>
       let f := (entryStart adminQ e 0 d).2
       !slotRuns (leWord e.bytes 0 % 2) f && decide (f.boot.slotSize < leWord e.bytes 1 % 2 ^ 32)) = true) ∧
    (let d := chartCmd 0x21 0 0 33 8 (some session)
     right (adminPick 0x21 false stageLenBad d) (fun e => (entryStart adminQ e 0 d).2.boot.stage == some session &&
       leWord e.bytes 2 % 2 ^ 32 != session.written) = true) ∧
    (let d := chartCmd 0x21 0 0 32 65 (some session)
     right (adminPick 0x21 false stageLenBad d) (fun e => (entryStart adminQ e 0 d).2.boot.stage == some session &&
       decide (session.length < leWord e.bytes 2 % 2 ^ 32 + leWord e.bytes 3 % 2 ^ 21)) = true) ∧
    (let d := chartCmd 0x22 0 0 0 0
     right (adminPick 0x22 false (fun _ => false) d) (fun e => (entryStart adminQ e 0 d).2.boot.stage == none) = true) ∧
    (let d := { chartCmd 0x23 1 0 0 0 with charted := false, boot := {} }
     right (adminPick 0x23 false (fun _ => false) d) (fun e => !slotRuns (leWord e.bytes 0 % 2) (entryStart adminQ e 0 d).2 &&
       (entryStart adminQ e 0 d).2.boot.slotSize == 0) = true) ∧
    (let d := { chartCmd 0x24 0xEFFF 0 4080 0 with boot := {} }
     right (adminPick 0x24 false (fun b => decide (4080 < leWord b 2 % 4096)) d)
       (fun e => persistKeyOk (leWord e.bytes 0 % 2 ^ 16) && d.boot.slotSize == 0) = true) ∧
    (let d := chartCmd 0x28 0 1 0 0
     right (adminPick 0x28 false (fun _ => false) d) (fun e => leWord e.bytes 1 != 0) = true) ∧
    (let d := chartCmd 0x28 0 0 0 0
     right (adminPick 0x28 false (fun _ => false) d) (fun e => leWord e.bytes 1 == 0) = true) ∧
    (let d := halted
     d.haltLog ≠ none ∧ d.boot.slotSize = 0 ∧ flashHeader [] 40 = none ∧
       found (flashHeader (chartFlash []).flash 40) (fun h => h.slotSize != 0) = true) ∧
    (let d := { halted with boot := { slotSize := 0x100000 } }
     d.haltLog ≠ none ∧ d.boot.slotSize ≠ 0) := by decide +kernel

/-- A record of key 1 without data, after which a reader finds nothing: PERSIST_READ completes PERSIST_NOT_FOUND. -/
theorem wit_ChartAndLifeCycle_empty : found (governing 1 (regionRecords (region []) (persistBase 0x100000)))
    (fun r => r.payload == []) = true := by decide +kernel

theorem wit_ChartAndLifeCycle_records :
    governingBytes (regionRecords noRegion (persistBase 0x100000)) - governedBytes 0xEFFF (regionRecords noRegion (persistBase 0x100000)) +
      (16 + up16 4080) ≤ persistLimit ∧ governing 2 (regionRecords noRegion (persistBase 0x100000)) = none ∧
    found (governing 1 (regionRecords (region [1, 2, 3, 4]) (persistBase 0x100000)))
      (fun r => r.payload == [1, 2, 3, 4]) = true := by decide +kernel

/-- The bytes of an authorisation record for a device of number 0. -/
def authRecord : Bytes := leBytes 8 0 ++ leBytes 4 0x28 ++ List.replicate 100 0

/-- A record with this device's number and the value 0x28 authorises it when its signature verifies, which no evaluation
can decide. -/
theorem wit_ChartAndLifeCycle_auth (h : Config.fusedKeyVerifies 0 (Config.sha384 (authRecord.take 16)) (slice authRecord 16 96) = true) :
    authOk { fuses := { provisioned := 3, fielded := 3 } } authRecord = true := by
  have h' : (authRecord.length == 112 && leNat (slice authRecord 0 8) == ({} : NonVol).uid.toNat &&
      leNat (slice authRecord 8 4) == 0x28) = true := by decide +kernel
  exact Bool.and_eq_true _ _ |>.mpr ⟨h', h⟩

/-- A staged slot of a BLANK device verifies when its signature does. -/
theorem wit_ChartAndLifeCycle_staged (h : ∀ k d s, Config.ecdsaP384Verifies k d s = true) :
    stagedFault (chartFlash image) 0x100000 0 = 0 := by
  have h1 : (slotHeader (chartFlash image) 0x100000 0).ok = true := by decide +kernel
  have h2 : right (sectionsOf (flashRead (chartFlash image).flash (slotBase 0x100000 0 + 0x40)
    (slotHeader (chartFlash image) 0x100000 0).imageLen)) (fun _ => true) = true := by decide +kernel
  obtain ⟨l, h2, -⟩ := (right_iff _ _).mp h2
  have h3 : (chartFlash image).lifecycle = .blank := by decide +kernel
  simp only [stagedFault, h1, h2, slotVerify, h3, h]
  rfl

/-! ### Steps and values that the spec works out

Each expected value stands in the spec's text: the section or table is named. -/

/-- The ASCII bytes "123456789". -/
def nine : Bytes := [0x31, 0x32, 0x33, 0x34, 0x35, 0x36, 0x37, 0x38, 0x39]

/-- R79: the check value of the header CRC. -/
theorem test_crc16_check : crc16 nine = 0x29B1 := by decide +kernel
/-- R285: the check value of CRC-32. -/
theorem test_crc32_check : crc32 nine = 0xCBF43926 := by decide +kernel
/-- Table 03-8: the worked berth, its NODE and BIDX and its CRC. -/
theorem test_worked_berth : (berthBytes 291 0 0 1 [0x81]).take 9 = [0x04, 0x8C, 0, 0, 0, 1, 0, 1, 0x81] ∧
    crc16 ([0x04, 0x8C, 0, 3, 0, 1, 0, 1, 0x81, 0x40] : Bytes) = 0x6320 := by decide +kernel
/-- Table 04-6: W of the worked crossing's frames under R110. -/
theorem test_wire_time : wireNs (armFrameLen 8180) 25 = 2630 ∧ wireNs (armFrameLen 740) 10 = 623 := by decide +kernel
/-- Chapter 02, the rate correction: BASE after the fold, and the time of the scanner-gate frame. -/
theorem test_rate_correction :
    let p : ParamSet := { base := 1812000000000000000 * 2 ^ 40, rawAt := 8000000000 }
    let q := foldSet p 8800000000 (.incr 0x14000006B60)
    q.base = 1812000001000000000 * 2 ^ 40 ∧
      timeU16 (q.timeAt { count := 9600000000, frac := 0x8000 }) =
        1812000002000000020 * 2 ^ 16 + 0xA009 := by decide +kernel
/-- R230, a receive stamp behind RS-FEC: MODE 4 is 25 Gb/s, BOARD_RX 0.5 ns. -/
theorem test_receive_stamp : rxStamp 6 { count := 1000000000, frac := 0x4000 } 1320
    (put F.PORT_STAMP_BOARD_BOARD_RX 32768 6 0 (put F.PORT_MODE_MODE 4 6)) = { count := 1000000025, frac := 0xCF5C } := by
  decide +kernel
/-- Chapter 05: the status entry of berth 275 in crossing 1,000,000. -/
theorem test_status_entry : statusEntry 1000000
    { idx := 275, frame := 0, pos := 0, sent := [], spare := false, absent := false, safe := false, stale := false,
      outAge := 0,
      win := some { code := 1, complete := false, stamp := { count := 0 }, chan := 0, inputs := [],
                    mbx := false, fault := false } }
    0 false false = 0x0000424000014000 := by decide +kernel
/-- Chapter 11: the metadata word of the PTP rule's key, in its first eight bytes. -/
theorem test_rule_key : (ruleKey false 20 0x0150 0 false
    { stopNode := 3, depth := 4, key := List.replicate 64 0 }).toNat / 2 ^ 448 = 0x5001500D00000000 := by decide +kernel

/-- SNAPSHOT (R44): the raw count and SEQ. -/
theorem test_snapshot : goes (exec .snapshotTake (ofDev base)) (fun t => t.dev.rg F.RECKON_SNAP_RAW_VALUE == 1000 &&
    t.dev.rg F.RECKON_SNAP_CTRL_SEQ == 1) = true := by decide +kernel
/-- A 64-bit read of a counter returns it and clears it (R8). -/
theorem test_counter_read : goes (exec (.rcRead .pf0 (countBase + 0xB0000) .w64) (ofDev (base.count 0xB0000))) (fun t =>
    t.dev.out == [.readData .pf0 (countBase + 0xB0000) 1] && t.dev.cnt 0xB0000 == 0) = true := by decide +kernel
/-- A 32-bit write of RECKON_A_STEP is not permitted (R4, R5). -/
theorem test_needs_64 : goes (exec (.regWrite .pf0 0x40110 .w32 5) (ofDev base)) (fun t =>
    t.dev.out == [.unsupportedRequest .pf0 false] && ((t.dev.dom .a).cur == (base.dom .a).cur)) = true := by decide +kernel
/-- A doorbell for a queue that does not exist is counted (R411). -/
theorem test_unknown_doorbell : goes (exec (.sqDoorbell 7) (ofDev base)) (fun t => t.dev.cnt 0xB0000 == 1) =
    true := by decide +kernel
/-- PWR_GOOD low for 100 ns resets (R531); 99 ns do not. -/
theorem test_reset_pulse : goes (exec (.resetAssert .pwrGood 100) (ofDev base)) (fun t => t.dev.st == .reset &&
    t.dev.raw == 0) = true ∧
    goes (exec (.resetAssert .pwrGood 99) (ofDev base)) (fun t => t.dev.st == .run) = true := by decide +kernel
/-- The first step after reset is a tick: the raw counter reads 1 (R32). -/
theorem test_first_tick : goes (step State.reset) (fun t => t.dev.raw == 1 && t.dev.st == .wipe) = true := by decide +kernel
/-- The end of WIPE finds LOAD with the raw counter running on, and a flash without a header ends in the fault step
(R493). -/
theorem test_no_header : goes (exec (.wipeComplete { jedecId := 0, sizeLog2 := 22 }) State.reset)
    (fun t => t.dev.st == .load &&
    goes (exec .flashHeaderReadDone t) fun u => u.dev.rb F.CHART_STATUS_HEADER_FAULT &&
      u.dev.boot.step == .fault) = true := by
  decide +kernel
/-- An eighth failed reception in a row puts the device into HALT (R20). -/
theorem test_eighth_failure : goes (exec (.flitReceive 3 { sent := List.replicate 64 0, data := List.replicate 64 0 }
    (BitVec.ofNat 16 (crc16 (List.replicate 64 0) + 1))) (ofDev (failing 7))) (fun t => t.dev.st == .halt) =
      true := by decide +kernel
/-- A SEND entry of 60 bytes asks for its frame and its own first 8 bytes (R421, R426). -/
theorem test_send_reads : goes (exec (.send 9 (.ok [])) (ofDev (sendQ 1 60))) (fun t =>
    t.dev.out == [.hostRead 0x10000 60, .hostRead 0 8]) = true := by decide +kernel
/-- A NOP posts one completion and frees its unit (R417, R436). -/
theorem test_nop : goes (exec (.nop 9) (ofDev nopQ)) (fun t => (t.dev.sq 9).cons == 1 &&
    (t.dev.sq 9).cache == []) = true := by
  decide +kernel
/-- An SMBus write is not acknowledged (R537). -/
theorem test_smb_write : goes (exec (.smbWrite 0 [1]) (ofDev base)) (fun t => t.dev.out == [.smbNak]) =
    true := by decide +kernel
/-- EXTEST acts as BYPASS outside RESET and HALT (R541), and takes the pins when the device enters RESET with it loaded.
-/
theorem test_extest_bypass : goes (exec .extest (ofDev base)) (fun t => t.dev.out == [.jtag 0xFF none] &&
    goes (exec (.resetAssert .pwrGood 100) t) fun u => u.dev.out.head? == some (.jtag 0 none)) = true := by decide +kernel
/-- A step runs the command in front and takes it from the queue. -/
theorem test_step_front : goes (step { ofDev base with pending := [.ppsInEdge, .snapshotTake] }) (fun t =>
    t.pending == [.snapshotTake] && t.dev.rg F.RECKON_PPS_RAW_VALUE == 1000 &&
      t.dev.raw == 1000) = true := by decide +kernel
/-- No row of the command table gives bits. -/
theorem test_no_words : decodeTableWord 32 0 = none ∧ (ofDev base).withFetchWord 32 0 = ofDev base := by decide +kernel

/-- Chapter 15, a failure on the last beat: the three reads of channel 20's copy of 10,000 bytes. -/
theorem test_tender_reads : goes (exec (.tenderDescriptorFetched 20
    (unit (2 ^ 56 + 2 ^ 55 + 2 ^ 54 + 10000) 0x100000100 0x200000040 0 ++ unit 0 0 0 0) [] [])
    (ofDev { put F.TENDER_CFG_CH_STAGE_KIB 16 0 0 (tending 20) with
      pcie := { base.pcie with pf0 := { base.pcie.pf0 with maxRead := 4096 } } })) (fun t =>
    t.dev.out == [.hostRead 0x100002000 2064, .hostRead 0x100001000 4096, .hostRead 0x100000100 3840]) =
      true := by decide +kernel

/-- R171: PF1's view gives VIEW_SEQ with bit 63 once a buffer has been STABLE, and the STABLE bytes from 0x40_0000 on. -/
theorem test_pf1_image_view :
    (let d := { base with cargo.stableValid := true, cargo.inStable := [(0, 0x11), (7, 0x22)] }
     let d := (d.ru F.CARGO_IMAGE_IN_SIZE 8).ru F.CARGO_STATUS_STABLE_CROSSING 5
     (readValue .pf1 0x400000 .w64 {} d, readValue .pf1 0x800000 .w64 {} d, readValue .pf1 0x800008 .w64 {} d)) =
    (0x8000000000000005, 0x2200000000000011, 0) := by decide +kernel


end Sys2Proof.Tests
end

/-!
PROOFS. What a host access and a configuration write do, one lemma per case of each function of the model, and the
statements of the spec's chapter 00 assembled from them.
-/

namespace Sys2Proof.Proofs

open Sys2Proof.Machine Sys2Proof.Safety

/-! ### Commands that run -/

/-- A command whose meaning is a lifted change of the device runs as any change that agrees with it on `s`. -/
theorem runs_of_onDev {c : Instr} {s : State} {f g : Device → Device} (hc : exec c s = onDev f s) (hp : Powered s)
    (h : f s.dev = g s.dev) : Runs c s g := by
  rw [Runs, hc, onDev_run f s hp, h]

/-- The same for a command that the host sends over PCI Express. -/
theorem runs_of_onHost {c : Instr} {s : State} {f g : Device → Device} (hc : exec c s = onHost f s) (hl : Linked s)
    (h : f s.dev = g s.dev) : Runs c s g := by
  rw [Runs, hc, onHost_run f s hl, h]

section HostCommands

variable {s : State} {fn : Fn} {g : Device → Device} (hl : Linked s)
include hl

theorem runs_pcieConfigWrite {t : CfgTarget} {v : BitVec 32} (h : pcieConfigWrite fn t v s.dev = g s.dev) :
    Runs (.pcieConfigWrite fn t v) s g := runs_of_onHost rfl hl h

theorem runs_msixUnmask {vec : Nat} (h : msixUnmask fn vec s.dev = g s.dev) : Runs (.msixUnmask fn vec) s g :=
  runs_of_onDev rfl hl.1 h

theorem runs_unsupportedAccess {a n : Nat} {b : Bool} (h : unsupportedAccess fn a b s.dev = g s.dev) :
    Runs (.unsupportedAccess fn a n b) s g := runs_of_onHost rfl hl h

theorem runs_regWrite {a : Nat} {w : AccWidth} {v : Word} (h : regWrite fn a w v s.dev = g s.dev) :
    Runs (.regWrite fn a w v) s g := runs_of_onHost rfl hl h

theorem runs_rcRead {a : Nat} {w : AccWidth} (h : regRead fn a w s.nv s.dev = g s.dev) : Runs (.rcRead fn a w) s g :=
  runs_of_onHost (f := regRead fn a w s.nv) rfl hl h

end HostCommands

variable {d : Device}

/-! ### MSI-X tables and pending messages (R482) -/

section Msix

variable {fn : Fn} {vec k : Nat} {v : BitVec 32}

theorem msixTableWrite_dword (hv : vec < fnVectors fn) (hk : k < 3) :
    msixTableWrite fn vec k v d =
      d.setFn fn { d.fnState fn with table := tabSet 0 (d.fnState fn).table (4 * vec + k) v } := by
  simp [msixTableWrite, Nat.not_le.2 hv, hk]

theorem msixTableWrite_mask (hv : vec < fnVectors fn) :
    msixTableWrite fn vec 3 v d = pendingSend fn (d.setFn fn
      { d.fnState fn with unmasked := tabSet false (d.fnState fn).unmasked vec (!v.toNat.testBit 0) }) := by
  simp [msixTableWrite, Nat.not_le.2 hv]

/-- A write outside the function's vectors, or past the four dwords of an entry, has no effect. -/
theorem msixTableWrite_outside (h : fnVectors fn ≤ vec ∨ 3 < k) : msixTableWrite fn vec k v d = d := by
  rcases h with hv | hk
  · simp [msixTableWrite, hv]
  · simp [msixTableWrite, show ¬ k < 3 by omega, show k ≠ 3 by omega]

theorem msixUnmask_sends (hp : tabGet false (d.fnState fn).pba vec = true) (ho : msixOpen (d.fnState fn) vec = true) :
    msixUnmask fn vec d =
      msixEmit fn vec (d.setFn fn { d.fnState fn with pba := tabSet false (d.fnState fn).pba vec false }) := by
  simp [msixUnmask, hp, ho]

theorem msixUnmask_waits (h : tabGet false (d.fnState fn).pba vec = false ∨ msixOpen (d.fnState fn) vec = false) :
    msixUnmask fn vec d = d := by
  rcases h with h | h <;> simp [msixUnmask, h]

end Msix

/-! ### Register fields by type (Table 00-3) -/

section Fields

variable {fd : FieldDef} {i j mask value : Nat}

/-- What an RW or RWA field would hold after a write: the bits reached as written, the others as they are. -/
def fieldMerge (fd : FieldDef) (i j mask value : Nat) (d : Device) : Nat :=
  (d.rg fd.fld i j &&& (2 ^ fd.fld.width - 1 - bits mask fd.fld.hi fd.fld.lo)) |||
    (bits value fd.fld.hi fd.fld.lo &&& bits mask fd.fld.hi fd.fld.lo)

theorem writeField_unreached (hm : bits mask fd.fld.hi fd.fld.lo = 0) : writeField fd i j mask value d = d := by
  simp [writeField, hm]

theorem writeField_rw (hm : bits mask fd.fld.hi fd.fld.lo ≠ 0) (ht : fd.type = .rw ∨ fd.type = .rwa) :
    writeField fd i j mask value d =
      if fd.isReserved (fieldMerge fd i j mask value d) then d
      else d.ru fd.fld (fieldMerge fd i j mask value d) i j := by
  rcases ht with ht | ht <;> simp only [writeField, if_neg hm, ht] <;> rfl

theorem writeField_w1c (hm : bits mask fd.fld.hi fd.fld.lo ≠ 0) (ht : fd.type = .w1c) :
    writeField fd i j mask value d =
      d.ru fd.fld (d.rg fd.fld i j &&& (2 ^ fd.fld.width - 1 -
        (bits value fd.fld.hi fd.fld.lo &&& bits mask fd.fld.hi fd.fld.lo))) i j := by
  simp [writeField, hm, ht]

theorem writeField_keeps (ht : fd.type = .ro ∨ fd.type = .rc ∨ fd.type = .wo ∨ fd.type = .rl) :
    writeField fd i j mask value d = d := by
  rcases ht with ht | ht | ht | ht <;> simp [writeField, ht]

end Fields

/-! ### Where an access goes -/

variable {fn : Fn} {a : Nat} {w : AccWidth} {v : Word} {n : NonVol}

theorem isDoorbell_pf0 (hlo : doorbellBase ≤ a) (hhi : a < msixBase .pf0) : isDoorbell .pf0 a = true := by
  simp [isDoorbell, hlo, hhi]

theorem isDoorbell_pf1 : isDoorbell .pf1 a = false := rfl

theorem isDoorbell_below (h : a < doorbellBase) : isDoorbell fn a = false := by
  simp [isDoorbell, Nat.not_le.2 h]

theorem isDoorbell_msix (h : msixBase fn ≤ a) : isDoorbell fn a = false := by
  cases fn with
  | pf0 => simp [isDoorbell, Nat.not_lt.2 h]
  | pf1 => rfl

theorem doorbellBase_lt_msixBase : doorbellBase < msixBase .pf0 := by decide

/-! ### Doorbells (R411) -/

theorem doorbellWrite_sq (hhi : a < doorbellBase + 0x8000) :
    doorbellWrite (a - doorbellBase) d = sqDoorbell ((a - doorbellBase) / 8) d :=
  if_pos (by simp only [doorbellBase] at *; omega)

theorem doorbellWrite_cq (hlo : doorbellBase + 0x8000 ≤ a) :
    doorbellWrite (a - doorbellBase) d = cqDoorbell ((a - doorbellBase - 0x8000) / 8) d :=
  if_neg (by simp only [doorbellBase] at *; omega)

theorem unsupportedAccess_refuses {b : Bool} (hd : isDoorbell fn a = false) :
    unsupportedAccess fn a b d = accessRefuse fn d := by
  simp [unsupportedAccess, hd]

theorem unsupportedAccess_rings (hd : isDoorbell fn a = true) :
    unsupportedAccess fn a true d = doorbellWrite (a - doorbellBase) d := by
  simp [unsupportedAccess, hd]

theorem unsupportedAccess_reads_doorbell (hd : isDoorbell fn a = true) :
    unsupportedAccess fn a false d = d.emit (.readData fn a 0) := by
  simp [unsupportedAccess, hd]

/-! ### Register writes -/

theorem regWrite_rings (hd : isDoorbell fn a = true) : regWrite fn a w v d = doorbellWrite (a - doorbellBase) d := by
  simp [regWrite, hd]

theorem regWrite_refuses (hd : isDoorbell fn a = false) (hok : accessOk fn a (widthBytes w) true = false) :
    regWrite fn a w v d = accessRefuse fn d := by
  simp [regWrite, hd, hok]

theorem regWrite_msix (hok : accessOk fn a (widthBytes w) true = true) (h : msixBase fn ≤ a) :
    regWrite fn a w v d = msixAccess fn (a - msixBase fn) w v d := by
  simp [regWrite, isDoorbell_msix h, hok, h]

/-- PF1 takes no register write below its BAR4 (R10). -/
theorem regWrite_pf1_ignored (hok : accessOk .pf1 a (widthBytes w) true = true) (h : a < msixBase .pf1) :
    regWrite .pf1 a w v d = d := by
  simp [regWrite, isDoorbell_pf1, hok, Nat.not_le.2 h]

theorem regWrite_pf0 (hok : accessOk .pf0 a (widthBytes w) true = true) (h : a < doorbellBase) :
    regWrite .pf0 a w v d = regWritePf0 a w v d := by
  simp [regWrite, isDoorbell_below h, hok, Nat.not_le.2 (Nat.lt_trans h doorbellBase_lt_msixBase)]

theorem regWritePf0_reserved (hr : lookupReg (a / 8 * 8) = none) : regWritePf0 a w v d = d := by
  simp [regWritePf0, hr]

section Registers

variable {rd : RegDef} {i j : Nat} (hr : lookupReg (a / 8 * 8) = some (rd, i, j))
include hr

theorem regWritePf0_fields (hf : (writeTo.find? fun e => e.1 == rd.addr) = none) :
    regWritePf0 a w v d =
      writeFields a (accessMask a w) (mergeWord rd i j (accessMask a w) (accessValue a w v) d) d := by
  simp [regWritePf0, hr, hf, plainWrite]

theorem regWritePf0_effect {k : Nat} {g : WriteFn} (hf : (writeTo.find? fun e => e.1 == rd.addr) = some (k, g)) :
    regWritePf0 a w v d =
      g { addr := a, i := i, j := j, mask := accessMask a w,
          word := mergeWord rd i j (accessMask a w) (accessValue a w v) d } d := by
  simp [regWritePf0, hr, hf]

end Registers

/-! ### Register reads (R7, R8, R10) -/

theorem regRead_doorbell (hd : isDoorbell fn a = true) : regRead fn a w n d = d.emit (.readData fn a 0) := by
  simp [regRead, hd]

theorem regRead_refuses (hd : isDoorbell fn a = false) (hok : accessOk fn a (widthBytes w) false = false) :
    regRead fn a w n d = accessRefuse fn d := by
  simp [regRead, hd, hok]

theorem regRead_returns (hd : isDoorbell fn a = false) (hok : accessOk fn a (widthBytes w) false = true) :
    regRead fn a w n d = (rcClear fn a w d).emit (.readData fn a (readValue fn a w n d)) := by
  simp [regRead, hd, hok]

theorem rcClear_pf1 : rcClear .pf1 a w d = d := rfl

theorem rcClear_count (hlo : countBase ≤ a) (hhi : a < countEnd) :
    rcClear .pf0 a w d = rcClearCount (a / 8 * 8 - countBase) (accessMask a w) d := by
  simp [rcClear, hlo, hhi]

theorem rcClear_reg (h : a < countBase ∨ countEnd ≤ a) :
    rcClear .pf0 a w d = rcClearReg a (accessMask a w) d :=
  if_neg (by omega)

/-! ### The statements -/

/-- Settles O18: every target of a configuration write, and MSIX_UNMASK with its message due and not due. -/
theorem configurationWrites : Obligations.ConfigurationWrites := by
  intro s fn v o vec k a b hl f
  refine ⟨?msixControl, ?ptmControl, ?deviceControl, ?powerState, ?aerStatus, ?aerSeverity, ?configSpace, ?command,
    ?tableDword, ?tableMask, ?tableOutside, ?pendingBits, ?unmaskSends, ?unmaskWaits⟩
  case msixControl | ptmControl | deviceControl | powerState | aerStatus | aerSeverity | command | pendingBits =>
    exact runs_pcieConfigWrite hl rfl
  case configSpace => exact fun ho => runs_pcieConfigWrite hl (if_neg ho)
  case tableDword => exact fun hv hk => runs_pcieConfigWrite hl (msixTableWrite_dword hv hk)
  case tableMask => exact fun hv => runs_pcieConfigWrite hl (msixTableWrite_mask hv)
  case tableOutside => exact fun h => runs_pcieConfigWrite hl (msixTableWrite_outside h)
  case unmaskSends => exact fun hp ho => runs_msixUnmask hl (msixUnmask_sends hp ho)
  case unmaskWaits => exact fun h => runs_msixUnmask hl (msixUnmask_waits h)

/-- Settles O19: each of the three accesses ends in the refusal of R5 once it reaches no doorbell. -/
theorem unsupportedRequestChangesNothing : Obligations.UnsupportedRequestChangesNothing := by
  intro s fn a n b w v hl hd refused
  exact ⟨runs_unsupportedAccess hl (unsupportedAccess_refuses hd),
    fun hok => runs_regWrite hl (regWrite_refuses hd hok),
    fun hok => runs_rcRead hl (regRead_refuses hd hok)⟩

/-- Settles O20: a write by where it goes; the regions of the address space are apart. -/
theorem registerWrites : Obligations.RegisterWrites := by
  intro s a n w v fn hl
  refine ⟨fun hok ha => runs_regWrite hl (regWrite_pf1_ignored hok ha), fun hok ha hr => ?reserved,
    fun rd i j hok ha hr => ?register, fun hlo hhi => ?sq, fun hlo hhi => ?cq,
    fun hok ha => runs_regWrite hl (regWrite_msix hok ha)⟩
  case reserved => exact runs_regWrite hl ((regWrite_pf0 hok ha).trans (regWritePf0_reserved hr))
  case register =>
    exact ⟨fun hf => runs_regWrite hl ((regWrite_pf0 hok ha).trans (regWritePf0_fields hr hf)),
      fun k g hf => runs_regWrite hl ((regWrite_pf0 hok ha).trans (regWritePf0_effect hr hf))⟩
  case sq =>
    have hd : isDoorbell .pf0 a = true := isDoorbell_pf0 hlo (Nat.lt_trans hhi (by decide))
    exact ⟨runs_regWrite hl ((regWrite_rings hd).trans (doorbellWrite_sq hhi)),
      runs_unsupportedAccess hl ((unsupportedAccess_rings hd).trans (doorbellWrite_sq hhi))⟩
  case cq =>
    have hd : isDoorbell .pf0 a = true := isDoorbell_pf0 (Nat.le_trans (Nat.le_add_right _ _) hlo) hhi
    exact ⟨runs_regWrite hl ((regWrite_rings hd).trans (doorbellWrite_cq hlo)),
      runs_unsupportedAccess hl ((unsupportedAccess_rings hd).trans (doorbellWrite_cq hlo))⟩

/-- Settles O21: a field by its type, and an RW or RWA field by whether its table reserves what it would hold. -/
theorem fieldWritesByType : Obligations.FieldWritesByType := by
  intro fd i j mask value d m v new
  exact ⟨writeField_unreached,
    fun hm ht hres => (writeField_rw hm ht).trans (if_pos hres),
    fun hm ht hres => (writeField_rw hm ht).trans (if_neg (Bool.eq_false_iff.1 hres)),
    writeField_w1c, writeField_keeps⟩

/-- Settles O22: a read by where it goes; only one through PF0 clears, a counter in COUNT and RC fields elsewhere. -/
theorem readsReturnAndClear : Obligations.ReadsReturnAndClear := by
  intro s fn a n w hl
  refine ⟨fun hd => ⟨runs_rcRead hl (regRead_doorbell hd),
    runs_unsupportedAccess hl (unsupportedAccess_reads_doorbell hd)⟩, fun hd hok => ?_⟩
  have hread := regRead_returns (n := s.nv) (d := s.dev) hd hok
  refine ⟨?pf1, ?counter, ?register⟩
  case pf1 =>
    rintro rfl
    exact runs_rcRead hl (by rw [hread, rcClear_pf1])
  case counter =>
    rintro rfl hlo hhi
    exact runs_rcRead hl (by rw [hread, rcClear_count hlo hhi, rcClearCount])
  case register =>
    rintro rfl h
    exact runs_rcRead hl (by rw [hread, rcClear_reg h])

end Sys2Proof.Proofs

/-!
PROOFS. Power and the whole-device resets (chapter 01): which commands reach a device that is OFF or in RESET, what each
input of Table 01-7 does in each device state, and what a whole-device reset leaves.
-/

namespace Sys2Proof.Proofs

open Sys2Proof.Machine Sys2Proof.Safety

/-! ### Commands that find nobody in OFF and RESET -/

section Unpowered

variable {s : State} (hp : ¬ Powered s)
include hp

theorem onHost_off (f : Device → Device) : onHost f s = .next s := by
  unfold onHost
  split
  · exact onDev_off f s hp
  · rfl

theorem onAll_off (g : NonVol → Device → NonVol × Device) : onAll g s = .next s := by
  rw [onAll, if_pos]
  by_cases ho : s.dev.st = .off
  · exact .inl ho
  · exact .inr (Classical.byContradiction fun hr => hp ⟨ho, hr⟩)

/-- Without power or in RESET every command changes nothing but these: the power and reset inputs, PERST_N, and the
instructions of the test access port. -/
theorem exec_unpowered (c : Instr) :
    exec c s = .next s ∨ c = .powerOn ∨ c = .powerDown ∨ (∃ pin n, c = .resetAssert pin n) ∨ (∃ r, c = .resetRelease r) ∨
      (∃ n, c = .perstAssert n) ∨ c = .perstRelease ∨
      c ∈ [Instr.extest, .idcode, .samplePreload, .extestPulse, .extestTrain, .highz, .clamp, .bypass] ∨
      ∃ code, c = .debugInstruction code := by
  cases c with
  | powerOn | powerDown | resetAssert | resetRelease | perstAssert | perstRelease | extest | idcode | samplePreload
  | extestPulse | extestTrain | highz | clamp | bypass | debugInstruction => simp
  | wipeComplete | haltLogWrite | crossingBoundary | retiredEraseDone | stageBegin | stageWrite | stageVerify
  | slotInvalidate | persistWrite | lcProvision | lcField | lcRetire => exact .inl (onAll_off hp _)
  | flrPf0 | flrPf1 | busMasterEnableChange | pcieConfigWrite | unsupportedAccess | regWrite | rcRead | attach | detach
  | rearm | forceFence | unfence | musterAccept | snapshotTake | reckonIncrWrite | reckonStepWrite | reckonSetHiWrite
  | reckonSetLoWrite | servoAlive | primaryArm | primaryDisarm | ptmTrigger | strecConsWrite | tioModeWrite | tioArm
  | tioDisarm | gateConfigChange | gateCancel | shaperCfgWrite | portRestart | portTestStart | portTestStop | portSleep
  | portWake | verifyRestart | peCfgWrite | streamCfgWrite | genReset | rcvyReset | bankSwap | ruleWrite | ruleRead
  | ruleInvalidate | missActionWrite | meterCfgWrite | headingSelect | sqDoorbell | cqDoorbell | sqProdWrite | cqConsWrite
  | sqInvalidate | adminEnable | tenderAbort | tenderClear | eventRouteWrite | eventVecWrite | warmReset =>
    exact .inl (onHost_off hp _)
  | _ =>
    refine .inl ?_
    rw [exec]
    exact onDev_off _ s hp

end Unpowered

/-- The test access port finds nobody while the device is unpowered. -/
theorem onTap_off {s : State} (f : NonVol → Device → Device) (ho : s.dev.st = .off) : onTap f s = .next s := if_pos ho

/-- Nor does it find anybody with an instruction that is refused of a powered device. -/
theorem debugInstruction_off {s : State} (code : BitVec 8) (ho : s.dev.st = .off) :
    exec (.debugInstruction code) s = .next s :=
  (if_neg fun h => h.1 ho).trans (onTap_off _ ho)

/-! ### Fields that the kept part of a device holds -/

theorem st_of_kept {d e : Device} (h : e.kept = d.kept) : e.st = d.st := congrArg Kept.st h

theorem tap_of_kept {d e : Device} (h : e.kept = d.kept) : e.tap = d.tap := congrArg Kept.tap h

/-! ### The inputs of Table 01-7 -/

section Inputs

variable {d : Device}

theorem powerOn_of_off (h : d.st = .off) : powerOn d = pinsGo .off (freshDevice .reset d) := if_pos h

theorem powerOn_of_ne_off (h : d.st ≠ .off) : powerOn d = d := if_neg h

theorem powerDown_of_reset (h : d.st = .reset) :
    powerDown d = { pinsGo .reset (freshDevice .off d) with tap := 0x01 } := if_pos h

theorem powerDown_of_ne_reset (h : d.st ≠ .reset) : powerDown d = d := if_neg h

theorem resetRelease_of_reset (ref : Bool) (h : d.st = .reset) :
    resetRelease ref d = trimRequest 800 (pinsGo .reset ((freshDevice .wipe d).rub F.RECKON_STATUS_REF_SEL ref)) :=
  if_pos h

theorem resetRelease_of_ne_reset (ref : Bool) (h : d.st ≠ .reset) : resetRelease ref d = d := if_neg h

theorem resetAssert_short {n : Nat} (h : n < 100) : resetAssert n d = d := if_neg (Nat.not_le.2 h)

theorem resetAssert_unpowered {n : Nat} (h : d.st = .off ∨ d.st = .reset) : resetAssert n d = d := by
  rw [resetAssert, resetEnter, if_pos h, ite_self]

/-- The ports that serve go idle, as the device enters RESET. -/
def portsIdle (d : Device) : Device :=
  (List.range 32).foldl (fun d p => if (d.port p).st = .idle then d else portTo p .idle d) d

theorem portsIdle_keeps : (portsIdle d).kept = d.kept := portsIdle_kept d

/-- What the TAP's instruction is in RESET: one that took the pins in HALT does so no more (R541). -/
theorem tap_resetEnter (st : DevState) (t : Nat) :
    (if st = .halt then tapLeave t else t) = if st = .halt ∧ takesPins t = true then 0xFF else t := by
  by_cases h : st = .halt <;> simp [h, tapLeave]

theorem resetAssert_powered {n : Nat} (hn : 100 ≤ n) (hp : ¬ (d.st = .off ∨ d.st = .reset)) :
    resetAssert n d = tapEnter { pinsGo d.st (freshDevice .reset
        (tioChangeAll (fun d => { d with st := .reset }) (tioStop (portsIdle d)))) with
      tap := if d.st = .halt ∧ takesPins d.tap = true then 0xFF else d.tap } := by
  rw [resetAssert, if_pos hn, resetEnter, if_neg hp, ← tap_resetEnter, ← st_of_kept (portsIdle_keeps (d := d)),
    ← tap_of_kept (portsIdle_keeps (d := d))]
  rfl

theorem tapLeave_eq (t : Nat) : tapLeave t = if t = 0 ∨ t = 5 ∨ t = 6 ∨ t = 7 ∨ t = 8 then 0xFF else t := by
  simp [tapLeave, takesPins]

end Inputs

/-- A command that also acts in OFF and RESET runs as any change that agrees with it on `s`. -/
theorem runsAs_of_onAny {c : Instr} {s : State} {f g : Device → Device} (hc : exec c s = onAny f s)
    (h : f s.dev = g s.dev) : RunsAs c s g := by
  rw [RunsAs, hc, onAny, h]

/-- Such a command that changes nothing answers the state it was given. -/
theorem exec_eq_of_onAny {c : Instr} {s : State} {f : Device → Device} (hc : exec c s = onAny f s) (h : f s.dev = s.dev) :
    exec c s = .next s :=
  runsAs_of_onAny (g := id) hc h

theorem not_powered_iff (s : State) : ¬ Powered s ↔ s.dev.st = .off ∨ s.dev.st = .reset := by
  rw [Classical.not_and_iff_not_or_not, Classical.not_not, Classical.not_not]

/-! ### The statements -/

/-- Settles O11: of the commands that act without power, those that a table row lists in neither state find nothing to
do there. -/
theorem unpoweredDeviceIgnoresCommands : Obligations.UnpoweredDeviceIgnoresCommands := by
  intro c s
  refine ⟨fun ho hon hpa hpr => ?off, fun hr => ?reset⟩
  case off =>
    have hne : s.dev.st ≠ .reset := by simp [ho]
    rcases exec_unpowered ((not_powered_iff s).2 (.inl ho)) c with
      h | rfl | rfl | ⟨pin, n, rfl⟩ | ⟨r, rfl⟩ | ⟨n, rfl⟩ | rfl | htap | ⟨code, rfl⟩
    · exact h
    · exact absurd rfl hon
    · exact exec_eq_of_onAny rfl (powerDown_of_ne_reset hne)
    · exact exec_eq_of_onAny rfl (resetAssert_unpowered (.inl ho))
    · exact exec_eq_of_onAny rfl (resetRelease_of_ne_reset r hne)
    · exact absurd rfl (hpa n)
    · exact absurd rfl hpr
    · simp only [List.mem_cons, List.not_mem_nil, or_false] at htap
      rcases htap with rfl | rfl | rfl | rfl | rfl | rfl | rfl | rfl <;> (rw [exec]; exact onTap_off _ ho)
    · exact debugInstruction_off code ho
  case reset =>
    rcases exec_unpowered ((not_powered_iff s).2 (.inr hr)) c with
      h | rfl | h | ⟨pin, n, rfl⟩ | h | h | h | h | h
    · exact .inl h
    · exact .inl (exec_eq_of_onAny rfl (powerOn_of_ne_off (by simp [hr])))
    · exact .inr (.inl h)
    · exact .inl (exec_eq_of_onAny rfl (resetAssert_unpowered (.inr hr)))
    · exact .inr (.inr (.inl h))
    · exact .inr (.inr (.inr (.inl h)))
    · exact .inr (.inr (.inr (.inr (.inl h))))
    · exact .inr (.inr (.inr (.inr (.inr (.inl h)))))
    · exact .inr (.inr (.inr (.inr (.inr (.inr h)))))

/-- Settles O5: the state of reset lists no register, counter or table entry, so each reads its default. -/
theorem resetState : Obligations.ResetState := by
  refine ⟨rfl, rfl, rfl, rfl, fun f i j => rfl, fun o => rfl, fun p => ⟨rfl, rfl⟩, fun c => rfl, fun q => ⟨rfl, rfl⟩,
    fun m => ?timebase, rfl, rfl, rfl, rfl⟩
  case timebase => cases m <;> rfl

/-- Settles O12: each input in each device state. -/
theorem powerAndResetMoves : Obligations.PowerAndResetMoves := by
  intro s n pin ref
  refine ⟨fun h => ?on, fun h => ?onIdle, fun h => ?down, fun h => ?downIdle, fun hp hn => ?assert, fun _ hn => ?short,
    fun hp => ?assertIdle, fun h => ?release, fun h => ?releaseIdle⟩
  case on => exact runsAs_of_onAny rfl (powerOn_of_off h)
  case onIdle => exact runsAs_of_onAny rfl (powerOn_of_ne_off h)
  case down => exact runsAs_of_onAny rfl (powerDown_of_reset h)
  case downIdle => exact runsAs_of_onAny rfl (powerDown_of_ne_reset h)
  case assert => exact runsAs_of_onAny rfl (resetAssert_powered hn fun h => (not_powered_iff s).2 h hp)
  case short => exact runsAs_of_onAny rfl (resetAssert_short hn)
  case assertIdle => exact runsAs_of_onAny rfl (resetAssert_unpowered ((not_powered_iff s).1 hp))
  case release => exact runsAs_of_onAny rfl (resetRelease_of_reset ref h)
  case releaseIdle => exact runsAs_of_onAny rfl (resetRelease_of_ne_reset ref h)

/-- Settles O13: a device after a whole-device reset is the default one but for what it takes over. -/
theorem freshDeviceHoldsNothing : Obligations.FreshDeviceHoldsNothing := by
  intro st d
  rw [freshDevice, tapLeave_eq]

end Sys2Proof.Proofs

/-!
PROOFS. The host link (R28, R449): Bus Master Enable of the two functions, and what a reset of the host side takes away.
`hostReset` is a chain of changes; each has a lemma here that says what it may change and what holds after it.
-/

namespace Sys2Proof.Proofs

open Sys2Proof.Machine Sys2Proof.Safety

/-! ### Tables and folds -/

/-- A read finds the default or a listed entry. -/
theorem tabGet_eq_or_mem {α : Type} (c : α) (t : Tab α) (k : Nat) : tabGet c t k = c ∨ (k, tabGet c t k) ∈ t := by
  induction t with
  | nil => exact .inl rfl
  | cons e t ih =>
    obtain ⟨i, v⟩ := e
    by_cases h : i = k
    · exact .inr (by simp [tabGet, h])
    · rw [tabGet, if_neg h]
      exact ih.imp_right (List.mem_cons_of_mem _)

/-- Leaving out entries by their keys leaves a key that stays as it was, and one that goes at the default. -/
theorem tabGet_filter_keys {α : Type} (c : α) (f : Nat → Bool) (t : Tab α) (k : Nat) :
    tabGet c (t.filter fun e => f e.1) k = if f k then tabGet c t k else c := by
  induction t with
  | nil => exact (ite_self c).symm
  | cons e t ih =>
    obtain ⟨i, v⟩ := e
    by_cases hi : i = k
    · subst hi
      cases hf : f i <;> simp_all [tabGet]
    · cases hf : f i <;> simp [hf, tabGet, hi, ih]

/-- A fold ends in `P` if `P` holds before it or one of its elements establishes it, and no element ends it. -/
theorem foldl_establishes {σ α : Type} {P : σ → Prop} {f : σ → α → σ} {p : α → Prop} (hset : ∀ x a, p a → P (f x a))
    (hkeep : ∀ x a, P x → P (f x a)) (l : List α) (x : σ) (h : P x ∨ ∃ a ∈ l, p a) : P (l.foldl f x) := by
  induction l generalizing x with
  | nil => simpa using h
  | cons a l ih =>
    refine ih (f x a) ?_
    rcases h with h | ⟨b, hb, hpb⟩
    · exact .inl (hkeep x a h)
    · rcases List.mem_cons.1 hb with rfl | hb
      · exact .inl (hset x b hpb)
      · exact .inr ⟨b, hb, hpb⟩

/-! ### The link and Bus Master Enable -/

variable {d : Device}

theorem pcieLinkUp_trains (h : d.pcie.perst = false) : pcieLinkUp d = { d with pcie.linkUp := true } := by
  simp [pcieLinkUp, h]

theorem pcieLinkUp_held (h : d.pcie.perst = true) : pcieLinkUp d = d := by simp [pcieLinkUp, h]

section MasterChange

variable {x : FnState}

/-- PF0 may issue requests from now on: everything that waited for it goes on (R409). -/
theorem masterChange_resumes (hx : x.master = true) :
    masterChange .pf0 x d = pendingSend .pf0 (tenderPump (fetchAll
      (d.hq.cqs.foldl (fun d c => cqDrain c.1 d) (d.setFn .pf0 x)))) := if_pos hx

/-- PF0 may issue requests no more: a hand-over transfer in progress fails (R409). -/
theorem masterChange_stops (hx : x.master = false) (hd : d.pcie.pf0.master = true) :
    masterChange .pf0 x d = handoverNoBme (d.setFn .pf0 x) :=
  (if_neg (Bool.eq_false_iff.1 hx)).trans (if_pos hd)

/-- A function that could issue no request and cannot now has nothing that waits or fails. -/
theorem masterChange_idles (hx : x.master = false) (hd : d.pcie.pf0.master = false) :
    masterChange .pf0 x d = d.setFn .pf0 x :=
  (if_neg (Bool.eq_false_iff.1 hx)).trans (if_neg (Bool.eq_false_iff.1 hd))

end MasterChange

theorem master_of_d3hot {x : FnState} (h : x.d3hot = true) : x.master = false := by simp [FnState.master, h]

/-! ### Held deliveries (R486) -/

/-- What a held delivery still owes once function `fn` takes none of it. -/
def heldWithout (fn : Fn) (h : Held) : Held :=
  match fn with
  | .pf0 => { h with pf0 := false, vecs := [] }
  | .pf1 => { h with pf1 := false }

/-- Whether a target of route `i` that `h` allows is enabled. -/
def heldLive (i : Nat) (h : Held) (d : Device) : Bool :=
  (h.pf0 && d.rb F.EVENT_ROUTE_MSIX_EN i) || (h.pf1 && d.rb F.EVENT_ROUTE_PF1_EN i)
    || (h.other && (d.rb F.EVENT_ROUTE_TENDER_EN i || d.rg F.EVENT_ROUTE_TIO_MASK i != 0))

/-- The delivery that source `i` holds is discarded as far as it goes to function `fn`. -/
def heldDrop (fn : Fn) (d : Device) (i : Nat) : Device :=
  match tabGet none d.ev.held i with
  | none => d
  | some h =>
    let g := heldWithout fn h
    { d with ev.held := tabSet none d.ev.held i (if heldLive i g d then some g else none) }

theorem evDropHeld_eq_foldl (fn : Fn) (d : Device) :
    evDropHeld fn d = d.ev.held.foldl (fun d e => heldDrop fn d e.1) d := rfl

/-- `e` differs from `d` at most in the deliveries held. -/
def HeldFrame (d e : Device) : Prop := e = { d with ev.held := e.ev.held }

theorem HeldFrame.trans {a b c : Device} (x : HeldFrame a b) (y : HeldFrame b c) : HeldFrame a c := by
  unfold HeldFrame at *
  rw [x] at y
  exact y

theorem heldDrop_frame (fn : Fn) (d : Device) (i : Nat) : HeldFrame d (heldDrop fn d i) := by
  unfold heldDrop
  split <;> exact Eq.refl _

/-- Discarding held deliveries changes nothing else. -/
theorem evDropHeld_frame (fn : Fn) (d : Device) : HeldFrame d (evDropHeld fn d) :=
  List.foldlRecOn d.ev.held _ (Eq.refl d) fun x hx e _ => hx.trans (heldDrop_frame fn x e.1)

/-- What source `i` holds owes nothing to a vector of PF0. -/
def HoldsNoPf0 (i : Nat) (d : Device) : Prop := ∀ h, tabGet none d.ev.held i = some h → h.pf0 = false ∧ h.vecs = []

/-- What a source holds after its own step is what it held, without that function's part. -/
theorem heldDrop_same {fn : Fn} {i : Nat} {h : Held} (hh : tabGet none (heldDrop fn d i).ev.held i = some h) :
    ∃ g, tabGet none d.ev.held i = some g ∧ h = heldWithout fn g := by
  unfold heldDrop at hh
  split at hh
  next hn => simp [hn] at hh
  next g hg =>
    rw [tabGet_tabSet_same] at hh
    split at hh
    · exact ⟨g, hg, (Option.some.inj hh).symm⟩
    · cases hh

theorem heldDrop_other {fn : Fn} {i j : Nat} (hij : j ≠ i) :
    tabGet none (heldDrop fn d i).ev.held j = tabGet none d.ev.held j := by
  unfold heldDrop
  split
  · rfl
  · exact tabGet_tabSet_other none _ d.ev.held i j hij

theorem heldDrop_pf0_clears (i : Nat) (d : Device) : HoldsNoPf0 i (heldDrop .pf0 d i) := by
  intro h hh
  obtain ⟨g, -, rfl⟩ := heldDrop_same hh
  exact ⟨rfl, rfl⟩

theorem heldDrop_keeps_holdsNoPf0 {fn : Fn} {i j : Nat} (hd : HoldsNoPf0 j d) : HoldsNoPf0 j (heldDrop fn d i) := by
  intro h hh
  by_cases hij : j = i
  · subst hij
    obtain ⟨g, hg, rfl⟩ := heldDrop_same hh
    cases fn with
    | pf0 => exact ⟨rfl, rfl⟩
    | pf1 => exact hd g hg
  · exact hd h (heldDrop_other hij ▸ hh)

/-- After PF0's deliveries are discarded no source holds one. -/
theorem evDropHeld_pf0_clears (d : Device) (i : Nat) : HoldsNoPf0 i (evDropHeld .pf0 d) := by
  rw [evDropHeld_eq_foldl]
  refine foldl_establishes (p := fun e => e.1 = i) (fun x e he => ?_) (fun x e hx => heldDrop_keeps_holdsNoPf0 hx) _ _ ?_
  · exact he ▸ heldDrop_pf0_clears e.1 x
  · rcases tabGet_eq_or_mem none d.ev.held i with hn | hm
    · exact .inl fun h hh => by simp [hn] at hh
    · exact .inr ⟨_, hm, rfl⟩

/-- Nor does discarding the deliveries of PF1 bring one back. -/
theorem evDropHeld_keeps_holdsNoPf0 {fn : Fn} {i : Nat} (hd : HoldsNoPf0 i d) : HoldsNoPf0 i (evDropHeld fn d) := by
  rw [evDropHeld_eq_foldl]
  exact foldl_establishes (p := fun _ => False) (fun _ _ => False.elim) (fun x e hx => heldDrop_keeps_holdsNoPf0 hx) _ _
    (.inl hd)

/-! ### Host frames (R379) -/

/-- A port without the host frames that have not begun to leave. -/
def portHostless (x : Port) : Port :=
  { x with launch := [], waits := [],
           classes := x.classes.map fun c => (c.1, { c.2 with frames := c.2.frames.filter fun f => f.job.isNone }) }

theorem dropHostFrames_eq_foldl (d : Device) :
    dropHostFrames d = d.net.ports.foldl (fun d e => d.setPort e.1 (portHostless (d.port e.1)))
      { d with net.offers := [], net.jobs := [] } := rfl

/-- `e` differs from `d` at most in the ports. -/
def PortsFrame (d e : Device) : Prop := e = { d with net.ports := e.net.ports }

theorem PortsFrame.setPort {d e : Device} (h : PortsFrame d e) (p : Nat) (x : Port) : PortsFrame d (e.setPort p x) := by
  unfold PortsFrame at *
  rw [h]
  rfl

/-- Dropping the host frames changes the ports, the offers and the jobs, and nothing else. -/
theorem dropHostFrames_frame (d : Device) :
    PortsFrame { d with net.offers := [], net.jobs := [] } (dropHostFrames d) :=
  List.foldlRecOn d.net.ports _ (Eq.refl _) fun _ hx e _ => hx.setPort e.1 _

/-- No host frame waits at a port. -/
def NoHostFrames (x : Port) : Prop :=
  x.launch = [] ∧ x.waits = [] ∧ ∀ c ∈ x.classes, ∀ f ∈ c.2.frames, f.job = none

theorem noHostFrames_portHostless (x : Port) : NoHostFrames (portHostless x) := by
  refine ⟨rfl, rfl, fun c hc f hf => ?_⟩
  obtain ⟨e, -, rfl⟩ := List.mem_map.1 hc
  exact Option.isNone_iff_eq_none.1 (List.mem_filter.1 hf).2

theorem noHostFrames_default : NoHostFrames {} := ⟨rfl, rfl, fun _ hc => nomatch hc⟩

/-- No host frame waits at a port once they are dropped. -/
theorem dropHostFrames_noHostFrames (d : Device) (p : Nat) : NoHostFrames ((dropHostFrames d).port p) := by
  have own (x : Device) (e : Nat × Port) (he : e.1 = p) :
      NoHostFrames ((x.setPort e.1 (portHostless (x.port e.1))).port p) := by
    rw [← he, port_setPort_same]
    exact noHostFrames_portHostless _
  rw [dropHostFrames_eq_foldl]
  refine foldl_establishes (P := fun x : Device => NoHostFrames (x.port p)) own (fun x e hx => ?_) _ _ ?_
  · by_cases hp : e.1 = p
    · exact own x e hp
    · rwa [port_setPort_other x e.1 p _ (Ne.symm hp)]
  · rcases tabGet_eq_or_mem {} d.net.ports p with hn | hm
    · refine .inl ?_
      show NoHostFrames (tabGet {} d.net.ports p)
      rw [hn]
      exact noHostFrames_default
    · exact .inr ⟨_, hm, rfl⟩

/-- No own ACYCLIC frame waits once they are dropped. -/
theorem acyclicDrop_acyQueue (d : Device) (b : Nat) : ((acyclicDrop d).branch b).acyQueue = [] := by
  rcases tabGet_eq_or_mem {} (acyclicDrop d).cross.branches b with hn | hm
  · exact congrArg Branch.acyQueue hn
  · obtain ⟨e, -, he⟩ := List.mem_map.1 (List.mem_filter.1 hm).1
    exact (congrArg (fun x : Nat × Branch => x.2.acyQueue) he).symm

/-! ### The hand-over (R169) -/

/-- No reserved channel runs where no channel is listed, so detaching clears ATTACHED and what is in progress. -/
theorem cargoDetach_of_no_channel (h : d.tender = []) :
    cargoDetach d = { d.ru F.CARGO_STATUS_ATTACHED 0 with cargo.fetch := .none, cargo.snap := none } := by
  have idle (c : Nat) (e : Device) (he : e.tender = []) : reservedStop c e = e := by
    refine if_neg ?_
    rw [Device.chan, he]
    exact fun hr => nomatch hr
  rw [cargoDetach, handoverAbandon, idle 0 (d.ru F.CARGO_STATUS_ATTACHED 0) h,
    idle 1 (d.ru F.CARGO_STATUS_ATTACHED 0) h]

/-! ### A reset of the host side -/

/-- The host queues, the Tender channels, the host frames and the staging session are gone, and two register blocks are
back at their reset values: the first part of `hostReset`. -/
def hostGone (d : Device) : Device :=
  let e := acyclicDrop (dropHostFrames
    { d with hq := { createOk := d.hq.createOk }, tender := [], tenderTurn := 16, writeTurn := 0 })
  { blockClear 0xC00000 0xD00000 (blockClear 0xB00000 0xC00000 e) with cargo.attachReq := none, boot.stage := none }

/-- The hand-over is then detached, and the counts and timers of PF0's vectors are 0. -/
def hostQuiet (d : Device) : Device :=
  let e := { (hostGone d).ru F.CARGO_STATUS_ATTACHED 0 with cargo.fetch := .none, cargo.snap := none }
  { e with regs := e.regs.filter fun r => !isPendingKey r.1, ev.timer := [], ev.touched := [], ev.fired := [] }

/-- `hostGone` leaves all but what the host side holds, and the registers, as it was. -/
theorem hostGone_frame (d : Device) :
    hostGone d = { d with
      regs := (hostGone d).regs, hq := { createOk := d.hq.createOk }, tender := [], tenderTurn := 16, writeTurn := 0,
      net := (hostGone d).net, cross.branches := (hostGone d).cross.branches, cargo.attachReq := none,
      boot.stage := none } := by
  unfold hostGone
  rw [dropHostFrames_frame]
  rfl

theorem hostReset_eq (d : Device) :
    hostReset d = { evDropHeld .pf0 (hostQuiet d) with pcie.pf0 := {}, pcie.linkUp := false } := by
  have ht : (hostGone d).tender = [] := by rw [hostGone_frame]
  have hc := cargoDetach_of_no_channel ht
  show ({ evResetPf0 (cargoDetach (hostGone d)) with pcie.pf0 := {}, pcie.linkUp := false } : Device) = _
  rw [hc]
  rfl

/-- A reset of the host side leaves every other part of the device as it was: what it changes stands here by name. -/
theorem hostReset_frame (d : Device) :
    hostReset d = { d with
      regs := (hostReset d).regs, ev.held := (hostReset d).ev.held, ev.timer := [], ev.touched := [], ev.fired := [],
      pcie.pf0 := {}, pcie.linkUp := false,
      hq := { createOk := d.hq.createOk }, tender := [], tenderTurn := 16, writeTurn := 0,
      net := (hostReset d).net, cross.branches := (hostReset d).cross.branches,
      cargo.attachReq := none, cargo.fetch := .none, cargo.snap := none, boot.stage := none } := by
  rw [hostReset_eq, evDropHeld_frame]
  unfold hostQuiet
  rw [hostGone_frame]
  rfl

/-- The crossings, the timebases, Pilot, Fix and Trim go on through a reset of the host side (R28). -/
def CrossingsKept (d e : Device) : Prop :=
  e.st = d.st ∧ e.raw = d.raw ∧ e.reckon = d.reckon ∧ e.cross.runs = d.cross.runs ∧ e.pilot = d.pilot ∧ e.fix = d.fix ∧
    e.trim = d.trim

theorem crossingsKept_hostReset (d : Device) : CrossingsKept d (hostReset d) := by
  rw [hostReset_frame]
  exact ⟨rfl, rfl, rfl, rfl, rfl, rfl, rfl⟩

/-! ### What the host side has lost -/

/-- The hand-over is detached (R169). -/
def HandoverDetached (d : Device) : Prop :=
  d.rg F.CARGO_STATUS_ATTACHED = 0 ∧ d.cargo.attachReq = none ∧ d.cargo.fetch = .none ∧ d.cargo.snap = none

/-- No vector of PF0 counts, times or waits, and no held delivery goes to one (R486). -/
def Pf0EventsReset (d : Device) : Prop :=
  (∀ v, v < 2048 → d.rg F.EVENT_VEC_PENDING v = 0) ∧ d.ev.timer = [] ∧ d.ev.touched = [] ∧ ∀ i, HoldsNoPf0 i d

/-- No host frame waits, offered, at a port or for an ACYCLIC window, and none completes any more (R379). -/
def HostFramesGone (d : Device) : Prop :=
  d.net.offers = [] ∧ d.net.jobs = [] ∧ (∀ p, NoHostFrames (d.port p)) ∧ ∀ b, (d.branch b).acyQueue = []

/-- All that a reset of the host side takes away. -/
def HostSideLost (d : Device) : Prop :=
  d.pcie.linkUp = false ∧ d.pcie.pf0 = {} ∧ d.tender = [] ∧ d.hq.sqs = [] ∧ d.hq.cqs = [] ∧ d.boot.stage = none ∧
    HandoverDetached d ∧ Pf0EventsReset d ∧ HostFramesGone d

theorem hostReset_regs (d : Device) :
    (hostReset d).regs = ((hostGone d).ru F.CARGO_STATUS_ATTACHED 0).regs.filter fun e => !isPendingKey e.1 := by
  rw [hostReset_eq, evDropHeld_frame]
  rfl

/-- A field after a reset of the host side: the PENDING counts of PF0's vectors are gone, every other reads as it did. -/
theorem rg_hostReset (d : Device) (f : Fld) (i j : Nat) :
    (hostReset d).rg f i j = if !isPendingKey (f.key i j)
      then ((hostGone d).ru F.CARGO_STATUS_ATTACHED 0).rg f i j else d.unset f := by
  have hu (e : Device) (he : e.charted = d.charted) : e.unset f = d.unset f := by rw [Device.unset, he]; rfl
  have hr : (hostReset d).charted = d.charted := by rw [hostReset_frame]
  have hg : (hostGone d).charted = d.charted := by rw [hostGone_frame]
  rw [Device.rg, hostReset_regs, hu _ hr, Device.rg, hu ((hostGone d).ru F.CARGO_STATUS_ATTACHED 0) hg]
  exact tabGet_filter_keys (d.unset f) (fun k => !isPendingKey k) _ _

/-- What `hostReset` leaves of the network and of the branches: what dropping the host frames leaves. -/
theorem hostReset_frames (d : Device) : ∃ e : Device,
    (hostReset d).net = (dropHostFrames e).net ∧
      (hostReset d).cross.branches = (acyclicDrop (dropHostFrames e)).cross.branches := by
  rw [hostReset_eq, evDropHeld_frame]
  exact ⟨{ d with hq := { createOk := d.hq.createOk }, tender := [], tenderTurn := 16, writeTurn := 0 }, rfl, rfl⟩

theorem handoverDetached_hostReset (d : Device) : HandoverDetached (hostReset d) := by
  refine ⟨?attached, ?rest⟩
  case attached =>
    rw [rg_hostReset, if_pos (by decide)]
    exact rg_ru_same _ _ _ _ _
  case rest =>
    rw [hostReset_frame]
    exact ⟨rfl, rfl, rfl⟩

/-- The register file's keys of the PENDING counts, one for each vector of PF0. -/
theorem isPendingKey_pending {v : Nat} (hv : v < 2048) : isPendingKey (F.EVENT_VEC_PENDING.key v 0) = true := by
  rw [isPendingKey, Bool.and_eq_true, decide_eq_true_eq, beq_iff_eq]
  simp only [Fld.key, F.EVENT_VEC_PENDING]
  omega

theorem pf0EventsReset_hostReset (d : Device) : Pf0EventsReset (hostReset d) := by
  refine ⟨fun v hv => ?pending, ?timer, ?touched, fun i => ?held⟩
  case pending =>
    rw [rg_hostReset, isPendingKey_pending hv]
    exact ite_self 0
  case timer => rw [hostReset_frame]
  case touched => rw [hostReset_frame]
  case held =>
    rw [hostReset_eq]
    exact evDropHeld_pf0_clears (hostQuiet d) i

theorem hostFramesGone_hostReset (d : Device) : HostFramesGone (hostReset d) := by
  obtain ⟨e, he, hb⟩ := hostReset_frames d
  refine ⟨?offers, ?jobs, fun p => ?ports, fun b => ?branches⟩
  case offers => rw [he, dropHostFrames_frame]
  case jobs => rw [he, dropHostFrames_frame]
  case ports =>
    rw [Device.port, he]
    exact dropHostFrames_noHostFrames e p
  case branches =>
    rw [Device.branch, hb]
    exact acyclicDrop_acyQueue (dropHostFrames e) b

theorem hostSideLost_hostReset (d : Device) : HostSideLost (hostReset d) := by
  refine ⟨?_, ?_, ?_, ?_, ?_, ?_, handoverDetached_hostReset d, pf0EventsReset_hostReset d, hostFramesGone_hostReset d⟩ <;>
    rw [hostReset_frame]

/-! ### PERST_N and Function Level Resets -/

/-- What PF1 loses beside: its configuration space and the deliveries held for its vectors. -/
theorem flrPf1_frame (d : Device) : flrPf1 d = { d with ev.held := (flrPf1 d).ev.held, pcie.pf1 := {} } := by
  rw [flrPf1, evDropHeld_frame]

theorem crossingsKept_flrPf1 {e : Device} (h : CrossingsKept d e) : CrossingsKept d (flrPf1 e) := by
  rw [flrPf1_frame]
  exact h

/-- A reset of PF1 gives the host side nothing back. -/
theorem hostSideLost_flrPf1 (h : HostSideLost d) : HostSideLost (flrPf1 d) := by
  obtain ⟨hlink, hpf0, htender, hsqs, hcqs, hstage, hdetached, ⟨hpending, htimer, htouched, hheld⟩, hframes⟩ := h
  have held (i : Nat) : HoldsNoPf0 i (flrPf1 d) := evDropHeld_keeps_holdsNoPf0 (hheld i)
  rw [flrPf1_frame] at held ⊢
  exact ⟨hlink, hpf0, htender, hsqs, hcqs, hstage, hdetached, ⟨hpending, htimer, htouched, held⟩, hframes⟩

theorem perstAssert_short {n : Nat} (h : n < 100) : perstAssert n d = d := if_pos h

theorem perstAssert_unpowered {n : Nat} (hn : 100 ≤ n) (h : d.st = .off ∨ d.st = .reset) :
    perstAssert n d = { d with pcie.perst := true } :=
  (if_neg (Nat.not_lt.2 hn)).trans (if_pos h)

/-- PERST_N resets both functions. -/
theorem perstAssert_powered {n : Nat} (hn : 100 ≤ n) (h : ¬ (d.st = .off ∨ d.st = .reset)) :
    perstAssert n d = flrPf1 (hostReset { d with pcie.perst := true }) :=
  (if_neg (Nat.not_lt.2 hn)).trans (if_neg h)

/-- What a Function Level Reset of PF0 answers: no vector waits for the interrupt decision after it. -/
theorem exec_flrPf0 {s : State} (hl : Linked s) : exec .flrPf0 s = .next { s with dev := hostReset s.dev } := by
  have ht : (hostReset s.dev).ev.touched = [] := (pf0EventsReset_hostReset s.dev).2.2.1
  rw [← settle_eq _ ht]
  exact onHost_run hostReset s hl

theorem hostReset_pcie (d : Device) : (hostReset d).pcie = { d.pcie with linkUp := false, pf0 := {} } := by
  rw [hostReset_frame]

/-! ### The statements -/

/-- Settles O16: PERST_N and a Function Level Reset of PF0 are one reset of the host side, PERST_N with PF1's besides. -/
theorem hostResetLeavesCrossings : Obligations.HostResetLeavesCrossings := by
  intro s n kept detached eventsReset framesGone lost
  refine ⟨fun hp hn => ?perst, fun hl => ?flr, fun hd => ?flrDown, fun hn => ?short, fun hp hn => ?unpowered, rfl⟩
  case perst =>
    have hs : ¬ (s.dev.st = .off ∨ s.dev.st = .reset) := fun h => (not_powered_iff s).2 h hp
    let d : Device := { s.dev with pcie.perst := true }
    have hd : perstAssert n s.dev = flrPf1 (hostReset d) := perstAssert_powered hn hs
    have hpcie : (flrPf1 (hostReset d)).pcie = { d.pcie with linkUp := false, pf0 := {}, pf1 := {} } := by
      rw [flrPf1_frame, hostReset_pcie]
    refine ⟨{ s with dev := flrPf1 (hostReset d) }, runsAs_of_onAny (g := fun _ => flrPf1 (hostReset d)) rfl hd,
      ⟨rfl, rfl, crossingsKept_flrPf1 (crossingsKept_hostReset d)⟩, hostSideLost_flrPf1 (hostSideLost_hostReset d), ?_, ?_⟩
    · exact congrArg Pcie.perst hpcie
    · exact congrArg Pcie.pf1 hpcie
  case flr =>
    refine ⟨_, exec_flrPf0 hl, ⟨rfl, rfl, crossingsKept_hostReset s.dev⟩, hostSideLost_hostReset s.dev, ?_, ?_⟩
    · exact (congrArg Pcie.perst (hostReset_pcie s.dev) :)
    · exact (congrArg Pcie.pf1 (hostReset_pcie s.dev) :)
  case flrDown => exact onHost_down hostReset s hd
  case short => exact runsAs_of_onAny rfl (perstAssert_short hn)
  case unpowered => exact runsAs_of_onAny rfl (perstAssert_unpowered hn ((not_powered_iff s).1 hp))

/-- Settles O17: the link, both Function Level Resets, and Bus Master Enable by what the function could do before. -/
theorem linkAndBusMaster : Obligations.LinkAndBusMaster := by
  intro s en
  refine ⟨fun hp h => ?up, fun hp h => ?held, rfl, fun hl => ?flrPf0, fun hl => ?flrPf1, fun hl => ?pf1,
    fun hl h => ?resumes, fun hl h => ?asleep, fun hl h => ?stops, fun hl h => ?idles⟩
  case up => exact runs_of_onDev rfl hp (pcieLinkUp_trains h)
  case held => exact runs_of_onDev rfl hp (pcieLinkUp_held h)
  case flrPf0 => exact ⟨_, exec_flrPf0 hl, rfl, hostReset_pcie s.dev⟩
  case flrPf1 => exact runs_of_onHost rfl hl rfl
  case pf1 => exact runs_of_onHost rfl hl rfl
  case resumes => exact runs_of_onHost rfl hl (masterChange_resumes (by simp [FnState.master, h, Device.fnState]))
  case asleep => exact runs_of_onHost rfl hl (masterChange_idles (master_of_d3hot h) (master_of_d3hot h))
  case stops => exact runs_of_onHost rfl hl (masterChange_stops rfl h)
  case idles => exact runs_of_onHost rfl hl (masterChange_idles rfl h)

end Sys2Proof.Proofs

/-!
PROOFS. Errors inside the core: failed receptions on the fabric's links (R18 to R20), and single-bit and uncorrectable
errors of the SRAM by region (R21, R22).
-/

namespace Sys2Proof.Proofs

open Sys2Proof.Machine Sys2Proof.Safety

variable {d : Device} {l : Nat}

/-! ### Links -/

@[simp] theorem link_setLink_same (d : Device) (l : Nat) (x : FabricLink) : (d.setLink l x).link l = x :=
  tabGet_tabSet_same ({} : FabricLink) x d.core.links l

theorem link_setLink_other (d : Device) {l k : Nat} (x : FabricLink) (h : k ≠ l) : (d.setLink l x).link k = d.link k :=
  tabGet_tabSet_other ({} : FabricLink) x d.core.links l k h

/-- Nothing that keeps what events and ports keep changes a link. -/
theorem link_of_kept {d e : Device} (h : e.kept = d.kept) (k : Nat) : e.link k = d.link k := by
  have hc : e.core = d.core := congrArg Kept.core h
  rw [Device.link, hc]
  rfl

/-- In particular not the interrupt decision that ends every command. -/
@[simp] theorem link_settle (d : Device) (k : Nat) : (settle d).link k = d.link k := link_of_kept (settle_kept d) k

/-! ### Receptions -/

theorem fabricFailLimit_reached (h : 8 ≤ (d.link l).fails) : fabricFailLimit l d = halt 1 d := if_pos h

theorem fabricFailLimit_below (h : (d.link l).fails < 8) : fabricFailLimit l d = d := if_neg (Nat.not_le.2 h)

/-- A failed reception on the link `x`, with the count of 8 not yet looked at: the count advances, the region counts it,
and a replay is asked for (R19, R20, R403). -/
def flitFailed (l : Nat) (x : FabricLink) (d : Device) : Device :=
  let n := x.fails + 1
  let e := (d.setLink l { x with fails := n }).rsat F.TRIM_FABRIC_REPLAYS 1 (l % 16)
  let e := (e.ru F.TRIM_FABRIC_MAX_RUN (max (e.rg F.TRIM_FABRIC_MAX_RUN (l % 16)) (min n 8)) (l % 16)).emit (.replay l)
  if n = 4 then trimEvent 7 e else e

theorem flitBad_eq {x : FabricLink} (hx : d.link l = x) : flitBad l d = fabricFailLimit l (flitFailed l x d) := by
  subst hx
  rfl

/-- A failed reception changes no link but its own, and there only the count. -/
theorem link_flitFailed (x : FabricLink) (k : Nat) :
    (flitFailed l x d).link k = (d.setLink l { x with fails := x.fails + 1 }).link k := by
  unfold flitFailed
  dsimp only
  split
  · exact link_of_kept ((trimEvent_kept _ 7).trans rfl) k
  · rfl

/-- Below the limit a failed reception leaves the count one more, and every other link alone. -/
theorem fabricFailLimit_flitFailed {x : FabricLink} (h : x.fails < 7) :
    ((fabricFailLimit l (flitFailed l x d)).link l).fails = x.fails + 1 ∧
      ∀ k, k ≠ l → (fabricFailLimit l (flitFailed l x d)).link k = d.link k := by
  have hl : (flitFailed l x d).link l = { x with fails := x.fails + 1 } := by rw [link_flitFailed, link_setLink_same]
  rw [fabricFailLimit_below (by rw [hl]; exact Nat.succ_lt_succ h), hl]
  exact ⟨rfl, fun k hk => by rw [link_flitFailed, link_setLink_other _ _ hk]⟩

section Flits

variable {sent data : Bytes}

/-- The sender's buffer and the replay owed, once a flit has been sent for the first time. -/
def linkSent (sent : Bytes) (owed : Nat) (x : FabricLink) : FabricLink :=
  { x with buffer := (sent :: x.buffer).take 32, owed := owed }

/-- A flit accepted. -/
def linkAccepted (data : Bytes) (x : FabricLink) : FabricLink := { x with fails := 0, accepted := some data }

theorem flitGood_eq (x : FabricLink) :
    flitGood l data (d.setLink l x) = (d.setLink l x).setLink l (linkAccepted data x) := by
  rw [flitGood, link_setLink_same]
  rfl

theorem flitFirst_good (h : (d.link l).owed = 0) :
    flitFirst l sent data true d =
      (d.setLink l (linkSent sent 0 (d.link l))).setLink l (linkAccepted data (linkSent sent 0 (d.link l))) := by
  rw [← flitGood_eq, flitFirst, if_neg (by omega), if_pos rfl]
  rfl

theorem flitFirst_bad (h : (d.link l).owed = 0) :
    flitFirst l sent data false d =
      fabricFailLimit l (flitFailed l (linkSent sent 1 (d.link l)) (d.setLink l (linkSent sent 1 (d.link l)))) := by
  rw [flitFirst, if_neg (by omega), if_neg Bool.false_ne_true]
  exact flitBad_eq (link_setLink_same d l _)

/-- While a replay is owed the receiver discards what is sent for the first time. -/
theorem flitFirst_discards (h : 0 < (d.link l).owed) (good : Bool) :
    flitFirst l sent data good d = d.setLink l (linkSent sent (min ((d.link l).owed + 1) 32) (d.link l)) := if_pos h

theorem flitReplayed_none (h : (d.link l).owed = 0) (good : Bool) : flitReplayed l data good d = d := if_pos h

/-- The sender sends the oldest flit of the replay again. -/
def resend (l : Nat) (d : Device) : Device := d.emit (.resent l ((d.link l).buffer[(d.link l).owed - 1]?))

theorem flitReplayed_good (h : 0 < (d.link l).owed) :
    flitReplayed l data true d = ((resend l d).setLink l { d.link l with owed := (d.link l).owed - 1 }).setLink l
      (linkAccepted data { d.link l with owed := (d.link l).owed - 1 }) := by
  rw [← flitGood_eq, flitReplayed, if_neg (by omega), if_pos rfl]
  rfl

theorem flitReplayed_bad (h : 0 < (d.link l).owed) :
    flitReplayed l data false d = fabricFailLimit l (flitFailed l (d.link l) (resend l d)) := by
  rw [flitReplayed, if_neg (by omega), if_neg Bool.false_ne_true]
  exact flitBad_eq rfl

variable {crc : BitVec 16} {good : Bool}

theorem flitReceive_first (h : (crc16 data == crc.toNat) = good) :
    flitReceive l sent data crc false d = flitFirst l sent data good d := by
  subst h
  rfl

theorem flitReceive_replayed (h : (crc16 data == crc.toNat) = good) :
    flitReceive l sent data crc true d = flitReplayed l data good d := by
  subst h
  rfl

end Flits

/-! ### SRAM errors -/

theorem memError_hold_none {place : HoldPlace} (h : holdDrop place (evRaise 0 d) = none) :
    memError .uncorrectable (.hold place) d = evRaise 0 d := by
  simp only [memError, memAction, h]

theorem memError_hold_some {place : HoldPlace} {e : Device} (h : holdDrop place (evRaise 0 d) = some e) :
    memError .uncorrectable (.hold place) d = { e with core.holdDrops := e.core.holdDrops + 1 } := by
  simp only [memError, memAction, h]

/-! ### The statements -/

/-- Settles O41: first receptions and replays, each good and bad, and the limit of 8. -/
theorem fabricLinkCounts : Obligations.FabricLinkCounts := by
  intro s l sent data crc hp x first good failed again
  refine ⟨fun ho hc => ?firstGood, fun ho hc => ?firstBad, fun ho => ?discards, fun ho hc => ?replayGood,
    fun ho hc => ?replayBad, fun ho => ?nothingOwed, fun h => ?limit, fun h => ?below⟩
  case firstGood =>
    have hgood : (crc16 data == crc.toNat) = true := beq_iff_eq.2 hc
    refine ⟨_, runs_of_onDev (g := good (first 0)) rfl hp ((flitReceive_first hgood).trans (flitFirst_good ho)), rfl, ?_,
      fun k hk => ?_⟩
    · rw [link_settle, link_setLink_same]
    · rw [link_settle, link_setLink_other _ _ hk, link_setLink_other _ _ hk]
  case firstBad =>
    have hbad : (crc16 data == crc.toNat) = false := beq_eq_false_iff_ne.2 hc
    refine ⟨_, runs_of_onDev (g := fun d => failed (first 1) (d.setLink l (first 1))) rfl hp
      ((flitReceive_first hbad).trans (flitFirst_bad ho)), rfl, fun h7 => ?_⟩
    obtain ⟨hown, hother⟩ := fabricFailLimit_flitFailed (l := l) (d := s.dev.setLink l (first 1)) (x := first 1) h7
    refine ⟨?_, fun k hk => ?_⟩
    · rw [link_settle]
      exact hown
    · rw [link_settle]
      exact (hother k hk).trans (link_setLink_other _ _ hk)
  case discards => exact runs_of_onDev rfl hp ((flitReceive_first rfl).trans (flitFirst_discards ho _))
  case replayGood =>
    exact runs_of_onDev rfl hp ((flitReceive_replayed (beq_iff_eq.2 hc)).trans (flitReplayed_good ho))
  case replayBad =>
    exact runs_of_onDev rfl hp ((flitReceive_replayed (beq_eq_false_iff_ne.2 hc)).trans (flitReplayed_bad ho))
  case nothingOwed => exact runs_of_onDev rfl hp ((flitReceive_replayed rfl).trans (flitReplayed_none ho _))
  case limit => exact runs_of_onDev rfl hp (fabricFailLimit_reached h)
  case below => exact runs_of_onDev rfl hp (fabricFailLimit_below h)

/-- Settles O42: each site, and in Hold whether a frame is there. -/
theorem sramErrors : Obligations.SramErrors := by
  intro s m a place e hp
  refine ⟨?singleBit, fun h => ?holdNone, fun h => ?holdSome, ?state, ?queue, ?cargoIn, ?cargoOut, ?counter, ?stamp,
    ?sample⟩
  case holdNone => exact runs_of_onDev rfl hp (memError_hold_none h)
  case holdSome => exact runs_of_onDev rfl hp (memError_hold_some h)
  case singleBit | state | queue | cargoIn | cargoOut | counter | stamp | sample => exact runs_of_onDev rfl hp rfl

end Sys2Proof.Proofs

/-!
PROOFS. The crossing boundary (R106) and the boot steps (R491 to R504): one equation per case of each meaning, by the
device state, the step of the loader and what it finds.
-/

namespace Sys2Proof.Proofs

open Sys2Proof.Machine Sys2Proof.Safety

/-- A command that may write the fuses or the flash runs as any change that agrees with it on `s`. -/
theorem runsNv_of_onAll {c : Instr} {s : State} {g : NonVol → Device → NonVol × Device} {n : NonVol} {f : Device → Device}
    (hc : exec c s = onAll g s) (hp : Powered s) (h : g s.nv s.dev = (n, f s.dev)) : RunsNv c s n f := by
  rw [RunsNv, hc, onAll_run g s hp, h]

section BootCommands

variable {s : State} {g : Device → Device} (hp : Powered s)
include hp

theorem runs_flashHeaderReadDone (h : flashHeaderReadDone s.nv s.dev = g s.dev) : Runs .flashHeaderReadDone s g :=
  runs_of_onDev (f := flashHeaderReadDone s.nv) rfl hp h

theorem runs_slotReadDone {ok : Bool} (h : slotReadDone ok s.nv s.dev = g s.dev) : Runs (.slotReadDone ok) s g :=
  runs_of_onDev (f := slotReadDone ok s.nv) rfl hp h

theorem runs_slotVerifyDone (h : slotVerifyDone s.nv s.dev = g s.dev) : Runs .slotVerifyDone s g :=
  runs_of_onDev (f := slotVerifyDone s.nv) rfl hp h

end BootCommands

variable {d : Device} {n : NonVol}

/-! ### The crossing boundary -/

section Boundary

variable {w : Word} {ok : Bool}

/-- No boundary is due: crossings do not run, there is no epoch, or its time has not come. -/
def BoundaryOff (d : Device) : Prop :=
  crossingState d.st = false ∨ d.cross.epoch = false ∨ d.xNow < boundaryT (nextCrossing d) d

theorem crossingBoundary_off (h : BoundaryOff d) : crossingBoundary w ok n d = (n, d) := if_pos h

theorem crossingBoundary_wipes (h : ¬ BoundaryOff d) (hw : d.wipeDue = true) :
    crossingBoundary w ok n d = (n, wipeCommit (testAnswer 0x46 d)) :=
  (if_neg h).trans (if_pos hw)

/-- At its time a boundary without a wipe goes on, with the device `e` in which what was written has taken force, Fix has
corrected and Pilot's ports have moved: the device makes its own move and the crossing's work is done, unless the epoch
has been lost or the device sleeps. -/
def boundaryGoes (whole ok : Bool) (k : Nat) (n : NonVol) (e : Device) : NonVol × Device :=
  if !e.cross.epoch then (n, e)
  else
    let r := boundaryMove whole ok n (crossingReset { e with cross.current := some k })
    if r.2.st = .dormant then r else (r.1, boundaryWork k r.2)

theorem crossingBoundary_goes {e : Device} (he : e = fenceAll (boundaryFix (nextCrossing d) w (rwaTake d)))
    (h : ¬ BoundaryOff d) (hw : d.wipeDue = false) :
    crossingBoundary w ok n d = boundaryGoes d.cross.current.isSome ok (nextCrossing d) n e := by
  unfold BoundaryOff at h
  unfold crossingBoundary
  rw [if_neg h, hw, ← he]
  rfl

section Goes

variable {whole : Bool} {k : Nat} {e : Device} {r : NonVol × Device}

theorem boundaryGoes_epochLost (he : e.cross.epoch = false) : boundaryGoes whole ok k n e = (n, e) := by
  simp [boundaryGoes, he]

variable (hr : r = boundaryMove whole ok n (crossingReset { e with cross.current := some k }))
  (he : e.cross.epoch = true)
include hr he

theorem boundaryGoes_sleeps (hs : r.2.st = .dormant) : boundaryGoes whole ok k n e = (r.1, r.2) := by
  rw [boundaryGoes, if_neg (by rw [he]; decide), ← hr]
  exact if_pos hs

theorem boundaryGoes_works (hs : r.2.st ≠ .dormant) : boundaryGoes whole ok k n e = (r.1, boundaryWork k r.2) := by
  rw [boundaryGoes, if_neg (by rw [he]; decide), ← hr]
  exact if_neg hs

end Goes

end Boundary

/-! ### Entry into LOAD -/

theorem wipeComplete_loads {flash : Sfdp} {e : Device} {r : NonVol × Device} (he : e = trimBoot (devGo .load d))
    (hr : r = loadStart n { e with boot.sfdp := flash, boot.from_ := e.raw }) (h : d.st = .wipe) :
    wipeComplete flash n d = (r.1, r.2) := by
  rw [wipeComplete, if_neg (Classical.not_not.2 h), ← he]
  exact hr.symm

theorem wipeComplete_idle (flash : Sfdp) (h : d.st ≠ .wipe) : wipeComplete flash n d = (n, d) := if_pos h

/-! ### The boot steps -/

/-- The guard of a boot step does not hold in the step's own place. -/
theorem inStep {x : BootStep} (hst : d.st = .load) (hb : d.boot.step = x) : ¬ (d.st ≠ .load ∨ d.boot.step ≠ x) := by
  simp [hst, hb]

/-- A header that is found: the mode in use, the slots' reports and faults, and the order in which they are tried. -/
def headerFound (n : NonVol) (h : FlashHeader) (d : Device) : Device :=
  let x := slotHeader n h.slotSize 0
  let y := slotHeader n h.slotSize 1
  let e := slotReport x y (flashMode h (d.ru F.CHART_STATUS_HEADER_COPY h.copy))
  let e := slotFault 1 (if y.ok then 0 else 1) 0 (slotFault 0 (if x.ok then 0 else 1) 0 e)
  slotNext { e with boot.slotSize := h.slotSize, boot.cands := slotOrder n h.slotSize }

section Header

variable (hst : d.st = .load) (hb : d.boot.step = .header)
include hst hb

theorem flashHeaderReadDone_none (hf : flashHeader n.flash d.boot.sfdp.sizeLog2 = none) :
    flashHeaderReadDone n d =
      slotNext ({ d with boot.slotSize := 0, boot.cands := [] }.ru F.CHART_STATUS_HEADER_FAULT 1) := by
  rw [flashHeaderReadDone, if_neg (inStep hst hb), hf]

theorem flashHeaderReadDone_some {h : FlashHeader} (hf : flashHeader n.flash d.boot.sfdp.sizeLog2 = some h) :
    flashHeaderReadDone n d = headerFound n h d := by
  rw [flashHeaderReadDone, if_neg (inStep hst hb), hf]
  rfl

end Header

theorem flashHeaderReadDone_idle (h : d.st ≠ .load ∨ d.boot.step ≠ .header) : flashHeaderReadDone n d = d := if_pos h

section Read

variable {k : Nat} {more : List Nat} (hst : d.st = .load) (hb : d.boot.step = .read) (hc : d.boot.cands = k :: more)
include hst hb hc

theorem slotReadDone_unread : slotReadDone false n d = slotFail 2 0 d := by
  rw [slotReadDone, if_neg (inStep hst hb), hc]
  rfl

theorem slotReadDone_malformed {m : Nat} (hl : slotLoad n d.boot.slotSize k = .inl m) :
    slotReadDone true n d = slotFail 6 m d := by
  rw [slotReadDone, if_neg (inStep hst hb), hc]
  simp [hl]

theorem slotReadDone_loads {l : Loading} (hl : slotLoad n d.boot.slotSize k = .inr l) :
    slotReadDone true n d = { d with boot.step := .verify, boot.load := some l } := by
  rw [slotReadDone, if_neg (inStep hst hb), hc]
  simp [hl]

end Read

theorem slotReadDone_idle (ok : Bool) (h : d.st ≠ .load ∨ d.boot.step ≠ .read ∨ d.boot.cands = []) :
    slotReadDone ok n d = d := by
  unfold slotReadDone
  split
  · rfl
  · next hin =>
    have hc : d.boot.cands = [] := (or_assoc.2 h).resolve_left hin
    rw [hc]

/-- What a slot that verifies goes on with: the overrides are applied to its registers (R501). -/
def overridesApplied (size : Nat) (n : NonVol) (l : Loading) (d : Device) : Device :=
  let o := applyOverrides n.flash (persistBase size) l.regs
  let e := { d with boot.step := .check, boot.load := some { l with final := o.1 } }
  if o.2 then e.ru F.CHART_STATUS_OVERRIDE_SKIPPED 1 else e

section Verify

variable {l : Loading} (hst : d.st = .load) (hb : d.boot.step = .verify) (hl : d.boot.load = some l)
include hst hb hl

theorem slotVerifyDone_fails (hv : slotVerify n l.key l.sig l.digest l.svn ≠ 0) :
    slotVerifyDone n d = slotFail (slotVerify n l.key l.sig l.digest l.svn) 0 d := by
  rw [slotVerifyDone, if_neg (inStep hst hb), hl]
  exact if_pos hv

theorem slotVerifyDone_passes {size : Nat} (hs : size = d.boot.slotSize)
    (hv : slotVerify n l.key l.sig l.digest l.svn = 0) : slotVerifyDone n d = overridesApplied size n l d := by
  rw [slotVerifyDone, if_neg (inStep hst hb), hl, ← hs]
  exact if_neg (Classical.not_not.2 hv)

end Verify

theorem slotVerifyDone_idle (h : d.st ≠ .load ∨ d.boot.step ≠ .verify ∨ d.boot.load = none) :
    slotVerifyDone n d = d := by
  unfold slotVerifyDone
  split
  · rfl
  · next hin =>
    have hl : d.boot.load = none := (or_assoc.2 h).resolve_left hin
    rw [hl]

section Check

variable {l : Loading} (hst : d.st = .load) (hb : d.boot.step = .check) (hl : d.boot.load = some l)
include hst hb hl

/-- A chart is checked with the overrides first, and without them where they are what fails (R501). -/
theorem chartCheckDone_checks :
    chartCheckDone d =
      if chartCheck l l.final then chartLoaded l l.final d
      else if chartCheck l l.regs then chartLoaded l l.regs (d.ru F.CHART_STATUS_OVERRIDE_SKIPPED 1)
      else slotFail 7 0 d := by
  rw [chartCheckDone, if_neg (inStep hst hb), hl]

theorem chartCheckDone_passes (hf : chartCheck l l.final = true) : chartCheckDone d = chartLoaded l l.final d := by
  rw [chartCheckDone_checks hst hb hl, if_pos hf]

theorem chartCheckDone_skips (hf : chartCheck l l.final = false) (hr : chartCheck l l.regs = true) :
    chartCheckDone d = chartLoaded l l.regs (d.ru F.CHART_STATUS_OVERRIDE_SKIPPED 1) := by
  rw [chartCheckDone_checks hst hb hl, if_neg (Bool.eq_false_iff.1 hf), if_pos hr]

theorem chartCheckDone_fails (hf : chartCheck l l.final = false) (hr : chartCheck l l.regs = false) :
    chartCheckDone d = slotFail 7 0 d := by
  rw [chartCheckDone_checks hst hb hl, if_neg (Bool.eq_false_iff.1 hf), if_neg (Bool.eq_false_iff.1 hr)]

end Check

theorem chartCheckDone_idle (h : d.st ≠ .load ∨ d.boot.step ≠ .check ∨ d.boot.load = none) : chartCheckDone d = d := by
  unfold chartCheckDone
  split
  · rfl
  · next hin =>
    have hl : d.boot.load = none := (or_assoc.2 h).resolve_left hin
    rw [hl]

/-! ### The erase of a RETIRED device (R516) -/

/-- The erase is in progress. -/
def Erases (d : Device) : Prop :=
  d.st = .load ∧ d.boot.step = .retiredIdle ∧ d.rb F.CHART_STATUS_ERASING = true

theorem erases_iff : Erases d ↔
    ¬ (d.st ≠ .load ∨ d.boot.step ≠ .retiredIdle ∨ d.rb F.CHART_STATUS_ERASING = false) := by
  simp [Erases]

theorem retiredEraseDone_idle (h : ¬ Erases d) : retiredEraseDone n d = (n, d) :=
  if_pos (Classical.not_not.1 (mt erases_iff.2 h))

/-- Both header copies go, and where the slot size is known the slots and the persistent region too. -/
theorem retiredEraseDone_erases (h : Erases d) :
    retiredEraseDone n d =
      ({ n with flash := if d.boot.slotSize = 0 then flashErase n.flash 0 0x20000
                else flashErase (flashErase n.flash 0 0x20000) 0x100000 (2 * d.boot.slotSize + 2 ^ 20) },
        d.ru F.CHART_STATUS_ERASING 0) :=
  if_neg (erases_iff.1 h)

theorem retiredEraseDone_all (h : Erases d) (hs : d.boot.slotSize ≠ 0) :
    retiredEraseDone n d =
      ({ n with flash := flashErase (flashErase n.flash 0 0x20000) 0x100000 (2 * d.boot.slotSize + 2 ^ 20) },
        d.ru F.CHART_STATUS_ERASING 0) := by
  rw [retiredEraseDone_erases h, if_neg hs]

theorem retiredEraseDone_headers (h : Erases d) (hs : d.boot.slotSize = 0) :
    retiredEraseDone n d = ({ n with flash := flashErase n.flash 0 0x20000 }, d.ru F.CHART_STATUS_ERASING 0) := by
  rw [retiredEraseDone_erases h, if_pos hs]

/-! ### The statement -/

/-- Settles O59: the boundary, then each boot step in its place and out of it, and the erase. -/
theorem boundaryAndBoot : Obligations.BoundaryAndBoot := by
  intro s w ok flash k m more l h hp d b n off erases
  refine ⟨fun ho => ?off, fun ho hw => ?wipes, fun ho hw => ?taken, fun hst => ?loads, fun hst => ?loadsNot,
    fun hst hb hf => ?headerNone, fun hst hb hf => ?headerFound, fun hn => ?headerIdle,
    fun hst hb hc => ⟨?unread, fun hl => ?malformed, fun hl => ?read⟩, fun hn => ?readIdle,
    fun hst hb hl => ⟨fun hv => ?verifyFails, fun hv => ?verifies⟩, fun hn => ?verifyIdle,
    fun hst hb hl => ⟨fun hf => ?checks, fun hf hr => ?checksBare, fun hf hr => ?checkFails⟩, fun hn => ?checkIdle,
    fun he => ⟨fun hs => ?erasesAll, fun hs => ?erasesHeaders⟩, fun he => ?eraseIdle⟩
  case off => exact runsNv_of_onAll rfl hp (crossingBoundary_off ho)
  case wipes => exact runsNv_of_onAll rfl hp (crossingBoundary_wipes ho hw)
  case taken =>
    intro e r
    have h := crossingBoundary_goes (w := w) (ok := ok) (n := s.nv) (e := e) rfl ho hw
    refine ⟨fun he => ?epochLost, fun he hs => ?sleeps, fun he hs => ?works⟩
    case epochLost => exact runsNv_of_onAll rfl hp (h.trans (boundaryGoes_epochLost he))
    case sleeps => exact runsNv_of_onAll rfl hp (h.trans (boundaryGoes_sleeps (r := r) rfl he hs))
    case works => exact runsNv_of_onAll rfl hp (h.trans (boundaryGoes_works (r := r) rfl he hs))
  case loads =>
    intro e r
    exact runsNv_of_onAll rfl hp (wipeComplete_loads (e := e) (r := r) rfl rfl hst)
  case loadsNot => exact runsNv_of_onAll rfl hp (wipeComplete_idle flash hst)
  case headerNone => exact runs_flashHeaderReadDone hp (flashHeaderReadDone_none hst hb hf)
  case headerFound => exact runs_flashHeaderReadDone hp (flashHeaderReadDone_some hst hb hf)
  case headerIdle => exact runs_flashHeaderReadDone hp (flashHeaderReadDone_idle hn)
  case unread => exact runs_slotReadDone hp (slotReadDone_unread hst hb hc)
  case malformed => exact runs_slotReadDone hp (slotReadDone_malformed hst hb hc hl)
  case read => exact runs_slotReadDone hp (slotReadDone_loads hst hb hc hl)
  case readIdle => exact runs_slotReadDone hp (slotReadDone_idle ok hn)
  case verifyFails => exact runs_slotVerifyDone hp (slotVerifyDone_fails hst hb hl hv)
  case verifies => exact runs_slotVerifyDone hp (slotVerifyDone_passes (size := b.slotSize) hst hb hl rfl hv)
  case verifyIdle => exact runs_slotVerifyDone hp (slotVerifyDone_idle hn)
  case checks => exact runs_of_onDev rfl hp (chartCheckDone_passes hst hb hl hf)
  case checksBare => exact runs_of_onDev rfl hp (chartCheckDone_skips hst hb hl hf hr)
  case checkFails => exact runs_of_onDev rfl hp (chartCheckDone_fails hst hb hl hf hr)
  case checkIdle => exact runs_of_onDev rfl hp (chartCheckDone_idle hn)
  case erasesAll => exact runsNv_of_onAll rfl hp (retiredEraseDone_all he hs)
  case erasesHeaders => exact runsNv_of_onAll rfl hp (retiredEraseDone_headers he hs)
  case eraseIdle => exact runsNv_of_onAll rfl hp (retiredEraseDone_idle he)

end Sys2Proof.Proofs

/-!
PROOFS. The Reckoner (chapter 02): what a fold does to a timebase, and one lemma per case of each function of the model:
parameter writes, holdover and the primary switch, snapshots, PPS_IN, REFCLK_TIME and PTM; with the idle tick that moves
the raw counter.
-/

namespace Sys2Proof.Proofs

open Sys2Proof.Machine Sys2Proof.Safety

variable {d : Device} {m : Dom} {k : Word} {w : ParamWrite}

/-! ### Parameter sets (R36, R47) -/

section Sets

variable (p : ParamSet) (k r : Word) (f : BitVec 16) (t : Int)

theorem baseAt_units : p.baseAt k * 2 ^ 16 = p.timeAt { count := k } := by
  simp only [ParamSet.baseAt, ParamSet.timeAt]
  push_cast
  grind

/-- A set advances by its INCR from any tick on. -/
theorem timeAt_advance :
    p.timeAt { count := r, frac := f } =
      p.timeAt { count := k } + p.incr * (((r.toNat : Int) - k.toNat) * 2 ^ 16 + f.toNat) := by
  simp only [ParamSet.timeAt]
  push_cast
  grind

/-- At its own fold tick a folded set reads its new base. -/
theorem timeAt_foldSet (w : ParamWrite) : (foldSet p k w).timeAt { count := k } = (foldSet p k w).base * 2 ^ 16 := by
  cases w <;> simp [foldSet, ParamSet.timeAt]

theorem timeAt_foldSet_incr (v : Nat) : (foldSet p k (.incr v)).timeAt { count := k } = p.timeAt { count := k } := by
  rw [timeAt_foldSet, ← baseAt_units, foldSet]

theorem timeAt_foldSet_step :
    (foldSet p k (.step t)).timeAt { count := k } = p.timeAt { count := k } + t * 2 ^ 40 := by
  rw [timeAt_foldSet, ← baseAt_units, foldSet]
  grind

theorem timeAt_foldSet_set : (foldSet p k (.set t)).timeAt { count := k } = t * 2 ^ 40 := by
  rw [timeAt_foldSet, foldSet]
  grind

/-- Settles O25: each fold by what it reads at its tick, carried to every count by `timeAt_advance`. -/
theorem foldsMoveTime : Obligations.FoldsMoveTime := by
  intro p k r f v t
  refine ⟨timeAt_foldSet_incr p k v, ?incr, ?step, timeAt_foldSet_set p k t⟩
  case incr => rw [timeAt_advance _ k, timeAt_foldSet_incr, foldSet]
  case step =>
    rw [timeAt_advance _ k, timeAt_foldSet_step, timeAt_advance p k r f, foldSet]
    grind

end Sets

/-! ### The idle tick (R32) -/

section Idle

variable {s : State}

theorem tick_powered (hp : Powered s) : tick s.dev = tickWork { s.dev with raw := s.dev.raw + 1 } :=
  if_neg fun h => (not_powered_iff s).2 h hp

theorem tick_unpowered (hp : ¬ Powered s) : tick s.dev = s.dev := if_pos ((not_powered_iff s).1 hp)

theorem step_idle (hq : s.pending = []) : step s = .next { s with dev := tick s.dev } := by simp [step, hq]

theorem step_idle_powered (hq : s.pending = []) (hp : Powered s) :
    step s = .next { s with dev := tickWork { s.dev with raw := s.dev.raw + 1 } } := by
  rw [step_idle hq, tick_powered hp]

end Idle

/-- Settles O2: an idle step is a tick, which works on a powered device alone. -/
theorem idleStepTicks : Obligations.IdleStepTicks := fun s hq =>
  ⟨step_idle_powered hq, fun hp => by rw [step_idle hq, tick_unpowered hp]⟩

/-! ### Parameter writes (R48 to R52) -/

theorem reckonApply_folds (h : stepAllowed (d.dom m) k w = true) : reckonApply m k w d = reckonEffect m k w d :=
  if_pos h

theorem reckonApply_rejects (h : stepAllowed (d.dom m) k w = false) :
    reckonApply m k w d = reckonReject m (d.setDom m { d.dom m with pend := none }) :=
  if_neg (Bool.eq_false_iff.1 h)

theorem reckonSubmit_now (hk : foldTick (d.dom m) d.raw = d.raw) : reckonSubmit m w d = reckonApply m d.raw w d := by
  simp [reckonSubmit, hk]

theorem reckonSubmit_folds (hk : foldTick (d.dom m) d.raw = d.raw) (ha : stepAllowed (d.dom m) d.raw w = true) :
    reckonSubmit m w d = reckonEffect m d.raw w d := (reckonSubmit_now hk).trans (reckonApply_folds ha)

theorem reckonSubmit_later (hk : foldTick (d.dom m) d.raw ≠ d.raw) :
    reckonSubmit m w d = d.setDom m { d.dom m with pend := some (w, foldTick (d.dom m) d.raw) } := if_neg hk

section Writes

variable {ok : Bool} {v : Word} (hm : m ≠ .x)
include hm

theorem reckonWrite_pending (hp : (d.dom m).pend ≠ none) : reckonWrite m ok w d = reckonReject m d := by
  simp [reckonWrite, hm, Option.isSome_iff_ne_none.2 hp]

theorem reckonWrite_bad : reckonWrite m false w d = reckonReject m d := by simp [reckonWrite, hm]

theorem reckonWrite_free (hp : (d.dom m).pend = none) : reckonWrite m true w d = reckonSubmit m w d := by
  simp [reckonWrite, hm, hp]

theorem reckonIncrWrite_accepts (hp : (d.dom m).pend = none) (hr : incrInRange (v.toNat % 2 ^ 48) = true) :
    reckonIncrWrite m v d =
      (reckonSubmit m (.incr (v.toNat % 2 ^ 48)) d).ru F.RECKON_D_INCR_INCR (v.toNat % 2 ^ 48) (domIx m) := by
  rw [reckonIncrWrite, hr, reckonWrite_free hm hp]
  exact if_pos ⟨hm, rfl, by rw [hp]; rfl⟩

theorem reckonIncrWrite_pending (hp : (d.dom m).pend ≠ none) : reckonIncrWrite m v d = reckonReject m d := by
  rw [reckonIncrWrite, reckonWrite_pending hm hp]
  exact if_neg fun h => hp (Option.isNone_iff_eq_none.1 h.2.2)

theorem reckonIncrWrite_bad (hr : incrInRange (v.toNat % 2 ^ 48) = false) :
    reckonIncrWrite m v d = reckonReject m d := by
  rw [reckonIncrWrite, hr, reckonWrite_bad hm]
  exact if_neg fun h => Bool.false_ne_true h.2.1

theorem reckonStepWrite_accepts (hp : (d.dom m).pend = none) :
    reckonStepWrite m v d = reckonSubmit m (.step (stepOf v)) d := reckonWrite_free hm hp

theorem reckonSetLoWrite_accepts (hp : (d.dom m).pend = none) (hn : bits v.toNat 47 16 ≤ 999999999) :
    reckonSetLoWrite m v d =
      reckonSubmit m (.set (u16Of (d.dom m).staged (bits v.toNat 47 16) (bits v.toNat 15 0))) d := by
  rw [reckonSetLoWrite, decide_eq_true hn]
  exact reckonWrite_free hm hp

theorem reckonSetLoWrite_bad (hn : 999999999 < bits v.toNat 47 16) : reckonSetLoWrite m v d = reckonReject m d := by
  rw [reckonSetLoWrite, decide_eq_false (Nat.not_le.2 hn)]
  exact reckonWrite_bad hm

theorem reckonSetHiWrite_stages :
    reckonSetHiWrite m v d = d.setDom m { d.dom m with staged := v.toNat % 2 ^ 48 } := if_neg hm

end Writes

/-- The crossing clock takes no parameter write of the host, and no SERVO_ALIVE (R53, R60). -/
theorem hostWrites_x_idle (v : Word) (d : Device) :
    reckonIncrWrite .x v d = d ∧ reckonStepWrite .x v d = d ∧ reckonSetHiWrite .x v d = d ∧
      reckonSetLoWrite .x v d = d ∧ servoAlive .x d = d := ⟨rfl, rfl, rfl, rfl, rfl⟩

theorem deferredFold_none (h : (d.dom m).pend = none) : deferredFold m d = d := by rw [deferredFold, h]

section Deferred

variable (h : (d.dom m).pend = some (w, k))
include h

theorem deferredFold_due (hk : k.toNat ≤ d.raw.toNat) : deferredFold m d = reckonApply m k w d := by
  rw [deferredFold, h]
  exact if_pos hk

theorem deferredFold_early (hk : d.raw.toNat < k.toNat) : deferredFold m d = d := by
  rw [deferredFold, h]
  exact if_neg (Nat.not_le.2 hk)

end Deferred

/-- Settles O26: accepted writes by whether the fold waits, the fold that waited, and the crossing clock. -/
theorem parameterWritesFold : Obligations.ParameterWritesFold := by
  intro s m v k w ns set applied kept rejected
  refine ⟨fun hm hl hp => ⟨fun hk => ?now, fun hk => ?later⟩,
    fun hm hs hp => ⟨fun hk ha => ?folds, fun hk ha => ?rejects, fun hk => ?early⟩,
    fun hs hp => runs_of_onDev rfl hs (deferredFold_none hp), fun hl => ?crossingClock⟩
  case now =>
    refine ⟨fun hr => ?incr, fun ha => ?step, fun ha => ?stepRejected, fun hn => ?set⟩
    case incr =>
      refine runs_of_onHost rfl hl ((reckonIncrWrite_accepts hm hp hr).trans ?_)
      rw [reckonSubmit_folds hk rfl]
      rfl
    case step => exact runs_of_onHost rfl hl ((reckonStepWrite_accepts hm hp).trans (reckonSubmit_folds hk ha))
    case stepRejected =>
      exact runs_of_onHost rfl hl
        ((reckonStepWrite_accepts hm hp).trans ((reckonSubmit_now hk).trans (reckonApply_rejects ha)))
    case set => exact runs_of_onHost rfl hl ((reckonSetLoWrite_accepts hm hp hn).trans (reckonSubmit_folds hk rfl))
  case later =>
    refine ⟨fun hr => ?incr, ?step, fun hn => ?set⟩
    case incr =>
      refine runs_of_onHost rfl hl ((reckonIncrWrite_accepts hm hp hr).trans ?_)
      rw [reckonSubmit_later hk]
    case step => exact runs_of_onHost rfl hl ((reckonStepWrite_accepts hm hp).trans (reckonSubmit_later hk))
    case set => exact runs_of_onHost rfl hl ((reckonSetLoWrite_accepts hm hp hn).trans (reckonSubmit_later hk))
  case folds => exact runs_of_onDev rfl hs ((deferredFold_due hp hk).trans (reckonApply_folds ha))
  case rejects => exact runs_of_onDev rfl hs ((deferredFold_due hp hk).trans (reckonApply_rejects ha))
  case early => exact runs_of_onDev rfl hs (deferredFold_early hp hk)
  case crossingClock =>
    obtain ⟨hi, hs, hh, hlo, ha⟩ := hostWrites_x_idle v s.dev
    exact ⟨runs_of_onHost rfl hl hi, runs_of_onHost rfl hl hs, runs_of_onHost rfl hl hh, runs_of_onHost rfl hl hlo,
      runs_of_onHost rfl hl ha⟩

/-- Settles O28: a pending write first, then the two values that Table 02-4 does not take. -/
theorem rejectedParameterWrites : Obligations.RejectedParameterWrites := by
  intro s m v hl hm rejected
  refine ⟨fun hp => ⟨?incr, ?step, ?set⟩, fun _ hr => ?incrOutOfRange, fun _ hn => ?nanoseconds⟩
  case incr => exact runs_of_onHost rfl hl (reckonIncrWrite_pending hm hp)
  case step | set => exact runs_of_onHost rfl hl (reckonWrite_pending hm hp)
  case incrOutOfRange => exact runs_of_onHost rfl hl (reckonIncrWrite_bad hm hr)
  case nanoseconds => exact runs_of_onHost rfl hl (reckonSetLoWrite_bad hm hn)

/-! ### The time a SET gives (R49) -/

theorem dom_of_kept {d e : Device} (h : e.kept = d.kept) (m : Dom) : e.dom m = d.dom m := by
  have hr : e.reckon = d.reckon := congrArg Kept.reckon h
  cases m <;> simp [Device.dom, hr]

@[simp] theorem dom_settle (d : Device) (m : Dom) : (settle d).dom m = d.dom m := dom_of_kept (settle_kept d) m

/-- The timebase after a parameter change took effect (R47, Table 02-5). -/
def domFolded (x : Domain) (k : Word) (w : ParamWrite) : Domain :=
  { x with cur := foldSet x.cur k w, prev := x.cur, older := x.prev :: x.older, lastFold := some k,
           st := .tracking, holdStart := k, pend := none }

theorem dom_reckonEffect : (reckonEffect m k w d).dom m = domFolded (d.dom m) k w := by
  have hf : (reckonFold m k w d).dom m =
      { d.dom m with cur := foldSet (d.dom m).cur k w, prev := (d.dom m).cur, older := (d.dom m).prev :: (d.dom m).older,
                     lastFold := some k } :=
    (dom_of_kept (radd_kept _ _ _ _ _) m).trans (dom_setDom_same _ m _)
  rw [reckonEffect, dom_setDom_same, hf, domFolded]

/-- A count at which the set in force already held is read under it (R37). -/
theorem timeAt_of_le {r : Stamp} (h : (d.dom m).cur.rawAt.toNat ≤ r.count.toNat) :
    d.timeAt m r = (d.dom m).cur.timeAt r := by
  rw [Device.timeAt, Domain.setFor, if_pos h]

theorem timeAt_of_domFolded {e : Device} {x : Domain} (h : e.dom m = domFolded x k w) :
    e.timeAt m { count := k } = (foldSet x.cur k w).timeAt { count := k } := by
  have hc : (e.dom m).cur = foldSet x.cur k w := by rw [h, domFolded]
  have hk : (foldSet x.cur k w).rawAt = k := by cases w <;> rfl
  have hle : (e.dom m).cur.rawAt.toNat ≤ k.toNat :=
    Nat.le_of_eq (congrArg BitVec.toNat ((congrArg ParamSet.rawAt hc).trans hk))
  rw [timeAt_of_le hle, hc]

/-- Settles O27: SET_HI by its one case; a SET at once by the timebase that its fold leaves. -/
theorem setHiStagesSeconds : Obligations.SetHiStagesSeconds := by
  intro s m v hl hm
  refine ⟨runs_of_onHost rfl hl (reckonSetHiWrite_stages hm), fun hp hn hk => ?set⟩
  case set =>
    have hd : (settle (reckonSetLoWrite m v s.dev)).dom m = domFolded (s.dev.dom m) s.dev.raw
        (.set (u16Of (s.dev.dom m).staged (bits v.toNat 47 16) (bits v.toNat 15 0))) := by
      rw [dom_settle, reckonSetLoWrite_accepts hm hp hn, reckonSubmit_folds hk rfl, dom_reckonEffect]
    refine ⟨_, onHost_run (reckonSetLoWrite m v) s hl, ?staged, ?time⟩
    case staged => exact (congrArg Domain.staged hd :)
    case time => exact (timeAt_of_domFolded hd).trans (timeAt_foldSet_set _ _ _)

/-! ### Servo, holdover and the primary domain (R53 to R58) -/

theorem servoAlive_tracks (hm : m ≠ .x) (hu : (d.dom m).st ≠ .unset) :
    servoAlive m d = d.setDom m { d.dom m with st := .tracking, holdStart := d.raw } :=
  if_neg (not_or.2 ⟨hm, hu⟩)

theorem servoAlive_unset (hu : (d.dom m).st = .unset) : servoAlive m d = d := if_pos (.inr hu)

/-- A domain gone to holdover, with its event. -/
def heldOver (m : Dom) (d : Device) : Device := evRaise (32 + domIx m) (d.setDom m { d.dom m with st := .holdover })

theorem holdoverTimeout_due (h : holdoverDue m d = true) :
    holdoverTimeout m d =
      if (heldOver m d).rb F.RECKON_PRIMARY_AUTO && (heldOver m d).rg F.RECKON_PRIMARY_PRIMARY == domIx m
          && ((heldOver m d).dom (otherDom m)).st == .tracking then
        setPrimary (otherDom m) ((heldOver m d).ru F.RECKON_PRIMARY_ARM 0)
      else heldOver m d := if_pos h

theorem holdoverTimeout_early (h : holdoverDue m d = false) : holdoverTimeout m d = d := if_neg (Bool.eq_false_iff.1 h)

/-- The armed switch has reached its count (R57). -/
def SwitchReached (d : Device) : Prop :=
  d.rb F.RECKON_PRIMARY_ARM = true ∧ d.rg F.RECKON_SWITCH_AT_VALUE ≤ d.raw.toNat

theorem primarySwitch_goes (hr : SwitchReached d) (ha : autoSwitchDue d = false) :
    primarySwitch d =
      setPrimary (if d.rb F.RECKON_PRIMARY_TARGET then .b else .a) (d.ru F.RECKON_PRIMARY_ARM 0) :=
  if_pos (by simp [hr.1, hr.2, ha])

theorem primarySwitch_yields (ha : autoSwitchDue d = true) : primarySwitch d = d := if_neg (by simp [ha])

theorem primarySwitch_waits (h : ¬ SwitchReached d) : primarySwitch d = d :=
  if_neg fun hc => h (by simpa [SwitchReached] using (Bool.and_eq_true_iff.1 hc).1)

/-- Settles O29: servo, holdover, the writes of RECKON_PRIMARY and the armed switch, each due and not due. -/
theorem holdoverAndPrimary : Obligations.HoldoverAndPrimary := by
  intro s m a b
  refine ⟨fun hl hm hu => ?tracks, fun hl hu => ?unset, fun hp hd => ?holdover, fun hp hd => ?holdoverEarly,
    fun hl => ?arm, fun hl => ?disarm, fun hp harm hat => ⟨fun ha => ?switch, fun ha => ?yields⟩, fun hp h => ?waits⟩
  case tracks => exact runs_of_onHost rfl hl (servoAlive_tracks hm hu)
  case unset => exact runs_of_onHost rfl hl (servoAlive_unset hu)
  case holdover => exact runs_of_onDev rfl hp (holdoverTimeout_due hd)
  case holdoverEarly => exact runs_of_onDev rfl hp (holdoverTimeout_early hd)
  case arm | disarm => exact runs_of_onHost rfl hl rfl
  case switch => exact runs_of_onDev rfl hp (primarySwitch_goes ⟨harm, hat⟩ ha)
  case yields => exact runs_of_onDev rfl hp (primarySwitch_yields ha)
  case waits =>
    refine runs_of_onDev rfl hp (primarySwitch_waits fun hr => ?_)
    rcases h with h | h
    · exact Bool.false_ne_true (h.symm.trans hr.1)
    · exact Nat.not_le.2 h hr.2

/-! ### Snapshots, PPS_IN and REFCLK_TIME (R44, R63, R64) -/

/-- Settles O30: the snapshot as the model takes it. -/
theorem snapshotCapturesAll : Obligations.SnapshotCapturesAll := fun _ hl => runs_of_onHost rfl hl rfl

/-- Settles O31: the edge as the model takes it. -/
theorem ppsEdgeStamped : Obligations.PpsEdgeStamped := fun _ hp => runs_of_onDev rfl hp rfl

/-- A command that changes no more than `Device.kept` leaves open does not move the raw count. -/
theorem raw_of_onDev {c : Instr} {s t : State} {f : Device → Device} (hc : exec c s = onDev f s)
    (hf : (f s.dev).kept = s.dev.kept) (ht : exec c s = .next t) : t.dev.raw = s.dev.raw := by
  rcases onDev_cases f s t (hc.symm.trans ht) with rfl | rfl
  · rfl
  · exact congrArg Kept.raw ((settle_kept _).trans hf)

theorem refclkTimeLost_kept (d : Device) : (refclkTimeLost d).kept = d.kept := by simp [refclkTimeLost]

/-- Settles O32: loss and return of the reference write registers and raise an event; the count is the idle tick's. -/
theorem referenceLoss : Obligations.ReferenceLoss := by
  intro s hp
  have hc : exec .refclkTimeReturn s = onDev (fun d => d.ru F.RECKON_STATUS_REF_LOST 0) s := rfl
  refine ⟨?lost, fun t ht => ?lostRaw, ?returned, fun t ht => ?returnedRaw, fun hq => step_idle_powered hq hp⟩
  case lost => exact runs_of_onDev rfl hp rfl
  case lostRaw => exact raw_of_onDev rfl (refclkTimeLost_kept s.dev) ht
  case returned => exact runs_of_onDev hc hp rfl
  case returnedRaw => exact raw_of_onDev hc (ru_kept s.dev _ _ _ _) ht

/-! ### PTM (R65 to R67) -/

theorem ptmStart_sends (he : d.pcie.pf0.ptmEnable = true) (hu : d.pcie.linkUp = true) :
    ptmStart d = { d with reckon.ptmDialogs := d.reckon.ptmDialogs ++ [d.raw] }.emit .ptmRequest := by
  simp [ptmStart, he, hu]

theorem ptmStart_idle (h : d.pcie.pf0.ptmEnable = false ∨ d.pcie.linkUp = false) : ptmStart d = d := by
  rcases h with h | h <;> simp [ptmStart, h]

/-- The automatic interval has run out (R65). -/
def PtmAutoDue (d : Device) : Prop :=
  d.rb F.RECKON_PTM_CTRL_AUTO = true ∧
    d.passedNs d.reckon.ptmAutoFrom (d.rg F.RECKON_PTM_CTRL_INTERVAL_MS * 1000000) = true

theorem ptmAutoInterval_due (h : PtmAutoDue d) :
    ptmAutoInterval d = ptmStart { d with reckon.ptmAutoFrom := d.raw } := if_pos (Bool.and_eq_true_iff.2 h)

theorem ptmAutoInterval_early (h : ¬ PtmAutoDue d) : ptmAutoInterval d = d :=
  if_neg fun hc => h (Bool.and_eq_true_iff.1 hc)

theorem ptmTimeout_none (h : d.reckon.ptmDialogs = []) : ptmTimeout d = d := by rw [ptmTimeout, h]

section Dialogs

variable {master : Word} {resp : Stamp} {turn : Nat}

theorem ptmDialogDone_none (h : d.reckon.ptmDialogs = []) : ptmDialogDone master resp turn d = d := by
  rw [ptmDialogDone, h]

variable {t : Word} {rest : List Word} (h : d.reckon.ptmDialogs = t :: rest)
include h

/-- A response in time writes its result in one update (R66). -/
theorem ptmDialogDone_inTime (hp : d.passedNs t 100000 = false) :
    ptmDialogDone master resp turn d =
      evRaise 36 (((((({ d with reckon.ptmDialogs := rest }).ru F.RECKON_PTM_MASTER_VALUE master.toNat).ru
        F.RECKON_PTM_RAW_VALUE (ptmStamp t resp turn).count.toNat).ru
        F.RECKON_PTM_STATUS_RAW_FRACTION (ptmStamp t resp turn).frac.toNat).ru
        F.RECKON_PTM_STATUS_VALID 1).radd F.RECKON_PTM_STATUS_SEQ 1) := by
  rw [ptmDialogDone, h]
  exact if_neg (Bool.eq_false_iff.1 hp)

theorem ptmDialogDone_late (hp : d.passedNs t 100000 = true) : ptmDialogDone master resp turn d = d := by
  rw [ptmDialogDone, h]
  exact if_pos hp

theorem ptmTimeout_due (hp : d.passedNs t 100000 = true) :
    ptmTimeout d = evRaise 37 (({ d with reckon.ptmDialogs := rest }).ru F.RECKON_PTM_STATUS_FAIL 1) := by
  rw [ptmTimeout, h]
  exact if_pos hp

theorem ptmTimeout_early (hp : d.passedNs t 100000 = false) : ptmTimeout d = d := by
  rw [ptmTimeout, h]
  exact if_neg (Bool.eq_false_iff.1 hp)

end Dialogs

/-- Settles O33: the two ways a dialog starts, then its end in time, late, and with no dialog in progress. -/
theorem ptmDialogs : Obligations.PtmDialogs := by
  intro s master resp turn t rest due
  refine ⟨fun hl he => ?trigger, fun hl he => ?triggerOff, fun hl hd he => ?auto, fun hp hd hn => ?autoOff,
    fun hp hd => ?autoEarly, fun hp hq ht => ⟨?done, ?notYet⟩, fun hp hq ht => ⟨?fails, ?late⟩,
    fun hp hq => ⟨?noTimeout, ?noDone⟩⟩
  case trigger => exact runs_of_onHost rfl hl (ptmStart_sends he hl.2)
  case triggerOff => exact runs_of_onHost rfl hl (ptmStart_idle (.inl he))
  case auto => exact runs_of_onDev rfl hl.1 ((ptmAutoInterval_due hd).trans (ptmStart_sends he hl.2))
  case autoOff => exact runs_of_onDev rfl hp ((ptmAutoInterval_due hd).trans (ptmStart_idle hn))
  case autoEarly => exact runs_of_onDev rfl hp (ptmAutoInterval_early hd)
  case done => exact runs_of_onDev rfl hp (ptmDialogDone_inTime hq ht)
  case notYet => exact runs_of_onDev rfl hp (ptmTimeout_early hq ht)
  case fails => exact runs_of_onDev rfl hp (ptmTimeout_due hq ht)
  case late => exact runs_of_onDev rfl hp (ptmDialogDone_late hq ht)
  case noTimeout => exact runs_of_onDev rfl hp (ptmTimeout_none hq)
  case noDone => exact runs_of_onDev rfl hp (ptmDialogDone_none hq)

end Sys2Proof.Proofs

/-!
PROOFS. Pilot's fencing commands (R189, R190) and the commands of muster (R77, R195, R220, R224): one equation per case
of each function of the model, and the statement assembled from them.
-/

namespace Sys2Proof.Proofs

open Sys2Proof.Machine Sys2Proof.Safety

variable {d : Device} {p b : Nat}

/-! ### Fences (R189, R190) -/

/-- Port `p` meets the fencing condition for the next boundary (R189). -/
def FenceMet (p : Nat) (d : Device) : Prop :=
  d.rb F.PILOT_ARM_CFG_FENCE_EN p = true ∧ (d.arm p).st = .serving ∧ 0 < violRecent p d ∧
    d.rg F.PILOT_FENCE_CFG_VIOLATION_LIMIT ≤ violRecent p d

theorem violationLimit_met (h : FenceMet p d) : violationLimit p d = d.setArm p { d.arm p with cond := true } := by
  obtain ⟨hen, hst, hsome, hlim⟩ := h
  exact if_pos (by simp [hen, hst, hsome, hlim])

theorem violationLimit_notMet (h : ¬ FenceMet p d) : violationLimit p d = d :=
  if_neg fun hc => h (by simpa [FenceMet, and_assoc] using hc)

theorem fenceRemainExpire_remains (h : d.rg F.PILOT_ARM_STATE_REMAIN p ≠ 0) : fenceRemainExpire p d = d := if_pos h

section Remain

variable (h : d.rg F.PILOT_ARM_STATE_REMAIN p = 0)
include h

theorem fenceRemainExpire_fenced (hst : (d.arm p).st = .fenced) : fenceRemainExpire p d = probationEnter p d := by
  simp [fenceRemainExpire, h, hst]

theorem fenceRemainExpire_probation (hst : (d.arm p).st = .probation) :
    fenceRemainExpire p d = pilotStatus p 2
      ((d.setArm p { d.arm p with st := .serving, viols := [] }).ru F.PILOT_ARM_STATE_REFENCES 0 p) := by
  simp [fenceRemainExpire, h, hst]

theorem fenceRemainExpire_stays (hst : (d.arm p).st = .serving ∨ (d.arm p).st = .locked) :
    fenceRemainExpire p d = d := by
  rcases hst with hst | hst <;> simp [fenceRemainExpire, h, hst]

end Remain

theorem unfence_out (h : (d.arm p).st = .fenced ∨ (d.arm p).st = .locked) :
    unfence p d = d.setArm p { d.arm p with unfence := true } :=
  if_pos (by rcases h with h | h <;> rw [h] <;> rfl)

theorem unfence_in (h : (d.arm p).st = .serving ∨ (d.arm p).st = .probation) : unfence p d = d :=
  if_neg (by rcases h with h | h <;> rw [h] <;> decide)

/-! ### Returned muster frames (R77, R220) -/

/-- The port that launches the channel whose copy the frame `h`, admitted by window `w`, is. -/
def returnedFor (h : Handed) (w : Window) (d : Device) : Nat :=
  musterPort w.branch (gvParse (h.bytes.drop h.off)).chan d

/-- The frame `h` is the one that its channel sent last, as `g` says, and muster is in progress. -/
def ReturnsLast (h : Handed) (g : MusterSent) (d : Device) : Prop :=
  d.st = .muster ∧ g.crossing = (gvParse (h.bytes.drop h.off)).crossing

/-- The frame `h` has gone all the way: it has turned back in a line measurement (R195). -/
def ReturnsWhole (h : Handed) (w : Window) (d : Device) : Prop :=
  d.mstage w.branch = 0 ∨ (gvParse (h.bytes.drop h.off)).ret = true

/-- Window `w` closed. -/
def windowGone (w : Window) (d : Device) : Device :=
  { d with pilot.windows := d.pilot.windows.filter fun (v : Window) => v.id != w.id }

/-- No frame in flight waits for window `w`. -/
def windowStale (w : Window) (d : Device) : Bool :=
  match (d.mch w.idx).sent with
  | some v => v.window != w.id
  | none => true

/-- The frame `h` is taken in: its window goes unless another channel's frame still waits for it, and DISCOVER's entries
or an ECHO's round trip are recorded. -/
def musterTaken (p : Nat) (h : Handed) (w : Window) (g : MusterSent) (d : Device) : Device :=
  let q := returnedFor h w d
  let x := if q = w.idx ∨ windowStale w d = true then windowGone w d else d
  if g.op = 1 then musterSend q (musterDiscover p q g (h.bytes.drop h.off) x) else musterEcho w.branch q g h.stamp x

theorem musterReturn_none (ht : takeHanded p (handedKind .muster) d = none) : musterReturn p d = d := by
  rw [musterReturn, ht]

section Returned

variable {h : Handed} {w : Window} {g : MusterSent} {rest : Device}
  (ht : takeHanded p (handedKind .muster) d = some (h, rest)) (hw : h.win = some w)
include ht hw

theorem musterReturn_unsent (hs : (rest.mch (returnedFor h w rest)).sent = none) : musterReturn p d = rest := by
  rw [returnedFor] at hs
  simp only [musterReturn, ht, hw, hs]

variable (hs : (rest.mch (returnedFor h w rest)).sent = some g)
include hs

/-- The order in which a returned frame is looked at. -/
theorem musterReturn_sent :
    musterReturn p d =
      if rest.st ≠ .muster ∨ g.crossing ≠ (gvParse (h.bytes.drop h.off)).crossing then rest
      else if g.entryMax < beField (h.bytes.drop h.off) 18 2 then rest.count (gvCnt p 0x30)
      else if rest.mstage w.branch ≠ 0 ∧ (gvParse (h.bytes.drop h.off)).ret = false then rest
      else musterTaken p h w g rest := by
  rw [returnedFor] at hs
  simp only [musterReturn, ht, hw, hs]
  rfl

theorem musterReturn_other (hm : ¬ ReturnsLast h g rest) : musterReturn p d = rest := by
  rw [musterReturn_sent ht hw hs]
  exact if_pos (Classical.not_and_iff_not_or_not.1 hm)

variable (hm : ReturnsLast h g rest)
include hm

theorem musterReturn_last :
    musterReturn p d =
      if g.entryMax < beField (h.bytes.drop h.off) 18 2 then rest.count (gvCnt p 0x30)
      else if rest.mstage w.branch ≠ 0 ∧ (gvParse (h.bytes.drop h.off)).ret = false then rest
      else musterTaken p h w g rest := by
  rw [musterReturn_sent ht hw hs]
  exact if_neg (not_or.2 ⟨Classical.not_not.2 hm.1, Classical.not_not.2 hm.2⟩)

theorem musterReturn_tooMany (he : g.entryMax < beField (h.bytes.drop h.off) 18 2) :
    musterReturn p d = rest.count (gvCnt p 0x30) := by
  rw [musterReturn_last ht hw hs hm, if_pos he]

variable (he : beField (h.bytes.drop h.off) 18 2 ≤ g.entryMax)
include he

theorem musterReturn_outbound (hr : ¬ ReturnsWhole h w rest) : musterReturn p d = rest := by
  obtain ⟨hstage, hret⟩ := not_or.1 hr
  rw [musterReturn_last ht hw hs hm, if_neg (Nat.not_lt.2 he), if_pos ⟨hstage, Bool.eq_false_iff.2 hret⟩]

theorem musterReturn_taken (hr : ReturnsWhole h w rest) : musterReturn p d = musterTaken p h w g rest := by
  rw [musterReturn_last ht hw hs hm, if_neg (Nat.not_lt.2 he)]
  exact if_neg fun ⟨hstage, hret⟩ => hr.elim hstage (Bool.eq_false_iff.1 hret)

end Returned

/-! ### Muster windows that close (R220) -/

/-- The first muster window of port `p` that has closed. -/
def musterClosed (p : Nat) (d : Device) : Option Window :=
  d.pilot.windows.find? fun w => w.port == p && w.kind == .muster && decide (w.close ≤ d.xNow)

/-- A muster frame has come in at port `p` and is not yet taken. -/
def musterWaits (p : Nat) (d : Device) : Bool := d.pilot.handed.any fun h => h.port == p && handedKind .muster h

theorem musterWindowExpire_idle (h : musterClosed p d = none ∨ musterWaits p d = true) :
    musterWindowExpire p d = d := by
  unfold musterClosed musterWaits at h
  unfold musterWindowExpire
  split
  · rfl
  · next hc => exact if_pos (h.resolve_left (by simp [hc]))

section Closed

variable {w : Window} {g : MusterSent} (hc : musterClosed p d = some w) (hn : musterWaits p d = false)
include hc hn

theorem musterWindowExpire_resends (hs : (d.mch w.idx).sent = some g) (hg : g.window = w.id) :
    musterWindowExpire p d =
      musterSend w.idx ((windowGone w d).setMch w.idx { (windowGone w d).mch w.idx with sent := none }) := by
  have hs' : ((windowGone w d).mch w.idx).sent = some g := hs
  rw [musterClosed] at hc
  rw [musterWaits] at hn
  rw [windowGone] at hs' ⊢
  simp [musterWindowExpire, hc, hn, hs', hg]

theorem musterWindowExpire_drops
    (hs : (d.mch w.idx).sent = none ∨ ∀ g, (d.mch w.idx).sent = some g → g.window ≠ w.id) :
    musterWindowExpire p d = windowGone w d := by
  rw [musterClosed] at hc
  rw [musterWaits] at hn
  simp only [musterWindowExpire, hc, hn, Bool.false_eq_true, if_false]
  split
  · next g hg =>
    exact if_neg (hs.elim (fun hnone => by cases hnone.symm.trans hg) fun hne => hne g hg)
  · rfl

end Closed

/-! ### The timeout and ACCEPT (R220, R224) -/

/-- Branch `b` is HELD for reasons that ACCEPT may take (R224). -/
def Acceptable (b : Nat) (d : Device) : Prop :=
  liveState d.st = true ∧ d.rg F.FIX_MUSTER_BR_RESULT b = 3 ∧ d.rg F.FIX_MUSTER_BR_REASON b < 2 ^ 7

theorem musterAccept_held (h : Acceptable b d) :
    musterAccept b d = { d with muster.accept := tabSet false d.muster.accept b true } := by
  obtain ⟨hlive, hres, hreason⟩ := h
  exact if_pos (by rw [hlive, hres, decide_eq_true hreason]; rfl)

theorem musterAccept_notHeld (h : ¬ Acceptable b d) : musterAccept b d = d :=
  if_neg fun hc => h (by simpa [Acceptable, and_assoc] using hc)

/-! ### The statement -/

/-- Settles O57: the fencing commands by the state of the arm, a returned frame in the order in which it is looked at,
the windows, the timeout and ACCEPT. -/
theorem pilotAndMuster : Obligations.PilotAndMuster := by
  intro s p b h w g rest d met held closed waits timeUp
  refine ⟨fun hp hm => ?met, fun hp hm => ?notMet, fun hp hr => ?remains,
    fun hp hr => ⟨fun hst => ?fenced, fun hst => ?probation, fun hst => ?stays⟩, fun hl => ?force,
    fun hl hst => ?unfence, fun hl hst => ?unfenceIdle, fun hp ht => ?noFrame, fun hp ht hw => ?returned,
    fun hp hc => ?stillOpen, fun hp hc hn => ⟨fun hs hg => ?resends, fun hs => ?drops⟩, fun hp ht => ?timeout,
    fun hp ht => ?early, fun hl hh => ?accept, fun hl hh => ?acceptNot⟩
  case met => exact runs_of_onDev rfl hp (violationLimit_met hm)
  case notMet => exact runs_of_onDev rfl hp (violationLimit_notMet hm)
  case remains => exact runs_of_onDev rfl hp (fenceRemainExpire_remains hr)
  case fenced => exact runs_of_onDev rfl hp (fenceRemainExpire_fenced hr hst)
  case probation => exact runs_of_onDev rfl hp (fenceRemainExpire_probation hr hst)
  case stays => exact runs_of_onDev rfl hp (fenceRemainExpire_stays hr hst)
  case force => exact runs_of_onHost rfl hl rfl
  case unfence => exact runs_of_onHost rfl hl (unfence_out hst)
  case unfenceIdle => exact runs_of_onHost rfl hl (unfence_in hst)
  case noFrame => exact runs_of_onDev rfl hp (musterReturn_none ht)
  case returned =>
    intro pdu q
    refine ⟨fun hs => ?unsent, fun hs => ?sent⟩
    case unsent => exact runs_of_onDev rfl hp (musterReturn_unsent ht hw hs)
    case sent =>
      intro mine stale whole
      exact ⟨fun hm => runs_of_onDev rfl hp (musterReturn_other ht hw hs hm),
        fun hm he => runs_of_onDev rfl hp (musterReturn_tooMany ht hw hs hm he),
        fun hm he hr => runs_of_onDev rfl hp (musterReturn_outbound ht hw hs hm he hr),
        fun hm he hr => runs_of_onDev rfl hp (musterReturn_taken ht hw hs hm he hr)⟩
  case stillOpen => exact runs_of_onDev rfl hp (musterWindowExpire_idle hc)
  case resends => exact runs_of_onDev rfl hp (musterWindowExpire_resends hc hn hs hg)
  case drops => exact runs_of_onDev rfl hp (musterWindowExpire_drops hc hn hs)
  case timeout => exact runs_of_onDev rfl hp (if_pos ht)
  case early => exact runs_of_onDev rfl hp (if_neg ht)
  case accept => exact runs_of_onHost rfl hl (musterAccept_held hh)
  case acceptNot => exact runs_of_onHost rfl hl (musterAccept_notHeld hh)

end Sys2Proof.Proofs

/-!
PROOFS. Fix (chapter 07): the frames it sends (R201, R214) and takes in (R204, R215, R217), its timers (R212, R215) and
its counts (R209, R210, R218): one equation per case of each function of the model, and the statement assembled from
them.
-/

namespace Sys2Proof.Proofs

open Sys2Proof.Machine Sys2Proof.Safety

variable {d : Device} {p skew : Nat}

/-! ### Sent frames (R201, R214) -/

section Sent

variable {n status : Nat}

/-- When the FIX frame of crossing `n` is planned (R201). -/
def fixPlanned (n : Nat) (d : Device) : Int := boundaryT n d + nsT (d.rg F.FIX_CFG_TX_OFFSET)

/-- The FIX frame of crossing `n` is due at port `p`. -/
def FixFrameDue (p n : Nat) (d : Device) : Prop :=
  fixSends p d = true ∧ d.fix.from_ ≤ n ∧ tabGet none d.fix.sent p ≠ some n ∧ fixPlanned n d ≤ d.xNow

/-- The FIX frame of crossing `n` with STATUS `status` is sent from port `p`. -/
def fixFrameSent (p skew n status : Nat) (d : Device) : Device :=
  let planned := fixPlanned n d
  let r := launchAt skew (launchUnits .x planned d)
  let pdu := fixPdu (d.rg F.GLOBAL_ID_DEVICE_ID) n (d.rg F.FIX_CFG_RANK) status (d.rg F.CROSS_PERIOD_PERIOD_NS) planned
    (d.timeAt .x r)
  ownSend p (uplinkFrame p pdu d) r none
    ({ d with fix.sent := tabSet none d.fix.sent p (some n) }.countIf (d.portRun p) (stampCnt p 0))

theorem fixFrameSend_notRunning (h : d.cross.current = none ∨ fixStatus d.fix.st = none) :
    fixFrameSend p skew d = d := by
  unfold fixFrameSend
  split
  · next hc hs => exact absurd h (by simp [hc, hs])
  · rfl

section Running

variable (hc : d.cross.current = some n) (hs : fixStatus d.fix.st = some status)
include hc hs

theorem fixFrameSend_due (h : FixFrameDue p n d) : fixFrameSend p skew d = fixFrameSent p skew n status d := by
  obtain ⟨hsends, hfrom, hnew, htime⟩ := h
  rw [fixPlanned] at htime
  rw [fixFrameSend, hc, hs]
  exact if_neg (by simp [hsends, hfrom, hnew, htime])

theorem fixFrameSend_notDue (h : ¬ FixFrameDue p n d) : fixFrameSend p skew d = d := by
  rw [fixFrameSend, hc, hs]
  refine if_pos (Decidable.by_contra fun hn => h ?_)
  simpa [FixFrameDue, fixPlanned, and_assoc] using hn

end Running

/-- A COLDSTART is due at port `p`. -/
def ColdstartDue (p : Nat) (d : Device) : Prop :=
  fixSends p d = true ∧ d.fix.csDue.contains p = true ∧ nsT (d.rg F.FIX_CFG_TX_OFFSET) ≤ d.xNow

/-- The COLDSTART of crossing 0 is sent from port `p`. -/
def coldstartSent (p skew : Nat) (d : Device) : Device :=
  let r := launchAt skew (launchUnits .x (nsT (d.rg F.FIX_CFG_TX_OFFSET)) d)
  let pdu := coldstartPdu (d.rg F.GLOBAL_ID_DEVICE_ID) 0 (d.rg F.FIX_CFG_RANK) (d.rg F.FIX_STATUS_ATTEMPT)
    (d.rg F.CROSS_PERIOD_PERIOD_NS) (d.timeAt .x r)
  let e := { d with fix.csDue := d.fix.csDue.filter fun q => q != p }
  ownSend p (uplinkFrame p pdu e) r none ((e.countIf (e.portRun p) (fixCnt 0x30)).countIf (e.portRun p) (stampCnt p 0))

theorem coldstartSend_due (h : ColdstartDue p d) : coldstartSend p skew d = coldstartSent p skew d := by
  obtain ⟨hsends, hdue, htime⟩ := h
  exact if_neg (by rw [hsends, hdue, decide_eq_false (Int.not_lt.2 htime)]; decide)

theorem coldstartSend_notDue (h : ¬ ColdstartDue p d) : coldstartSend p skew d = d := by
  refine if_pos (Decidable.by_contra fun hn => h ?_)
  simpa [ColdstartDue, and_assoc] using hn

end Sent

/-! ### Frames taken in (R92, R204, R213 to R217) -/

section Received

variable {h best : Handed} {t : Int} {rest : Device}

/-- Fix integrates on the frame `best`, whose stamp it takes to be `t` (R217). -/
def fixAdopted (best : Handed) (t : Int) (d : Device) : Device :=
  fixAdopt best.stamp t { d with pilot.handed := d.pilot.handed.erase best }

theorem fixIntegrateOn_governed (hg : fixGoverns (fixCollisions d) = some (best, t)) :
    fixIntegrateOn d = fixAdopted best t (fixCollisions d) := by
  rw [fixIntegrateOn, hg]
  rfl

theorem fixRx_none (ht : takeHanded p (handedGv 3) d = none) : fixRx p d = d := by rw [fixRx, ht]

section FixFrame

variable (ht : takeHanded p (handedGv 3) d = some (h, rest))
include ht

/-- The order in which a FIX frame is looked at. -/
theorem fixRx_some :
    fixRx p d =
      let pdu := h.bytes.drop h.off
      if fixRejects pdu d then rest.count (gvCnt p 0x88)
      else if fixMeasures d.fix.st then
        fixJudge p (gvParse pdu).dev (beField pdu 13 1) (time96Of pdu 18) (time96Of pdu 30) h.stamp rest
      else if (fixOffer h d).isSome then fixIntegrateOn d
      else rest.count (fixCnt 0x50) := by
  rw [fixRx, ht]

theorem fixRx_rejected (hr : fixRejects (h.bytes.drop h.off) d = true) : fixRx p d = rest.count (gvCnt p 0x88) := by
  rw [fixRx_some ht]
  exact if_pos hr

variable (hr : fixRejects (h.bytes.drop h.off) d = false)
include hr

theorem fixRx_judged (hm : fixMeasures d.fix.st = true) :
    fixRx p d = fixJudge p (gvParse (h.bytes.drop h.off)).dev (beField (h.bytes.drop h.off) 13 1)
      (time96Of (h.bytes.drop h.off) 18) (time96Of (h.bytes.drop h.off) 30) h.stamp rest := by
  rw [fixRx_some ht]
  simp [hr, hm]

variable (hm : fixMeasures d.fix.st = false)
include hm

theorem fixRx_adopts (ho : fixOffer h d ≠ none) (hg : fixGoverns (fixCollisions d) = some (best, t)) :
    fixRx p d = fixAdopted best t (fixCollisions d) := by
  rw [fixRx_some ht, ← fixIntegrateOn_governed hg]
  simp [hr, hm, Option.isSome_iff_ne_none.2 ho]

theorem fixRx_counted (ho : fixOffer h d = none) : fixRx p d = rest.count (fixCnt 0x50) := by
  rw [fixRx_some ht]
  simp [hr, hm, ho]

end FixFrame

theorem coldstartRx_none (ht : takeHanded p (handedGv 4) d = none) : coldstartRx p d = d := by rw [coldstartRx, ht]

section ColdstartFrame

variable (ht : takeHanded p (handedGv 4) d = some (h, rest))
include ht

/-- The order in which a COLDSTART is looked at. -/
theorem coldstartRx_some :
    coldstartRx p d =
      let pdu := h.bytes.drop h.off
      if fixRejects pdu d then rest.count (gvCnt p 0x88)
      else if (peerRank pdu d).isNone then rest.count (fixCnt 0x40)
      else if fixCollides h d then fixCollide rest
      else if (fixOffer h d).isSome then fixIntegrateOn d
      else rest.countIf (fixMeets d.fix.st) (fixCnt 0x40) := by
  rw [coldstartRx, ht]

theorem coldstartRx_rejected (hr : fixRejects (h.bytes.drop h.off) d = true) :
    coldstartRx p d = rest.count (gvCnt p 0x88) := by
  rw [coldstartRx_some ht]
  exact if_pos hr

variable (hr : fixRejects (h.bytes.drop h.off) d = false)
include hr

theorem coldstartRx_stranger (hk : peerRank (h.bytes.drop h.off) d = none) :
    coldstartRx p d = rest.count (fixCnt 0x40) := by
  rw [coldstartRx_some ht]
  simp [hr, hk]

variable (hk : peerRank (h.bytes.drop h.off) d ≠ none)
include hk

/-- A COLDSTART of a listed peer. -/
theorem coldstartRx_peer :
    coldstartRx p d =
      if fixCollides h d then fixCollide rest
      else if (fixOffer h d).isSome then fixIntegrateOn d
      else rest.countIf (fixMeets d.fix.st) (fixCnt 0x40) := by
  rw [coldstartRx_some ht]
  simp [hr, hk]

theorem coldstartRx_collides (hc : fixCollides h d = true) : coldstartRx p d = fixCollide rest := by
  rw [coldstartRx_peer ht hr hk, if_pos hc]

variable (hc : fixCollides h d = false)
include hc

theorem coldstartRx_adopts (ho : fixOffer h d ≠ none) (hg : fixGoverns (fixCollisions d) = some (best, t)) :
    coldstartRx p d = fixAdopted best t (fixCollisions d) := by
  rw [coldstartRx_peer ht hr hk, ← fixIntegrateOn_governed hg]
  simp [hc, Option.isSome_iff_ne_none.2 ho]

variable (ho : fixOffer h d = none)
include ho

theorem coldstartRx_unnamed : coldstartRx p d = rest.countIf (fixMeets d.fix.st) (fixCnt 0x40) := by
  rw [coldstartRx_peer ht hr hk]
  simp [hc, ho]

theorem coldstartRx_ignored (hst : d.fix.st = .idle ∨ d.fix.st = .integrating) : coldstartRx p d = rest := by
  rw [coldstartRx_unnamed ht hr hk hc ho]
  rcases hst with hst | hst <;> rw [hst] <;> rfl

theorem coldstartRx_counted (hi : d.fix.st ≠ .idle) (hn : d.fix.st ≠ .integrating) :
    coldstartRx p d = rest.count (fixCnt 0x40) := by
  have hmeets : fixMeets d.fix.st = true := by
    cases hst : d.fix.st with
    | idle => exact absurd hst hi
    | integrating => exact absurd hst hn
    | listen | coldstarting | backoff | synchronised | lostFix => rfl
  rw [coldstartRx_unnamed ht hr hk hc ho, hmeets]
  rfl

end ColdstartFrame

end Received

/-! ### Timers (R212, R215, R219) -/

/-- The timer that Fix started last has run for `ns` nanoseconds. -/
def FixTimerRan (ns : Nat) (d : Device) : Prop := d.passedNs d.fix.timerFrom ns = true

/-- A timer of state `st` does nothing while a frame waits that goes first, in another state, or before its time. -/
theorem fixTimer_idle {st : FixSt} {ns : Nat} {e : Device}
    (h : fixWaits d = true ∨ d.fix.st ≠ st ∨ ¬ FixTimerRan ns d) :
    (if fixWaits d = true then d else if d.fix.st = st ∧ d.passedNs d.fix.timerFrom ns = true then e else d) = d := by
  split
  · rfl
  · next hw => exact if_neg fun hran => (h.resolve_left hw).elim (· hran.1) (· hran.2)

/-- A timer of state `st` that has run, with no frame that goes first. -/
theorem fixTimer_runs {st : FixSt} {ns : Nat} {e : Device} (hw : ¬ fixWaits d = true) (hst : d.fix.st = st)
    (ht : FixTimerRan ns d) :
    (if fixWaits d = true then d else if d.fix.st = st ∧ d.passedNs d.fix.timerFrom ns = true then e else d) = e :=
  (if_neg hw).trans (if_pos ⟨hst, ht⟩)

/-- What the listen timer waits for, in nanoseconds (R212). -/
def listenNs (d : Device) : Nat := d.rg F.FIX_COLDSTART_LISTEN_TIMEOUT * 1000

/-- What the backoff timer waits for, in nanoseconds (R215). -/
def backoffNs (d : Device) : Nat := d.rg F.FIX_COLDSTART_BACKOFF_BASE * (1 + d.rg F.FIX_CFG_RANK) * 1000

theorem listenTimeout_idle (h : fixWaits d = true ∨ d.fix.st ≠ .listen ∨ ¬ FixTimerRan (listenNs d) d) :
    listenTimeout d = d := fixTimer_idle h

theorem listenTimeout_runs (hw : ¬ fixWaits d = true) (hst : d.fix.st = .listen) (ht : FixTimerRan (listenNs d) d) :
    listenTimeout d = if d.rb F.FIX_CFG_CS_CAPABLE then fixOwnEpoch .coldstarting d else fixListen d :=
  fixTimer_runs hw hst ht

theorem backoffTimeout_idle (h : fixWaits d = true ∨ d.fix.st ≠ .backoff ∨ ¬ FixTimerRan (backoffNs d) d) :
    backoffTimeout d = d := fixTimer_idle h

theorem backoffTimeout_runs (hw : ¬ fixWaits d = true) (hst : d.fix.st = .backoff)
    (ht : FixTimerRan (backoffNs d) d) : backoffTimeout d = fixListen d := fixTimer_runs hw hst ht

/-! ### Counts (R209, R210, R218) -/

/-- The count `n` has reached the limit in field `f`; a count of 0 reaches none. -/
def CountReached (f : Fld) (n : Nat) (d : Device) : Prop := 0 < n ∧ d.rg f ≤ n

theorem fixConfirm_reached {n : Nat} (hw : ¬ fixWaits d = true) (hst : d.fix.st = .coldstarting)
    (h : CountReached F.FIX_COLDSTART_CONFIRM_CROSSINGS n d) : fixConfirm n d = fixSync d :=
  if_pos ⟨hst, Bool.eq_false_iff.2 hw, h.2, h.1⟩

theorem fixConfirm_idle {n : Nat}
    (h : fixWaits d = true ∨ d.fix.st ≠ .coldstarting ∨ ¬ CountReached F.FIX_COLDSTART_CONFIRM_CROSSINGS n d) :
    fixConfirm n d = d := by
  refine if_neg fun ⟨hst, hw, hlim, hsome⟩ => ?_
  rcases h with h | h | h
  · exact Bool.false_ne_true (hw.symm.trans h)
  · exact h hst
  · exact h ⟨hsome, hlim⟩

theorem fixIntegrate_reached (hst : d.fix.st = .integrating)
    (h : CountReached F.FIX_COLDSTART_INTEGRATE_CROSSINGS (d.rg F.FIX_STATUS_REGAIN) d) : fixIntegrate d = fixSync d :=
  if_pos ⟨hst, h.2, h.1⟩

theorem fixIntegrate_idle (h : d.fix.st ≠ .integrating ∨
      ¬ CountReached F.FIX_COLDSTART_INTEGRATE_CROSSINGS (d.rg F.FIX_STATUS_REGAIN) d) : fixIntegrate d = d :=
  if_neg fun ⟨hst, hlim, hsome⟩ => h.elim (· hst) (· ⟨hsome, hlim⟩)

theorem fixRegain_reached (hst : d.fix.st = .lostFix)
    (h : CountReached F.FIX_LIMITS_REGAIN_CROSSINGS (d.rg F.FIX_STATUS_REGAIN) d) : fixRegain d = fixSync d :=
  if_pos ⟨hst, h.2, h.1⟩

theorem fixRegain_idle (h : d.fix.st ≠ .lostFix ∨
      ¬ CountReached F.FIX_LIMITS_REGAIN_CROSSINGS (d.rg F.FIX_STATUS_REGAIN) d) : fixRegain d = d :=
  if_neg fun ⟨hst, hlim, hsome⟩ => h.elim (· hst) (· ⟨hsome, hlim⟩)

theorem sourcesLost_iff {n : Nat} :
    sourcesLost n d = true ↔ fixSources d ≠ [] ∧ CountReached F.FIX_LIMITS_SOURCE_LOSS_LIMIT n d := by
  simp [sourcesLost, CountReached, and_comm]

theorem fixSourceLoss_integrating (hst : d.fix.st = .integrating) :
    fixSourceLoss d = if sourcesLost d.fix.missed d then fixListen (engineStop d) else d := by
  rw [fixSourceLoss, hst]

theorem fixSourceLoss_synchronised (hst : d.fix.st = .synchronised) :
    fixSourceLoss d = if sourcesLost (d.rg F.FIX_STATUS_SOURCE_LOSS) d then fixLost d else d := by
  rw [fixSourceLoss, hst]

theorem fixSourceLoss_elsewhere (hi : d.fix.st ≠ .integrating) (hs : d.fix.st ≠ .synchronised) :
    fixSourceLoss d = d := by
  unfold fixSourceLoss
  split
  · next hst => exact absurd hst hi
  · next hst => exact absurd hst hs
  all_goals rfl

/-! ### The statement -/

/-- Settles O58: the frames sent, the frames taken in by the order in which each is looked at, the timers and the
counts. -/
theorem fixCommands : Obligations.FixCommands := by
  intro s p n status skew h rest hp d pdu dev waits met listened backed planned csAt confirm whole regain lost sends
    starts
  refine ⟨fun hn => ?notRunning, fun hc hs => ⟨fun hd => ?fixNotDue, fun hd => ?fixDue⟩, fun hd => ?csNotDue,
    fun hd => ?csDue, fun ht => ?noFix,
    fun ht => ⟨fun hr => ?fixRejected, fun hr => ⟨fun hm => ?judged, fun hm ho best t hg => ?fixAdopts,
      fun hm ho => ?fixCounted⟩⟩, fun ht => ?noColdstart,
    fun ht => ⟨fun hr => ?csRejected, fun hr => ⟨fun hk => ?stranger, fun hk => ⟨fun hc => ?collides,
      fun hc ho best t hg => ?csAdopts, fun hc ho hst => ?csIgnored, fun hc ho hi hn => ?csCounted⟩⟩⟩,
    fun hn => ?listenIdle, fun hw hst ht => ⟨fun hcap => ?ownEpoch, fun hcap => ?listenAgain⟩, fun hn => ?backoffIdle,
    fun hw hst ht => ?backoffRuns, fun hn => ?confirmIdle, fun hw hst hr => ?confirms, fun hst hr => ?integrates,
    fun hn => ?integrateIdle, fun hst hr => ?regains, fun hn => ?regainIdle, fun hst hl => ?lostIntegrating,
    fun hst hl => ?keptIntegrating, fun hst hl => ?lostSynchronised, fun hst hl => ?keptSynchronised,
    fun hi hs => ?noSources⟩
  case notRunning => exact runs_of_onDev rfl hp (fixFrameSend_notRunning hn)
  case fixNotDue => exact runs_of_onDev rfl hp (fixFrameSend_notDue hc hs hd)
  case fixDue => exact runs_of_onDev rfl hp (fixFrameSend_due hc hs hd)
  case csNotDue => exact runs_of_onDev rfl hp (coldstartSend_notDue hd)
  case csDue => exact runs_of_onDev rfl hp (coldstartSend_due hd)
  case noFix => exact runs_of_onDev rfl hp (fixRx_none ht)
  case fixRejected => exact runs_of_onDev rfl hp (fixRx_rejected ht hr)
  case judged => exact runs_of_onDev rfl hp (fixRx_judged ht hr hm)
  case fixAdopts => exact runs_of_onDev rfl hp (fixRx_adopts ht hr hm ho hg)
  case fixCounted => exact runs_of_onDev rfl hp (fixRx_counted ht hr hm ho)
  case noColdstart => exact runs_of_onDev rfl hp (coldstartRx_none ht)
  case csRejected => exact runs_of_onDev rfl hp (coldstartRx_rejected ht hr)
  case stranger => exact runs_of_onDev rfl hp (coldstartRx_stranger ht hr hk)
  case collides => exact runs_of_onDev rfl hp (coldstartRx_collides ht hr hk hc)
  case csAdopts => exact runs_of_onDev rfl hp (coldstartRx_adopts ht hr hk hc ho hg)
  case csIgnored => exact runs_of_onDev rfl hp (coldstartRx_ignored ht hr hk hc ho hst)
  case csCounted => exact runs_of_onDev rfl hp (coldstartRx_counted ht hr hk hc ho hi hn)
  case listenIdle => exact runs_of_onDev rfl hp (listenTimeout_idle hn)
  case ownEpoch => exact runs_of_onDev rfl hp ((listenTimeout_runs hw hst ht).trans (if_pos hcap))
  case listenAgain =>
    exact runs_of_onDev rfl hp ((listenTimeout_runs hw hst ht).trans (if_neg (Bool.eq_false_iff.1 hcap)))
  case backoffIdle => exact runs_of_onDev rfl hp (backoffTimeout_idle hn)
  case backoffRuns => exact runs_of_onDev rfl hp (backoffTimeout_runs hw hst ht)
  case confirmIdle => exact runs_of_onDev rfl hp (fixConfirm_idle hn)
  case confirms => exact runs_of_onDev rfl hp (fixConfirm_reached hw hst hr)
  case integrates => exact runs_of_onDev rfl hp (fixIntegrate_reached hst hr)
  case integrateIdle => exact runs_of_onDev rfl hp (fixIntegrate_idle hn)
  case regains => exact runs_of_onDev rfl hp (fixRegain_reached hst hr)
  case regainIdle => exact runs_of_onDev rfl hp (fixRegain_idle hn)
  case lostIntegrating =>
    exact runs_of_onDev rfl hp ((fixSourceLoss_integrating hst).trans (if_pos (sourcesLost_iff.2 hl)))
  case keptIntegrating =>
    exact runs_of_onDev rfl hp ((fixSourceLoss_integrating hst).trans (if_neg (mt sourcesLost_iff.1 hl)))
  case lostSynchronised =>
    exact runs_of_onDev rfl hp ((fixSourceLoss_synchronised hst).trans (if_pos (sourcesLost_iff.2 hl)))
  case keptSynchronised =>
    exact runs_of_onDev rfl hp ((fixSourceLoss_synchronised hst).trans (if_neg (mt sourcesLost_iff.1 hl)))
  case noSources => exact runs_of_onDev rfl hp (fixSourceLoss_elsewhere hi hs)

end Sys2Proof.Proofs

/-!
PROOFS. The crossing engine (chapter 04): assembly and launch of ferry frames (R111, R113), skiffs (R131), returned copies
and their windows (R116, R121, R132), the input deadline (R126), cycle points (R134), spare berths (R137) and ACYCLIC
frames (R88, R89, R140, R185): one equation per case of each function of the model, and the statement assembled from them.
-/

namespace Sys2Proof.Proofs

open Sys2Proof.Machine Sys2Proof.Safety

variable {d rest : Device} {b k p : Nat} {r : Run} {h : Handed} {w : Window}

/-- READY_LATE of branch `b`, status and count, when `late` (R113). -/
def readyLate (late : Bool) (b : Nat) (d : Device) : Device := brStatusIf late b 0 (d.countIf late (crossCnt b 0x60))

/-! ### Assembly (R111, R113) -/

/-- The slack of frame `f`, whole now, logged. -/
def ferryLogged (f : FrameRun) (d : Device) : Device := logSlack 0 (slackX (f.launchAt - readyMargin d) d.raw d) d

/-- Frame `k` of run `r` ready, late past its margin, with its safe and stale berths counted. -/
def ferryReady (b k : Nat) (r : Run) (f : FrameRun) (d : Device) : Device :=
  let late := decide (f.launchAt - readyMargin d < d.xNow)
  let mine := r.berths.filter fun z => z.frame == k
  ((readyLate late b ((ferryLogged f d).putRun
        { r with frames := r.frames.set k { f with whole := true, ready := true } })).countN
      (cargoCnt 0x30) (mine.filter (·.safe)).length).countN (cargoCnt 0x38) (mine.filter (·.stale)).length

theorem ferryAssembled_idle (hr : d.runWith b (frameWaiting k) = none) : ferryAssembled b k d = d := by
  rw [ferryAssembled, hr]

section Assembly

variable {f : FrameRun} (hr : d.runWith b (frameWaiting k) = some r) (hf : r.frames[k]? = some f)
include hr hf

theorem ferryAssembled_some :
    ferryAssembled b k d =
      if f.launchAt ≤ d.xNow then
        (ferryLogged f d).putRun { r with frames := r.frames.set k { f with whole := true } }
      else ferryReady b k r f d := by
  simp only [ferryAssembled, hr, hf]
  rfl

theorem ferryAssembled_tooLate (ht : f.launchAt ≤ d.xNow) :
    ferryAssembled b k d = (ferryLogged f d).putRun { r with frames := r.frames.set k { f with whole := true } } := by
  rw [ferryAssembled_some hr hf, if_pos ht]

theorem ferryAssembled_ready (ht : d.xNow < f.launchAt) : ferryAssembled b k d = ferryReady b k r f d := by
  rw [ferryAssembled_some hr hf, if_neg (Int.not_le.2 ht)]

end Assembly

/-! ### Launch of a ferry frame (R111, R113) -/

/-- Frame `k` of run `r` is sent on every channel, and the run decides. -/
def ferrySent (b k : Nat) (r : Run) (f : FrameRun) (d : Device) : Device :=
  let body := (berthsOf r ((r.berths.filter fun y => y.frame == k).map (·.idx))).map (·.sent)
  let y := trainSend .ferry (crossCnt b 8) r k f.launchAt (fun c => armFrame b (ferryHeader r k f c d ++ body.flatten) d) d
  let st := if y.1 then LaunchState.launched else .unlaunched
  runDecide b r.crossing (y.2.putRun { r with frames := r.frames.set k { f with st := st } })

theorem ferryLaunch_idle (hr : d.runWith b (frameDue k d.xNow) = none) : ferryLaunch b k d = d := by
  rw [ferryLaunch, hr]

section Launch

variable {f : FrameRun} (hr : d.runWith b (frameDue k d.xNow) = some r) (hf : r.frames[k]? = some f)
include hr hf

theorem ferryLaunch_sends (hready : f.ready = true) : ferryLaunch b k d = ferrySent b k r f d := by
  simp only [ferryLaunch, hr, hf]
  rw [if_pos hready]
  rfl

theorem ferryLaunch_givesUp (hready : f.ready = false) :
    ferryLaunch b k d = runDecide b r.crossing
      ((unlaunched .ferry r k d).putRun { r with frames := r.frames.set k { f with st := .unlaunched } }) := by
  simp [ferryLaunch, hr, hf, hready]

end Launch

/-! ### Launch of a skiff (R131) -/

/-- The launch time of the last skiff of run `r`, `g`, has come: it is sent on every channel when it is `whole`, and where
no channel sends it, the run has no more of them. -/
def skiffEnds (whole late : Bool) (b : Nat) (r : Run) (g : SkiffRun) (d : Device) : Device :=
  let d := readyLate late b d
  let k := r.skiffs.length - 1
  let body := (berthsOf r g.berths).map (·.sent)
  let y := if whole then
      trainSend .skiff (crossCnt b 0x10) r k g.launchAt (fun c => armFrame b (skiffHeader r k g c d ++ body.flatten) d) d
    else (false, unlaunched .skiff r k d)
  let q := { r with skiffs := r.skiffs.set k { g with st := if y.1 then .launched else .unlaunched } }
  if y.1 then runDecide b r.crossing (y.2.putRun q) else mergedCheck b r.crossing (skiffStop q (y.2.putRun q))

/-- The slack of skiff `g`, whole at raw count `m`, logged. -/
def skiffLogged (g : SkiffRun) (m : Word) (d : Device) : Device :=
  logSlack 1 (slackX (g.launchAt - readyMargin d) m d) d

/-- When skiff `g` was whole, read once its slack has been logged. -/
def skiffWholeAt (g : SkiffRun) (m : Word) (d : Device) : Int := (skiffLogged g m d).timeAt .x { count := m }

theorem skiffLaunch_idle {ready : Option Word} (hr : d.runWith b (skiffDue d.xNow) = none) :
    skiffLaunch b ready d = d := by
  rw [skiffLaunch, hr]

section Skiff

variable {g : SkiffRun} {m : Word} (hr : d.runWith b (skiffDue d.xNow) = some r) (hg : r.skiffs.getLast? = some g)
include hr hg

theorem skiffLaunch_notWhole : skiffLaunch b none d = skiffEnds false false b r g d := by
  simp only [skiffLaunch, hr, hg]
  rfl

/-- A skiff leaves when it was whole at its time and no ferry frame that it copies from was lost. -/
theorem skiffLaunch_whole {goes : Bool} (hgoes : (decide (skiffWholeAt g m d < g.launchAt) && !skiffLost r g) = goes) :
    skiffLaunch b (some m) d =
      skiffEnds goes (goes && decide (g.launchAt - readyMargin d < skiffWholeAt g m d)) b r g (skiffLogged g m d) := by
  subst hgoes
  simp only [skiffLaunch, hr, hg]
  rfl

theorem skiffLaunch_lost (hl : g.launchAt ≤ skiffWholeAt g m d ∨ skiffLost r g = true) :
    skiffLaunch b (some m) d = skiffEnds false false b r g (skiffLogged g m d) := by
  refine skiffLaunch_whole hr hg ?_
  rcases hl with hl | hl
  · rw [decide_eq_false (Int.not_lt.2 hl), Bool.false_and]
  · rw [hl, Bool.not_true, Bool.and_false]

theorem skiffLaunch_leaves (ht : skiffWholeAt g m d < g.launchAt) (hn : skiffLost r g = false) :
    skiffLaunch b (some m) d =
      skiffEnds true (decide (g.launchAt - readyMargin d < skiffWholeAt g m d)) b r g (skiffLogged g m d) :=
  skiffLaunch_whole hr hg (by rw [decide_eq_true ht, hn]; rfl)

end Skiff

/-! ### Returned copies and their windows (R116, R121, R132) -/

/-- The berths that a returned copy of frame `k` of run `r` carries, with their PDU offsets. -/
def ferryLayout (r : Run) (k : Nat) : List (Nat × Nat) :=
  (r.berths.filter fun x => x.frame == k).map fun x => (x.idx, x.pos)

/-- The berths that a returned copy of skiff `k` of run `r` carries, with their PDU offsets. -/
def skiffCarried (r : Run) (k : Nat) : List (Nat × Nat) :=
  skiffLayout 20 (match r.skiffs[k]? with | some g => berthsOf r g.berths | none => [])

theorem ferryReturn_idle (ht : takeHanded p (handedKind .ferry) d = none) : ferryReturn p d = d := by
  rw [ferryReturn, ht]

theorem skiffReturn_idle (ht : takeHanded p (handedKind .skiff) d = none) : skiffReturn p d = d := by
  rw [skiffReturn, ht]

section FerryCopy

variable (ht : takeHanded p (handedKind .ferry) d = some (h, rest)) (hw : h.win = some w)
include ht hw

theorem ferryReturn_noRun (hr : rest.runOf w.branch w.crossing = none) : ferryReturn p d = rest := by
  simp only [ferryReturn, ht, hw, hr]

theorem ferryReturn_merges (hr : rest.runOf w.branch w.crossing = some r) :
    ferryReturn p d = runDecide w.branch w.crossing (frameCopies h r none (ferryLayout r w.idx) rest) := by
  simp only [ferryReturn, ht, hw, hr]
  rfl

end FerryCopy

section SkiffCopy

variable (ht : takeHanded p (handedKind .skiff) d = some (h, rest)) (hw : h.win = some w)
include ht hw

theorem skiffReturn_noRun (hr : rest.runOf w.branch w.crossing = none) : skiffReturn p d = rest := by
  simp only [skiffReturn, ht, hw, hr]

theorem skiffReturn_merges (hr : rest.runOf w.branch w.crossing = some r) :
    skiffReturn p d =
      runDecide w.branch w.crossing (frameCopies h r (some w.idx) (skiffCarried r w.idx) rest) := by
  simp only [skiffReturn, ht, hw, hr]
  rfl

end SkiffCopy

/-- Window `w` has closed without the copy that it awaits. -/
def ClosesEmpty (w : Window) (d : Device) : Prop :=
  w.kind ≠ .muster ∧ w.used = false ∧ w.doneAt = none ∧ w.close ≤ d.xNow

theorem returnWindowClose_idle {wid : Nat} (hf : d.pilot.windows.find? (fun w => w.id == wid) = none) :
    returnWindowClose wid d = d := by
  rw [returnWindowClose, hf]

section Close

variable {wid : Nat} (hf : d.pilot.windows.find? (fun w => w.id == wid) = some w)
include hf

theorem returnWindowClose_done (hc : ClosesEmpty w d) :
    returnWindowClose wid d = runDecide w.branch w.crossing (windowDone wid w.close d) := by
  obtain ⟨hkind, hused, hdone, hclose⟩ := hc
  rw [returnWindowClose, hf]
  exact if_neg (by simp [hkind, hused, hdone, hclose])

theorem returnWindowClose_stays (hc : ¬ ClosesEmpty w d) : returnWindowClose wid d = d := by
  rw [returnWindowClose, hf]
  refine if_pos (Decidable.by_contra fun hn => hc ?_)
  simpa [ClosesEmpty] using hn

end Close

/-! ### The input deadline (R123 to R126) -/

section Deadline

variable {m : Word} {l : List LateMerge}

/-- The slack of run `r` at its deadline, its merge done at raw count `m`, logged. -/
def deadlineLogged (r : Run) (m : Word) (d : Device) : Device := logSlack 2 (slackX r.deadline m d) d

/-- The berths of run `r` after the late merges `l`, and whether one of these took a berth's winner (R125). -/
def berthsMerged (r : Run) (l : List LateMerge) (d : Device) : List (BerthRun × Bool) :=
  r.berths.map fun z => lateMerge z (l.find? fun q => q.berth == z.idx) (d.cargo.inErr.contains z.idx)

/-- The berths `bs` of run `r` take their final entries, and the run is final. -/
def runFinal (b : Nat) (r : Run) (bs : List BerthRun) (d : Device) : Device :=
  let d := { d with cargo.inErr := d.cargo.inErr.filter fun i => !bs.any (fun z => z.idx == i) }
  let d := bs.foldl (fun d z => berthFinal r.crossing b z d) d
  let missed := bs.any fun z => z.win.isNone && !z.absent && !z.spare
  ((brStatusIf missed b 5 d).ru F.CROSS_BR_LAST_CROSSING r.crossing b).putRun { r with berths := bs, final := true }

/-- The inputs of crossing `n` become stable once no run has a deadline to come in it (R157). -/
def inputsSettled (n : Nat) (d : Device) : Device :=
  if d.cross.runs.any fun z => !z.final && crossingOf z.deadline d == n then d else inputsStable n d

/-- The deadline of run `r`. -/
def deadlineReached (b : Nat) (m : Word) (l : List LateMerge) (r : Run) (d : Device) : Device :=
  let x := deadlineLogged r m d
  let y := berthsMerged r l x
  let c := (y.filter (·.2)).length
  inputsSettled (crossingOf r.deadline d)
    (runFinal b r (y.map (·.1)) (brStatusIf (c != 0) b 7 (x.countN (crossCnt b 0x70) c)))

theorem branchDeadline_idle (hr : d.runWith b (fun r => !r.final) = none) : branchDeadline b m l d = d := by
  rw [branchDeadline, hr]

variable (hr : d.runWith b (fun r => !r.final) = some r)
include hr

theorem branchDeadline_early (h : d.xNow < r.deadline ∨ d.crossingNo < crossingOf r.deadline d) :
    branchDeadline b m l d = d := by
  rw [branchDeadline, hr]
  exact if_pos h

theorem branchDeadline_reached (ht : r.deadline ≤ d.xNow) (hn : crossingOf r.deadline d ≤ d.crossingNo) :
    branchDeadline b m l d = deadlineReached b m l r d := by
  rw [branchDeadline, hr]
  exact if_neg (not_or.2 ⟨Int.not_lt.2 ht, Nat.not_lt.2 hn⟩)

end Deadline

/-! ### Spare berths (R137) -/

theorem adminStep_ends {op : Nat} {qid : Bool} {res : Bytes → Bool} {run : Bytes → Device → Nat × CompBody × Device}
    {x : Device} (ha : adminPick op qid res d = .inl x) : adminStep op qid res run d = x := by
  rw [adminStep, ha]

/-- What a spare command does: its test's status, and a request kept for the branch's boundary when it passes. -/
def spareRun (test : Bytes → Device → Nat) (ask : Bytes → Nat × Option (Nat × Nat)) (bs : Bytes) (d : Device) :
    Nat × CompBody × Device :=
  (test bs d, {}, if test bs d = 0 then { d with cross.claimReqs := d.cross.claimReqs ++ [ask bs] } else d)

section Spare

variable {op : Nat} {qid : Bool} {res : Bytes → Bool} {test : Bytes → Device → Nat}
  {ask : Bytes → Nat × Option (Nat × Nat)} {e : Entry} (ha : adminPick op qid res d = .inr e)
include ha

theorem adminStep_spareRun_refused {st : Nat} (ht : test e.bytes (entryStart adminQ e 0 d).2 = st) (hst : st ≠ 0) :
    adminStep op qid res (spareRun test ask) d =
      entryComplete (entryStart adminQ e 0 d).1 st {} (entryStart adminQ e 0 d).2 := by
  simp only [adminStep, ha, spareRun, ht, if_neg hst]

theorem adminStep_spareRun_accepted (ht : test e.bytes (entryStart adminQ e 0 d).2 = 0) :
    adminStep op qid res (spareRun test ask) d =
      entryComplete (entryStart adminQ e 0 d).1 0 {}
        { (entryStart adminQ e 0 d).2 with
          cross.claimReqs := (entryStart adminQ e 0 d).2.cross.claimReqs ++ [ask e.bytes] } := by
  simp only [adminStep, ha, spareRun, ht, if_true]

end Spare

/-- The berth that a spare command names. -/
def spareIdx (bs : Bytes) : Nat := leWord bs 0 % 2 ^ 16

/-- The node that CLAIM_SPARE names, with its berth there. -/
def claimNode (bs : Bytes) : Nat × Nat := (leWord bs 1 % 2 ^ 16 / 4, leWord bs 1 % 2 ^ 16 % 4)

/-- The chart's entry for the berth that a spare command names. -/
def spareEntry (bs : Bytes) (d : Device) : BerthEntry := (d.chart.berths[spareIdx bs]?).getD {}

/-- The berth that a spare command names is claimed, or will be. -/
def spareClaimed (bs : Bytes) (d : Device) : Bool := (tabGet none (futureClaims d) (spareIdx bs)).isSome

/-- The node's berth that CLAIM_SPARE names has a berth of its own, or a spare that is claimed for it. -/
def nodeInUse (bs : Bytes) (d : Device) : Bool :=
  d.chart.berths.any (fun y => !y.spare && y.node == (claimNode bs).1 && y.bidx == (claimNode bs).2)
    || (futureClaims d).any fun c => c.2 == some (claimNode bs)

/-- Muster found the node that CLAIM_SPARE names on the spare berth's branch. -/
def nodeFound (bs : Bytes) (d : Device) : Bool :=
  (tabGet [] d.muster.found (spareEntry bs d).branch).contains (claimNode bs).1

/-- The status of CLAIM_SPARE, by the first test that it fails. -/
def claimTest (bs : Bytes) (d : Device) : Nat :=
  if !liveState d.st then 0x46
  else if !(spareEntry bs d).spare then 0x49
  else if spareClaimed bs d then 0x4A
  else if nodeInUse bs d then 0x4B
  else if !nodeFound bs d then 0x4C
  else 0

/-- The status of RELEASE_SPARE. -/
def releaseTest (bs : Bytes) (d : Device) : Nat :=
  if !liveState d.st then 0x46 else if (tabGet none (futureClaims d) (spareIdx bs)).isNone then 0x4D else 0

theorem claimSpare_eq (d : Device) :
    claimSpare d =
      adminStep 0x05 false (fun _ => false) (spareRun claimTest fun bs => (spareIdx bs, some (claimNode bs))) d := rfl

theorem releaseSpare_eq (d : Device) :
    releaseSpare d = adminStep 0x06 false (fun _ => false) (spareRun releaseTest fun bs => (spareIdx bs, none)) d := rfl

section Tests

variable {bs : Bytes}

theorem claimTest_closed (hl : liveState d.st = false) : claimTest bs d = 0x46 := by simp [claimTest, hl]

theorem releaseTest_closed (hl : liveState d.st = false) : releaseTest bs d = 0x46 := by simp [releaseTest, hl]

variable (hl : liveState d.st = true)
include hl

theorem releaseTest_unclaimed (hc : tabGet none (futureClaims d) (spareIdx bs) = none) : releaseTest bs d = 0x4D := by
  simp [releaseTest, hl, hc]

theorem releaseTest_passes (hc : tabGet none (futureClaims d) (spareIdx bs) ≠ none) : releaseTest bs d = 0 := by
  simp [releaseTest, hl, hc]

theorem claimTest_notSpare (hs : (spareEntry bs d).spare = false) : claimTest bs d = 0x49 := by simp [claimTest, hl, hs]

variable (hs : (spareEntry bs d).spare = true)
include hs

theorem claimTest_claimed (hc : spareClaimed bs d = true) : claimTest bs d = 0x4A := by simp [claimTest, hl, hs, hc]

variable (hc : spareClaimed bs d = false)
include hc

theorem claimTest_inUse (hu : nodeInUse bs d = true) : claimTest bs d = 0x4B := by simp [claimTest, hl, hs, hc, hu]

variable (hu : nodeInUse bs d = false)
include hu

theorem claimTest_notFound (hf : nodeFound bs d = false) : claimTest bs d = 0x4C := by
  simp [claimTest, hl, hs, hc, hu, hf]

theorem claimTest_passes (hf : nodeFound bs d = true) : claimTest bs d = 0 := by simp [claimTest, hl, hs, hc, hu, hf]

end Tests

section SpareCommands

variable {s : State} {e : Entry} (hp : Powered s)
include hp

theorem runs_claimSpare_refused (ha : adminPick 0x05 false (fun _ => false) s.dev = .inr e) {st : Nat}
    (ht : claimTest e.bytes (entryStart adminQ e 0 s.dev).2 = st) (hst : st ≠ 0) :
    Runs .claimSpare s fun _ =>
      entryComplete (entryStart adminQ e 0 s.dev).1 st {} (entryStart adminQ e 0 s.dev).2 :=
  runs_of_onDev rfl hp ((claimSpare_eq s.dev).trans (adminStep_spareRun_refused ha ht hst))

theorem runs_releaseSpare_refused (ha : adminPick 0x06 false (fun _ => false) s.dev = .inr e) {st : Nat}
    (ht : releaseTest e.bytes (entryStart adminQ e 0 s.dev).2 = st) (hst : st ≠ 0) :
    Runs .releaseSpare s fun _ =>
      entryComplete (entryStart adminQ e 0 s.dev).1 st {} (entryStart adminQ e 0 s.dev).2 :=
  runs_of_onDev rfl hp ((releaseSpare_eq s.dev).trans (adminStep_spareRun_refused ha ht hst))

end SpareCommands

/-! ### Own ACYCLIC frames (R89, R140) -/

section OwnAcyclic

variable {a : AcyOut} {more : List AcyOut}

/-- Port `q` sends no own frame. -/
def portFree (q : Nat) (d : Device) : Bool := 
  match (d.port q).own with
  | some o => decide (o.stop.toNat ≤ d.raw.toNat)
  | none => true

theorem portFree_iff {q : Nat} :
    portFree q d = true ↔ ∀ o, (d.port q).own = some o → o.stop.toNat ≤ d.raw.toNat := by
  unfold portFree
  cases (d.port q).own <;> simp

/-- When ACYCLIC window `k` of run `r` opens. -/
def acyOpens (b k : Nat) (r : Run) (d : Device) : Int := r.start + nsT (d.rg F.PILOT_ACY_GAP_GAP_NS b k)

/-- When ACYCLIC window `k` of run `r` closes. -/
def acyCloses (b k : Nat) (r : Run) (d : Device) : Int :=
  acyOpens b k r d + nsT (branchWire b (armFrameLen (24 + d.rg F.PILOT_ACY_CFG_MAX_DATA b k)) d) + acceptWindow d

/-- The length of the frame that carries `a`. -/
def acyLen (a : AcyOut) : Nat := armFrameLen (24 + a.data.length)

/-- The frame that carries `a` may leave now through DOWN window `k`, in which its last bit leaves too (R140). -/
def AcyclicMay (b k : Nat) (r : Run) (a : AcyOut) (d : Device) : Prop :=
  violating d.st = true ∧ pathsOf b d ≠ [] ∧ d.rb F.PILOT_ACY_CFG_ENABLE b k = true ∧
    d.rb F.PILOT_ACY_CFG_DIR b k = true ∧
    (∀ q ∈ pathsOf b d, ∀ o, (d.port q.port).own = some o → o.stop.toNat ≤ d.raw.toNat) ∧
    acyOpens b k r d ≤ d.xNow ∧ d.xNow + lastBitT b (acyLen a) d < acyCloses b k r d

/-- The frame that carries `a` leaves on every path of branch `b`, `more` staying in the queue. -/
def acyclicSent (b k : Nat) (a : AcyOut) (more : List AcyOut) (d : Device) : Device :=
  let j := jobNew a.entry (pathsOf b d).length (some a.seq) (d.setBranch b { d.branch b with acyQueue := more })
  let y := windowsBack .ownAcyclic (pathsOf b d) d.xNow (branchWire b (acyLen a) d) d.crossingNo b k true j.2
  let dev := d.rg F.GLOBAL_ID_DEVICE_ID
  (pathsOf b d).foldl (fun y q =>
    let st := launchStamp (launchUnits .x d.xNow y) y
    ownSend q.port (armFrame b (acyclicPdu q.chan dev b d.crossingNo (dev * 16384 + a.node) a.mbx a.seq k a.data) y)
      st.1 (some j.1) st.2) y

theorem acyclicLaunch_idle
    (h : (d.branch b).acyQueue = [] ∨ (d.cross.runs.filter fun r => r.branch == b).getLast? = none) :
    acyclicLaunch b k d = d := by
  unfold acyclicLaunch
  dsimp only
  split
  · next hq hr => exact absurd h (by simp [hq, hr])
  · rfl

variable (hq : (d.branch b).acyQueue = a :: more)
  (hr : (d.cross.runs.filter fun r => r.branch == b).getLast? = some r)
include hq hr

theorem acyclicLaunch_some :
    acyclicLaunch b k d =
      if !violating d.st || pathsOf b d = [] || !d.rb F.PILOT_ACY_CFG_ENABLE b k || !d.rb F.PILOT_ACY_CFG_DIR b k
          || !(pathsOf b d).all (fun q => portFree q.port d) || decide (d.xNow < acyOpens b k r d)
          || decide (acyCloses b k r d ≤ d.xNow + lastBitT b (acyLen a) d) then d
      else acyclicSent b k a more d := by
  simp only [acyclicLaunch, hq, hr]
  rfl

theorem acyclicLaunch_leaves (h : AcyclicMay b k r a d) : acyclicLaunch b k d = acyclicSent b k a more d := by
  rw [acyclicLaunch_some hq hr]
  exact if_neg (by simpa [AcyclicMay, portFree_iff, and_assoc] using h)

theorem acyclicLaunch_waits (h : ¬ AcyclicMay b k r a d) : acyclicLaunch b k d = d := by
  rw [acyclicLaunch_some hq hr]
  refine if_pos (Decidable.by_contra fun hn => h ?_)
  simpa [AcyclicMay, portFree_iff, and_assoc] using hn

end OwnAcyclic

theorem ownAcyclicReturn_idle (ht : takeHanded p (handedKind .ownAcyclic) d = none) : ownAcyclicReturn p d = d := by
  rw [ownAcyclicReturn, ht]

theorem ownAcyclicReturn_discards (ht : takeHanded p (handedKind .ownAcyclic) d = some (h, rest)) :
    ownAcyclicReturn p d = rest := by
  rw [ownAcyclicReturn, ht]

/-! ### A node's ACYCLIC frames (R88, R185) -/

/-- NODE_ADDR of the frame `h`. -/
def acyAddr (h : Handed) : Nat := beField (h.bytes.drop h.off) 12 3 % 2 ^ 20

/-- WINDOW of the frame `h`. -/
def acyWindow (h : Handed) : Nat := beField (h.bytes.drop h.off) 17 1 % 4

/-- What a duplicate of the frame `h` is known by: its node, mailbox and SEQ (R88). -/
def acyKey (h : Handed) : Nat × Nat × Nat :=
  (acyAddr h, beField (h.bytes.drop h.off) 15 1, beField (h.bytes.drop h.off) 16 1)

/-- The frame `h` has been seen. -/
def acySeenNow (h : Handed) (d : Device) : Device := { d with cross.acySeen := acyKey h :: d.cross.acySeen }

/-- The frame `h` goes to the receive queue of ACYCLIC frames (R431). -/
def acyDelivered (p : Nat) (h : Handed) (d : Device) : Device :=
  rxDeliver (d.rg F.QUEUE_ACY_CFG_RXQ) (h.bytes.take (h.bytes.length - 4))
    (h.rxStatus * 2 ^ 48 + p * 2 ^ 32 + 2 ^ 29) h.stamp (acySeenNow h d)

theorem nodeAcyclicRx_idle (ht : takeHanded p (handedKind .nodeAcyclic) d = none) : nodeAcyclicRx p d = d := by
  rw [nodeAcyclicRx, ht]

section NodeAcyclic

variable (ht : takeHanded p (handedKind .nodeAcyclic) d = some (h, rest)) (hw : h.win = some w)
include ht hw

/-- The order in which a node's frame is looked at. -/
theorem nodeAcyclicRx_some :
    nodeAcyclicRx p d =
      if acyAddr h % 2 ^ 14 ≠ windowOwner w.branch w.idx w.crossing rest then
        violation p 3 (deviationOf (rest.timeAt .x h.stamp - w.expect)) rest
      else if acyWindow h ≠ w.idx then rest.count (gvCnt p 0x78)
      else if rest.cross.acySeen.contains (acyKey h) then rest.count (gvCnt p 0x70)
      else if rest.rb F.QUEUE_ACY_CFG_ENABLE then acyDelivered p h rest
      else (acySeenNow h rest).count 0xB0030 := by
  simp only [nodeAcyclicRx, ht, hw]
  rfl

theorem nodeAcyclicRx_notOwner (ho : acyAddr h % 2 ^ 14 ≠ windowOwner w.branch w.idx w.crossing rest) :
    nodeAcyclicRx p d = violation p 3 (deviationOf (rest.timeAt .x h.stamp - w.expect)) rest := by
  rw [nodeAcyclicRx_some ht hw, if_pos ho]

variable (ho : acyAddr h % 2 ^ 14 = windowOwner w.branch w.idx w.crossing rest)
include ho

theorem nodeAcyclicRx_wrongWindow (hi : acyWindow h ≠ w.idx) : nodeAcyclicRx p d = rest.count (gvCnt p 0x78) := by
  rw [nodeAcyclicRx_some ht hw, if_neg (not_not_intro ho), if_pos hi]

variable (hi : acyWindow h = w.idx)
include hi

theorem nodeAcyclicRx_duplicate (hs : rest.cross.acySeen.contains (acyKey h) = true) :
    nodeAcyclicRx p d = rest.count (gvCnt p 0x70) := by
  rw [nodeAcyclicRx_some ht hw, if_neg (not_not_intro ho), if_neg (not_not_intro hi), if_pos hs]

variable (hs : rest.cross.acySeen.contains (acyKey h) = false)
include hs

/-- A new frame that its window admits. -/
theorem nodeAcyclicRx_new :
    nodeAcyclicRx p d =
      if rest.rb F.QUEUE_ACY_CFG_ENABLE then acyDelivered p h rest else (acySeenNow h rest).count 0xB0030 := by
  rw [nodeAcyclicRx_some ht hw, if_neg (not_not_intro ho), if_neg (not_not_intro hi), if_neg (Bool.eq_false_iff.1 hs)]

theorem nodeAcyclicRx_delivered (he : rest.rb F.QUEUE_ACY_CFG_ENABLE = true) :
    nodeAcyclicRx p d = acyDelivered p h rest := by
  rw [nodeAcyclicRx_new ht hw ho hi hs, if_pos he]

theorem nodeAcyclicRx_noQueue (he : rest.rb F.QUEUE_ACY_CFG_ENABLE = false) :
    nodeAcyclicRx p d = (acySeenNow h rest).count 0xB0030 := by
  rw [nodeAcyclicRx_new ht hw ho hi hs, if_neg (Bool.eq_false_iff.1 he)]

end NodeAcyclic

/-! ### The statement -/

/-- Settles O55: frames and skiffs from assembly to return, windows, the deadline and cycle points, the spare commands by
the first test that they fail, and ACYCLIC frames of the device and of nodes. -/
theorem crossingCommands : Obligations.CrossingCommands := by
  intro s b k p i wid m ready l r f g h w e rest x a more hp d
  refine ⟨fun hr => ?notAssembled, fun hr hf => ⟨fun ht => ?wholeTooLate, fun ht => ?wholeReady⟩,
    fun hr => ?noFrameDue, fun hr hf => ⟨fun hready => ?ferrySends, fun hready => ?ferryGivesUp⟩,
    fun hr => ?noSkiffDue, fun hr hg => ?skiff, fun ht => ?noFerry,
    fun ht hw => ⟨fun hr => ?ferryNoRun, fun hr => ?ferryMerges⟩, fun ht => ?noSkiff,
    fun ht hw => ⟨fun hr => ?skiffNoRun, fun hr => ?skiffMerges⟩, fun hf => ?noWindow,
    fun hf => ⟨fun hc => ?windowDone, fun hc => ?windowStays⟩, fun hr => ?noRun,
    fun hr => ⟨fun ht => ?early, fun ht hn => ?deadline⟩, ?fires, fun ha => ?claimEnds, fun ha => ?claim,
    fun ha => ?releaseEnds, fun ha => ?release, fun hn => ?noAcyclic,
    fun hq hr => ⟨fun hm => ?acyclicWaits, fun hm => ?acyclicLeaves⟩, fun ht => ?noOwn, fun ht => ?ownDiscarded,
    fun ht => ?noNode, fun ht hw => ⟨fun ho => ?notOwner, fun ho hi => ?wrongWindow, fun ho hi hs => ?duplicate,
      fun ho hi hs he => ?delivered, fun ho hi hs he => ?noQueue⟩⟩
  case notAssembled => exact runs_of_onDev rfl hp (ferryAssembled_idle hr)
  case wholeTooLate => exact runs_of_onDev rfl hp (ferryAssembled_tooLate hr hf ht)
  case wholeReady => exact runs_of_onDev rfl hp (ferryAssembled_ready hr hf ht)
  case noFrameDue => exact runs_of_onDev rfl hp (ferryLaunch_idle hr)
  case ferrySends => exact runs_of_onDev rfl hp (ferryLaunch_sends hr hf hready)
  case ferryGivesUp => exact runs_of_onDev rfl hp (ferryLaunch_givesUp hr hf hready)
  case noSkiffDue => exact runs_of_onDev rfl hp (skiffLaunch_idle hr)
  case skiff =>
    refine ⟨?notWhole, ?lost, ?leaves⟩
    case notWhole =>
      rintro rfl
      exact runs_of_onDev rfl hp (skiffLaunch_notWhole hr hg)
    case lost =>
      rintro rfl hl
      exact runs_of_onDev rfl hp (skiffLaunch_lost hr hg hl)
    case leaves =>
      rintro rfl ht hn
      exact runs_of_onDev rfl hp (skiffLaunch_leaves hr hg ht hn)
  case noFerry => exact runs_of_onDev rfl hp (ferryReturn_idle ht)
  case ferryNoRun => exact runs_of_onDev rfl hp (ferryReturn_noRun ht hw hr)
  case ferryMerges => exact runs_of_onDev rfl hp (ferryReturn_merges ht hw hr)
  case noSkiff => exact runs_of_onDev rfl hp (skiffReturn_idle ht)
  case skiffNoRun => exact runs_of_onDev rfl hp (skiffReturn_noRun ht hw hr)
  case skiffMerges => exact runs_of_onDev rfl hp (skiffReturn_merges ht hw hr)
  case noWindow => exact runs_of_onDev rfl hp (returnWindowClose_idle hf)
  case windowDone => exact runs_of_onDev rfl hp (returnWindowClose_done hf hc)
  case windowStays => exact runs_of_onDev rfl hp (returnWindowClose_stays hf hc)
  case noRun => exact runs_of_onDev rfl hp (branchDeadline_idle hr)
  case early => exact runs_of_onDev rfl hp (branchDeadline_early hr ht)
  case deadline => exact runs_of_onDev rfl hp (branchDeadline_reached hr ht hn)
  case fires => exact runs_of_onDev rfl hp rfl
  case claimEnds => exact runs_of_onDev rfl hp (adminStep_ends ha)
  case claim =>
    exact ⟨fun hl => runs_claimSpare_refused hp ha (claimTest_closed hl) (by decide),
      fun hl hs => runs_claimSpare_refused hp ha (claimTest_notSpare hl hs) (by decide),
      fun hl hs hc => runs_claimSpare_refused hp ha (claimTest_claimed hl hs hc) (by decide),
      fun hl hs hc hu => runs_claimSpare_refused hp ha (claimTest_inUse hl hs hc hu) (by decide),
      fun hl hs hc hu hf => runs_claimSpare_refused hp ha (claimTest_notFound hl hs hc hu hf) (by decide),
      fun hl hs hc hu hf => runs_of_onDev rfl hp
        ((claimSpare_eq s.dev).trans (adminStep_spareRun_accepted ha (claimTest_passes hl hs hc hu hf)))⟩
  case releaseEnds => exact runs_of_onDev rfl hp (adminStep_ends ha)
  case release =>
    exact ⟨fun hl => runs_releaseSpare_refused hp ha (releaseTest_closed hl) (by decide),
      fun hl hc => runs_of_onDev rfl hp
        ((releaseSpare_eq s.dev).trans (adminStep_spareRun_accepted ha (releaseTest_passes hl hc))),
      fun hl hc => runs_releaseSpare_refused hp ha (releaseTest_unclaimed hl hc) (by decide)⟩
  case noAcyclic => exact runs_of_onDev rfl hp (acyclicLaunch_idle hn)
  case acyclicWaits => exact runs_of_onDev rfl hp (acyclicLaunch_waits hq hr hm)
  case acyclicLeaves => exact runs_of_onDev rfl hp (acyclicLaunch_leaves hq hr hm)
  case noOwn => exact runs_of_onDev rfl hp (ownAcyclicReturn_idle ht)
  case ownDiscarded => exact runs_of_onDev rfl hp (ownAcyclicReturn_discards ht)
  case noNode => exact runs_of_onDev rfl hp (nodeAcyclicRx_idle ht)
  case notOwner => exact runs_of_onDev rfl hp (nodeAcyclicRx_notOwner ht hw ho)
  case wrongWindow => exact runs_of_onDev rfl hp (nodeAcyclicRx_wrongWindow ht hw ho hi)
  case duplicate => exact runs_of_onDev rfl hp (nodeAcyclicRx_duplicate ht hw ho hi hs)
  case delivered => exact runs_of_onDev rfl hp (nodeAcyclicRx_delivered ht hw ho hi hs he)
  case noQueue => exact runs_of_onDev rfl hp (nodeAcyclicRx_noQueue ht hw ho hi hs he)

end Sys2Proof.Proofs

/-!
PROOFS. Cargo's host hand-over and the reserved channels it runs on (R150, R154, R160 to R168, R454, R466): one equation
per case of each function of the model, and the statement assembled from them.
-/

namespace Sys2Proof.Proofs

open Sys2Proof.Machine Sys2Proof.Safety

variable {d : Device} {n slot oseq o cause : Nat} {v : Word} {bs : Bytes} {r : TenderRun}

/-! ### The fetch point (R162) -/

/-- The fetch point of crossing `n` has come, for the first time in it. -/
def FetchDue (n : Nat) (d : Device) : Prop :=
  handoverRuns d = true ∧ d.cargo.fetchPoint ≠ some n ∧
    boundaryT n d + nsT (d.rg F.CARGO_TIMING_FETCH_AT) ≤ d.xNow

/-- No fetch is at work, and its channel has not halted. -/
def FetchFree (d : Device) : Prop := d.cargo.fetch = .none ∧ (d.chan 0).st ≠ .halted

/-- Crossing `n` has passed its fetch point. -/
def fetchSeen (n : Nat) (d : Device) : Device := { d with cargo.fetchPoint := some n }

theorem fetchPoint_noCrossing (hc : d.cross.current = none) : fetchPoint d = d := by rw [fetchPoint, hc]

section FetchPoint

variable (hc : d.cross.current = some n)
include hc

theorem fetchPoint_notDue (h : ¬ FetchDue n d) : fetchPoint d = d := by
  simp only [fetchPoint, hc]
  exact if_pos (Classical.byContradiction fun hn => h (by simpa [FetchDue, and_assoc] using hn))

variable (h : FetchDue n d)
include h

/-- A fetch point that has come is passed, whatever becomes of its fetch. -/
theorem fetchPoint_due :
    fetchPoint d =
      if d.cargo.fetch ≠ .none ∨ (d.chan 0).st = .halted then fetchSeen n d
      else if !d.bme then handoverFail 0 (seqAddr d + 8) 1 none (fetchSeen n d)
      else tenderPump (reservedStart 0 none { fetchSeen n d with cargo.fetch := .seq n }) := by
  obtain ⟨hruns, hnew, hcome⟩ := h
  simp only [fetchPoint, hc]
  exact if_neg (by simp [hruns, hnew, hcome])

theorem fetchPoint_busy (hf : ¬ FetchFree d) : fetchPoint d = fetchSeen n d := by
  rw [fetchPoint_due hc h]
  exact if_pos (Classical.not_and_iff_not_or_not.1 hf |>.imp_right Classical.not_not.1)

variable (hf : FetchFree d)
include hf

theorem fetchPoint_free :
    fetchPoint d =
      if !d.bme then handoverFail 0 (seqAddr d + 8) 1 none (fetchSeen n d)
      else tenderPump (reservedStart 0 none { fetchSeen n d with cargo.fetch := .seq n }) := by
  rw [fetchPoint_due hc h]
  exact if_neg (not_or.2 ⟨Classical.not_not.2 hf.1, hf.2⟩)

theorem fetchPoint_noMaster (hb : d.bme = false) :
    fetchPoint d = handoverFail 0 (seqAddr d + 8) 1 none (fetchSeen n d) := by
  rw [fetchPoint_free hc h hf, if_pos (by rw [hb]; rfl)]

theorem fetchPoint_reads (hb : d.bme = true) :
    fetchPoint d = tenderPump (reservedStart 0 none { fetchSeen n d with cargo.fetch := .seq n }) := by
  rw [fetchPoint_free hc h hf, if_neg (by rw [hb]; decide)]

end FetchPoint

/-! ### OUT_SEQ (R162, R163) -/

/-- OUT_SEQ as read, `v`, is valid and names another image than the last one fetched. -/
def OutSeqNew (v : Word) (d : Device) : Prop :=
  bit v.toNat 63 = true ∧ d.cargo.lastOseq ≠ some (v.toNat % 2 ^ 32)

theorem outSeqReadDone_idle (h : handoverRuns d = false ∨ outSeqDue d = true ∨ ∀ n, d.cargo.fetch ≠ .seq n) :
    outSeqReadDone v d = d := by
  unfold outSeqReadDone
  split
  · next n hf =>
    refine if_pos ?_
    rcases h with h | h | h
    · rw [h]; rfl
    · rw [h, Bool.or_true]
    · exact absurd hf (h n)
  · rfl

section OutSeq

variable (hf : d.cargo.fetch = .seq n) (hr : handoverRuns d = true) (hd : outSeqDue d = false)
include hf hr hd

theorem outSeqReadDone_notNew (h : ¬ OutSeqNew v d) :
    outSeqReadDone v d =
      (reservedStop 0 { d with cargo.fetch := .none, cargo.ended := true }).count (cargoCnt 0x20) := by
  simp only [outSeqReadDone, hf, hr, hd, Bool.not_true, Bool.or_self, Bool.false_eq_true, if_false]
  exact if_pos (Classical.byContradiction fun hn => h (by simpa [OutSeqNew] using hn))

variable (h : OutSeqNew v d)
include h

theorem outSeqReadDone_new :
    outSeqReadDone v d =
      if d.rg F.CARGO_HOST_SLOTS_OUT_SLOTS ≤ bits v.toNat 39 32 then handoverFail 0 (seqAddr d + 8) 1 none d
      else tenderPump (reservedStart 0 (some (fetchDesc (bits v.toNat 39 32) d))
        { d with cargo.fetch := .image n (bits v.toNat 39 32) (v.toNat % 2 ^ 32) }) := by
  simp only [outSeqReadDone, hf, hr, hd, Bool.not_true, Bool.or_self, Bool.false_eq_true, if_false]
  exact if_neg (by rw [h.1, beq_eq_false_iff_ne.2 h.2]; decide)

theorem outSeqReadDone_noSlot (hs : d.rg F.CARGO_HOST_SLOTS_OUT_SLOTS ≤ bits v.toNat 39 32) :
    outSeqReadDone v d = handoverFail 0 (seqAddr d + 8) 1 none d := by
  rw [outSeqReadDone_new hf hr hd h, if_pos hs]

theorem outSeqReadDone_copies (hs : bits v.toNat 39 32 < d.rg F.CARGO_HOST_SLOTS_OUT_SLOTS) :
    outSeqReadDone v d = tenderPump (reservedStart 0 (some (fetchDesc (bits v.toNat 39 32) d))
      { d with cargo.fetch := .image n (bits v.toNat 39 32) (v.toNat % 2 ^ 32) }) := by
  rw [outSeqReadDone_new hf hr hd h, if_neg (Nat.not_le.2 hs)]

end OutSeq

/-! ### The bytes of the image (R150, R454) -/

/-- No image is being copied: the hand-over does not run, channel 0 has nothing to do, or the fetch is not that far. -/
def NoImage (d : Device) : Prop :=
  handoverRuns d = false ∨ (d.chan 0).run = none ∨ ∀ n k q, d.cargo.fetch ≠ .image n k q

theorem NoImage.not_runs (h : NoImage d) (hf : d.cargo.fetch = .image n slot oseq) (hrun : (d.chan 0).run = some r) :
    handoverRuns d = false := by
  rcases h with h | h | h
  · exact h
  · cases h.symm.trans hrun
  · exact absurd hf (h n slot oseq)

theorem fetchArrive_noImage (h : NoImage d) : fetchArrive o bs d = d := by
  unfold fetchArrive
  split
  · next hf hrun => exact if_pos (by rw [h.not_runs hf hrun]; rfl)
  · rfl

theorem fetchComplete_noImage (h : NoImage d) : fetchComplete bs d = d := by
  unfold fetchComplete
  split
  · next hf hrun => exact if_pos (by rw [h.not_runs hf hrun]; rfl)
  · rfl

/-- A completion of channel 0 brings bytes of the host image. -/
theorem runs_imageRead {s : State} {g : Device → Device} (hp : Powered s) (h : fetchArrive o bs s.dev = g s.dev) :
    Runs (.tenderReadComplete 0 false o bs) s g := runs_of_onDev rfl hp h

section Image

variable (hf : d.cargo.fetch = .image n slot oseq) (hrun : (d.chan 0).run = some r)
include hf hrun

theorem fetchArrive_uncovered (h : bs = [] ∨ readCovers false o bs.length r.reads = false) :
    fetchArrive o bs d = d := by
  simp only [fetchArrive, hf, hrun]
  refine if_pos ?_
  rcases h with h | h
  · rw [h, List.isEmpty_nil, Bool.or_true, Bool.true_or]
  · rw [h, Bool.not_false, Bool.or_true]

variable (hr : handoverRuns d = true)
include hr

/-- Bytes that a read in flight covers go into FILL, and the last of the image ends the fetch. -/
theorem fetchArrive_covered (hb : bs ≠ []) (hc : readCovers false o bs.length r.reads = true) :
    fetchArrive o bs d =
      let d := tenderDone 0 bs.length { r with reads := readArrive false o bs.length r.reads } d
      let d := { d with cargo.fill := { d.cargo.fill with mem := memPatch 0 d.cargo.fill.mem o bs } }
      if r.done + bs.length = d.rg F.CARGO_IMAGE_OUT_SIZE then fetchPromote n oseq d else tenderPump d := by
  simp only [fetchArrive, hf, hrun]
  exact if_neg (by simp [hr, hb, hc])

theorem fetchComplete_early
    (h : r.reqSrc ≠ d.rg F.CARGO_IMAGE_OUT_SIZE ∨ r.done + bs.length ≠ d.rg F.CARGO_IMAGE_OUT_SIZE) :
    fetchComplete bs d = d := by
  simp only [fetchComplete, hf, hrun]
  exact if_pos (by simpa [hr] using h)

theorem fetchComplete_last (hq : r.reqSrc = d.rg F.CARGO_IMAGE_OUT_SIZE)
    (hl : r.done + bs.length = d.rg F.CARGO_IMAGE_OUT_SIZE) :
    fetchComplete bs d =
      if d.rg F.CARGO_IMAGE_OUT_SIZE = 0 then fetchPromote n oseq d else fetchFeed bs.length bs d := by
  simp only [fetchComplete, hf, hrun]
  exact if_neg (by simp [hr, hq, hl])

end Image

/-! ### The confirming read of a snapshot (R165) -/

theorem snapshotConfirmed_idle {c : Nat}
    (h : handoverRuns d = false ∨ d.cargo.snap = none ∨ (d.chan 1).run = none ∨ c ≠ 1) :
    snapshotConfirmed c d = d := by
  unfold snapshotConfirmed
  split
  · next s r hs hrun =>
    refine if_pos ?_
    rcases h with h | h | h | h
    · exact .inr (.inl h)
    · cases h.symm.trans hs
    · cases h.symm.trans hrun
    · exact .inl h
  · rfl

section Snapshots

variable {snap : Snapshot} (hs : d.cargo.snap = some snap) (hrun : (d.chan 1).run = some r)
include hs hrun

theorem snapshotConfirmed_unread {c : Nat} (hc : r.confirming = false) : snapshotConfirmed c d = d := by
  simp only [snapshotConfirmed, hs, hrun]
  exact if_pos (.inr (.inr hc))

theorem snapshotConfirmed_ends (hr : handoverRuns d = true) (hc : r.confirming = true) :
    snapshotConfirmed 1 d = cpCondition 5 snap.crossing 0
      ((reservedDone 1 ({ d with cargo.snap := none, cargo.ended := true }.count (tenderCnt 1 8))).count
        (cargoCnt 0)) := by
  simp only [snapshotConfirmed, hs, hrun]
  exact if_neg (by simp [hr, hc])

end Snapshots

/-! ### Failed transfers (R168, R466) -/

/-- Host address `v` lies in a read in flight of the image in output slot `slot`. -/
def InImageRead (slot : Nat) (r : TenderRun) (v : Word) (d : Device) : Prop :=
  outSlotAddr slot d ≤ v.toNat ∧ readCovers false (v.toNat - outSlotAddr slot d) 1 r.reads = true

theorem handoverTransferFail_off {snapshot isMeta : Bool} (hr : handoverRuns d = false) :
    handoverTransferFail snapshot v isMeta cause d = d := if_pos (by rw [hr]; rfl)

section Failures

variable {isMeta : Bool} (hr : handoverRuns d = true)
include hr

theorem handoverTransferFail_noSnapshot (h : d.cargo.snap = none ∨ (d.chan 1).run = none) :
    handoverTransferFail true v isMeta cause d = d := by
  simp only [handoverTransferFail, hr, Bool.not_true, Bool.false_eq_true, if_false, if_true]
  split
  · next hs hrun => simp [hs, hrun] at h
  · rfl

theorem handoverTransferFail_snapshot {snap : Snapshot} (hs : d.cargo.snap = some snap)
    (hrun : (d.chan 1).run = some r) :
    handoverTransferFail true v isMeta cause d =
      if isMeta && r.confirming then handoverFail 1 (seqAddr d) 1 (some (errInfo cause 1 1 1 0)) d else d := by
  simp only [handoverTransferFail, hr, hs, hrun, Bool.not_true, Bool.false_eq_true, if_false, if_true]

theorem handoverTransferFail_noFetch (h : d.cargo.fetch = .none ∨ (d.chan 0).run = none) :
    handoverTransferFail false v isMeta cause d = d := by
  simp only [handoverTransferFail, hr, Bool.not_true, Bool.false_eq_true, if_false]
  split
  · next hf =>
    have hrun : (d.chan 0).run = none := h.resolve_left (by simp [hf])
    simp [outSeqFailed, hrun]
  · next hf hrun => simp [hf, hrun] at h
  · rfl

section SeqRead

variable (hf : d.cargo.fetch = .seq n)
include hf

theorem handoverTransferFail_seq :
    handoverTransferFail false v isMeta cause d = if isMeta then outSeqFailed cause d else d := by
  simp only [handoverTransferFail, hr, hf, Bool.not_true, Bool.false_eq_true, if_false]

variable (hrun : (d.chan 0).run = some r)
include hrun

theorem handoverTransferFail_seqDue (hm : r.metaDue = true) : handoverTransferFail false v isMeta cause d = d := by
  simp [handoverTransferFail_seq hr hf, outSeqFailed, hrun, hm]

variable (hm : r.metaDue = false)
include hm

theorem handoverTransferFail_seqRetries (ht : r.tries < d.rg F.TENDER_CFG_RETRY_MAX) :
    handoverTransferFail false v true cause d =
      ((d.setRun 0 { r with tries := r.tries + 1 }).count (tenderCnt 0 0x20)).emit (.hostRead (seqAddr d + 8) 8) := by
  simp [handoverTransferFail_seq hr hf, outSeqFailed, hrun, hm, ht]

theorem handoverTransferFail_seqFails (ht : d.rg F.TENDER_CFG_RETRY_MAX ≤ r.tries) :
    handoverTransferFail false v true cause d =
      handoverFail 0 (seqAddr d + 8) 1 (some (errInfo cause 2 0 0 0)) d := by
  simp [handoverTransferFail_seq hr hf, outSeqFailed, hrun, hm, Nat.not_lt.2 ht]

end SeqRead

section ImageRead

variable (hf : d.cargo.fetch = .image n slot oseq) (hrun : (d.chan 0).run = some r)
include hf hrun

theorem handoverTransferFail_image :
    handoverTransferFail false v isMeta cause d =
      if !isMeta && decide (outSlotAddr slot d ≤ v.toNat) && readCovers false (v.toNat - outSlotAddr slot d) 1 r.reads
      then handoverFail 0 v.toNat 0 (some (errInfo cause 1 0 0 (v.toNat - outSlotAddr slot d))) d
      else d := by
  simp only [handoverTransferFail, hr, hf, hrun, Bool.not_true, Bool.false_eq_true, if_false]

theorem handoverTransferFail_imageFails (h : InImageRead slot r v d) :
    handoverTransferFail false v false cause d =
      handoverFail 0 v.toNat 0 (some (errInfo cause 1 0 0 (v.toNat - outSlotAddr slot d))) d := by
  rw [handoverTransferFail_image hr hf hrun]
  exact if_pos (by simp [h.1, h.2])

theorem handoverTransferFail_outsideImage (h : ¬ InImageRead slot r v d) :
    handoverTransferFail false v false cause d = d := by
  rw [handoverTransferFail_image hr hf hrun]
  exact if_neg fun hc => h (by simpa [InImageRead] using hc)

end ImageRead

end Failures

/-! ### The error limit (R168) -/

/-- A crossing that failed has brought ERR_RUN to ERR_LIMIT. -/
def ErrLimitReached (d : Device) : Prop :=
  d.cargo.errDue = true ∧ d.rg F.CARGO_TIMING_ERR_LIMIT ≤ d.rg F.CARGO_ERR_INFO_ERR_RUN

theorem cargoErrLimit_reached (h : ErrLimitReached d) :
    cargoErrLimit d =
      if { d with cargo.errDue := false }.rb F.CARGO_STATUS_ATTACHED then
        evRaise 443 ((cargoDetach { d with cargo.errDue := false }).ru F.CARGO_STATUS_DETACHED_BY_ERROR 1)
      else { d with cargo.errDue := false } :=
  if_pos (by simp [h.1, h.2])

theorem cargoErrLimit_below
    (h : d.cargo.errDue = false ∨ d.rg F.CARGO_ERR_INFO_ERR_RUN < d.rg F.CARGO_TIMING_ERR_LIMIT) :
    cargoErrLimit d = d :=
  if_neg (by rcases h with h | h <;> simp [h])

/-! ### The reserved channels seen from the Tender (R454) -/

section Reserved

variable {s : State} {b : Nat} (hb : hostChan b = false)
include hb

theorem exec_tenderReadError_reserved (k : TenderReadKind) :
    exec (.tenderReadError b k cause) s = onDev (reservedError b k cause) s := by
  change execTenderReadError b k cause s = _
  simp [execTenderReadError, hb]

theorem exec_barrierReadDone_reserved : exec (.barrierReadDone b) s = onDev id s := by
  change execBarrierReadDone b s = _
  simp [execBarrierReadDone, hb, onDev]

/-- Of the reserved channels' reads, only those of channel 0's source bring bytes. -/
theorem exec_tenderReadComplete_reserved {dst : Bool} (h : b ≠ 0 ∨ dst = true) :
    exec (.tenderReadComplete b dst o bs) s = onDev id s := by
  have hn : ¬ (b = 0 ∧ dst = false) := fun ⟨hzero, hsrc⟩ => h.elim (· hzero) (Bool.eq_false_iff.1 hsrc)
  change execTenderReadComplete b dst o bs s = _
  simp only [execTenderReadComplete, hb, hn, onDev, Bool.false_eq_true, if_false, id]

end Reserved

/-! ### The statement -/

/-- Settles O56: the fetch from its fetch point to its last byte, the end of a snapshot, failed transfers, the error
limit and the commands that are kept for the boundary. -/
theorem handoverCommands : Obligations.HandoverCommands := by
  intro s n slot oseq b o cause v bs snap flag r k d c atPoint free new size retry rel inImage
  refine ⟨fun hp hc => ?noCrossing, fun hp hc => ⟨fun hn => ?notDue, fun ha hn => ?busy, fun ha hf hb => ?noMaster,
      fun ha hf hb => ?readsSeq⟩, fun hp h => ?seqIdle,
    fun hp hf hr hd => ⟨fun hn => ?notNew, fun hn hs => ?noSlot, fun hn hs => ?copies⟩,
    fun hp h => ⟨?completeIdle, ?arriveIdle⟩,
    fun hp hr hf hrun => ⟨fun h => ?uncovered, fun hb hc => ?covered, fun h => ?early, fun hq hl => ?last⟩,
    fun e => ?promotes, fun hp h => ?snapIdle,
    fun hp hr hs hrun => ⟨fun hc => ?snapUnread, fun hc => ?snapEnds⟩, fun hp hr => ?off,
    fun hp hr => ⟨fun h => ?noSnapshot, fun hs hrun => ⟨fun hc => ?confirmFails, fun hc => ?notConfirming, ?snapData⟩,
      fun h => ?noFetch, fun hf hrun hm => ?seqDue,
      fun hf hrun hm => ⟨fun ht => ?seqRetries, fun ht => ?seqFails, ?seqData⟩,
      fun hf hrun => ⟨fun hi => ?imageFails, fun hi => ?outsideImage, ?imageMeta⟩⟩,
    fun hb hp => ⟨?readError, ?barrier, fun h => ?readComplete⟩,
    fun hp hd hl => ⟨fun ha => ?detaches, fun ha => ?notAttached⟩, fun hp h => ?belowLimit,
    fun hl => ⟨?attach, ?detach⟩, fun hl hb => ?rearms, fun hl hb => ?rearmIdle⟩
  case noCrossing => exact runs_of_onDev rfl hp (fetchPoint_noCrossing hc)
  case notDue => exact runs_of_onDev rfl hp (fetchPoint_notDue hc hn)
  case busy => exact runs_of_onDev rfl hp (fetchPoint_busy hc ha hn)
  case noMaster => exact runs_of_onDev rfl hp (fetchPoint_noMaster hc ha hf hb)
  case readsSeq => exact runs_of_onDev rfl hp (fetchPoint_reads hc ha hf hb)
  case seqIdle => exact runs_of_onDev rfl hp (outSeqReadDone_idle h)
  case notNew => exact runs_of_onDev rfl hp (outSeqReadDone_notNew hf hr hd hn)
  case noSlot => exact runs_of_onDev rfl hp (outSeqReadDone_noSlot hf hr hd hn hs)
  case copies => exact runs_of_onDev rfl hp (outSeqReadDone_copies hf hr hd hn hs)
  case completeIdle => exact runs_of_onDev rfl hp (fetchComplete_noImage h)
  case arriveIdle => exact runs_imageRead hp (fetchArrive_noImage h)
  case uncovered => exact runs_imageRead hp (fetchArrive_uncovered hf hrun h)
  case covered => exact runs_imageRead hp (fetchArrive_covered hf hrun hr hb hc)
  case early => exact runs_of_onDev rfl hp (fetchComplete_early hf hrun hr h)
  case last => exact runs_of_onDev rfl hp (fetchComplete_last hf hrun hr hq hl)
  case promotes => rfl
  case snapIdle => exact runs_of_onDev rfl hp (snapshotConfirmed_idle h)
  case snapUnread => exact runs_of_onDev rfl hp (snapshotConfirmed_unread hs hrun hc)
  case snapEnds => exact runs_of_onDev rfl hp (snapshotConfirmed_ends hs hrun hr hc)
  case off => exact runs_of_onDev rfl hp (handoverTransferFail_off hr)
  case noSnapshot => exact runs_of_onDev rfl hp (handoverTransferFail_noSnapshot hr h)
  case confirmFails =>
    exact runs_of_onDev rfl hp ((handoverTransferFail_snapshot hr hs hrun).trans (if_pos (by simp [hc])))
  case notConfirming =>
    exact runs_of_onDev rfl hp ((handoverTransferFail_snapshot hr hs hrun).trans (if_neg (by simp [hc])))
  case snapData => exact runs_of_onDev rfl hp (handoverTransferFail_snapshot hr hs hrun)
  case noFetch => exact runs_of_onDev rfl hp (handoverTransferFail_noFetch hr h)
  case seqDue => exact runs_of_onDev rfl hp (handoverTransferFail_seqDue hr hf hrun hm)
  case seqRetries => exact runs_of_onDev rfl hp (handoverTransferFail_seqRetries hr hf hrun hm ht)
  case seqFails => exact runs_of_onDev rfl hp (handoverTransferFail_seqFails hr hf hrun hm ht)
  case seqData => exact runs_of_onDev rfl hp (handoverTransferFail_seq hr hf)
  case imageFails => exact runs_of_onDev rfl hp (handoverTransferFail_imageFails hr hf hrun hi)
  case outsideImage => exact runs_of_onDev rfl hp (handoverTransferFail_outsideImage hr hf hrun hi)
  case imageMeta => exact runs_of_onDev rfl hp (handoverTransferFail_image hr hf hrun)
  case readError => exact runs_of_onDev (exec_tenderReadError_reserved hb k) hp rfl
  case barrier => exact runs_of_onDev (exec_barrierReadDone_reserved hb) hp rfl
  case readComplete => exact runs_of_onDev (exec_tenderReadComplete_reserved hb h) hp rfl
  case detaches => exact runs_of_onDev rfl hp ((cargoErrLimit_reached ⟨hd, hl⟩).trans (if_pos ha))
  case notAttached =>
    exact runs_of_onDev rfl hp ((cargoErrLimit_reached ⟨hd, hl⟩).trans (if_neg (Bool.eq_false_iff.1 ha)))
  case belowLimit => exact runs_of_onDev rfl hp (cargoErrLimit_below h)
  case attach => exact runs_of_onHost rfl hl rfl
  case detach => exact runs_of_onHost rfl hl rfl
  case rearms => exact runs_of_onHost rfl hl (if_pos hb)
  case rearmIdle => exact runs_of_onHost rfl hl (if_neg (Bool.eq_false_iff.1 hb))

end Sys2Proof.Proofs

/-!
PROOFS. The redundancy unit (chapter 10): verify and respond frames with their timers and the rows of Table 10-2, and the
recovery of streams, where a sequence number that has passed is known from then on (R307).
-/

namespace Sys2Proof.Proofs

open Sys2Proof.Machine Sys2Proof.Safety

variable {d : Device} {p i q : Nat}

/-! ### Ports in RUN -/

theorem portRun_iff : d.portRun p = true ↔ (d.port p).st = .run := beq_iff_eq

theorem portRun_false_iff : d.portRun p = false ↔ (d.port p).st ≠ .run := by
  rw [← Bool.not_eq_true, portRun_iff]

theorem ne_fenced_of_portRun (h : d.portRun p = true) : (d.port p).st ≠ .fenced := by
  simp [portRun_iff.1 h]

/-! ### Verify and respond frames (R175, R298 to R300) -/

/-- The frame that Pilot sees in a verify or respond frame. -/
def mergeProbe (f : MergeFrame) : RxFrame :=
  { bytes := List.replicate 64 0, island := f.stamp.island, bitPos := f.stamp.bitPos }

section MergeFrames

variable {resp : Bool} {f : MergeFrame}

theorem mergeRx_fenced (h : (d.port f.port).st = .fenced) : mergeRx resp f d = d.count (pilotCnt f.port 0x30) :=
  if_pos h

theorem mergeRx_notRun (hf : (d.port f.port).st ≠ .fenced) (hr : d.portRun f.port = false) : mergeRx resp f d = d := by
  simp [mergeRx, hf, hr]

section Running

variable (hr : d.portRun f.port = true)
include hr

theorem mergeRx_disabled (he : d.rb F.REDUN_PE_CFG_ENABLE f.port = false) :
    mergeRx resp f d = frameDiscard f.port (mergeProbe f) false (d.count (peCnt f.port 0x10)) := by
  simp [mergeRx, ne_fenced_of_portRun hr, hr, he, mergeProbe]

variable (he : d.rb F.REDUN_PE_CFG_ENABLE f.port = true)
include he

theorem mergeRx_arm (ha : d.isArm f.port = true) :
    mergeRx resp f d = frameDiscard f.port (mergeProbe f) false (d.countIf resp (peCnt f.port 0x38)) := by
  simp [mergeRx, ne_fenced_of_portRun hr, hr, he, ha, mergeProbe]

variable (ha : d.isArm f.port = false)
include ha

theorem mergeRx_verify : mergeRx false f d = mergeSend f.port true d := by
  simp [mergeRx, ne_fenced_of_portRun hr, hr, he, ha]

theorem mergeRx_respond_awaited (hv : (d.port f.port).verify = .verifying) :
    mergeRx true f d = peRequest f.port .respond (d.count (peCnt f.port 0x38)) := by
  have hv' : ((d.count (peCnt f.port 0x38)).port f.port).verify = .verifying := hv
  simp [mergeRx, ne_fenced_of_portRun hr, hr, he, ha, hv']

theorem mergeRx_respond_unawaited (hv : (d.port f.port).verify ≠ .verifying) :
    mergeRx true f d = d.count (peCnt f.port 0x38) := by
  have hv' : ((d.count (peCnt f.port 0x38)).port f.port).verify ≠ .verifying := hv
  simp [mergeRx, ne_fenced_of_portRun hr, hr, he, ha, hv']

end Running

theorem mergeOut_respond : mergeOut p true d =
    ((d.setPort p { d.port p with gapEnd := d.raw + BitVec.ofNat 64 (byteTicks p 84 d),
                                  mergeEnd := d.raw + BitVec.ofNat 64 (byteTicks p 72 d) }).count (peCnt p 0x30)).emit
      (.respond p) := by
  simp only [mergeOut, if_true]

theorem mergeSend_leaves (hl : lineFree p d = true) (hm : (d.port p).mergeDue = []) :
    mergeSend p resp d = mergeOut p resp d := by
  simp [mergeSend, hl, hm]

theorem mergeSend_waits (h : lineFree p d = false ∨ (d.port p).mergeDue ≠ []) :
    mergeSend p resp d = d.setPort p { d.port p with mergeDue := (d.port p).mergeDue ++ [resp] } := by
  rcases h with h | h <;> simp [mergeSend, h]

end MergeFrames

/-! ### The rows of Table 10-2 -/

section Rows

variable (hv : (d.port p).verify = .verifying)
include hv

theorem peApply_respond_succeeds : peApply p .respond d = peChange p .succeeded d := if_pos hv

theorem peApply_timeout_sendsAgain (h : d.rg F.REDUN_PE_STATUS_ATTEMPTS p < d.rg F.REDUN_PE_CFG_VERIFY_LIMIT p) :
    peApply p .timeout d = peVerifySend p (d.radd F.REDUN_PE_STATUS_ATTEMPTS 1 p) := by
  simp [peApply, hv, h]

theorem peApply_timeout_fails (h : d.rg F.REDUN_PE_CFG_VERIFY_LIMIT p ≤ d.rg F.REDUN_PE_STATUS_ATTEMPTS p) :
    peApply p .timeout d = peChange p .failed d := by
  simp [peApply, hv, Nat.not_lt.2 h]

end Rows

/-! ### Stream registers and the reset timer (R308, R311) -/

@[simp] theorem stream_setStream_same (d : Device) (i : Nat) (x : Stream) : (d.setStream i x).stream i = x :=
  tabGet_tabSet_same ({} : Stream) x d.net.streams i

theorem frerExpire_due {t : Word} (ht : (d.stream i).timer = some t)
    (h : d.rg F.REDUN_STREAM_RCVY_RESET_US i * 800 < d.since t) :
    frerExpire i d = streamEvent F.REDUN_STATUS_FRER_RESET F.REDUN_EVT_EN_FRER_RESET 378 i
      ((d.setStream i { d.stream i with takeAny := true, timer := none }).count (streamCnt i 0x30)) := by
  simp [frerExpire, ht, h]

theorem frerExpire_idle {t : Word} (h : (d.stream i).timer = none ∨
    (d.stream i).timer = some t ∧ d.since t ≤ d.rg F.REDUN_STREAM_RCVY_RESET_US i * 800) : frerExpire i d = d := by
  rcases h with h | ⟨ht, h⟩
  · simp [frerExpire, h]
  · simp [frerExpire, ht, Nat.not_lt.2 h]

/-- A write of either register sets TAKE_ANY exactly when it leaves RECOVER and HISTORY_LEN not both as they were. -/
theorem streamCfgWrite_eq (rcvy : Bool) (v : Word) :
    streamCfgWrite i rcvy v d =
      let e := writeReg64 ((if rcvy then F.REDUN_STREAM_RCVY_RESET_US else F.REDUN_STREAM_CFG_TX_PORTS).addr i) v d
      if e.rg F.REDUN_STREAM_CFG_RECOVER i = d.rg F.REDUN_STREAM_CFG_RECOVER i ∧
          e.rg F.REDUN_STREAM_RCVY_HISTORY_LEN i = d.rg F.REDUN_STREAM_RCVY_HISTORY_LEN i then e
      else frerTakeAny i e := by
  simp only [streamCfgWrite, ne_eq, ← Decidable.not_and_iff_not_or_not, ite_not]

/-! ### The vector recovery algorithm (R307) -/

theorem bit_eq_testBit (v k : Nat) : bit v k = v.testBit k := by
  rw [Nat.testBit_eq_decide_div_mod_eq]
  rfl

theorem bit_zero_ones {h : Nat} (hh : 0 < h) : bit (2 ^ h - 1) 0 = true := by
  simp [bit_eq_testBit, hh]

theorem bit_add_two_pow {v k : Nat} (h : bit v k = false) : bit (v + 2 ^ k) k = true := by
  rw [bit_eq_testBit] at h ⊢
  rw [Nat.add_comm, Nat.testBit_two_pow_add_eq, h, Bool.not_false]

theorem bit_zero_or_one (v : Nat) : bit (v ||| 1) 0 = true := by
  simp [bit_eq_testBit]

theorem rg_countIf (c : Bool) (o : Nat) (f : Fld) (a b : Nat) : (d.countIf c o).rg f a b = d.rg f a b := by
  cases c <;> rfl

/-- How far sequence number `q` lies ahead of the last one that stream `x` took. -/
def seqDelta (q : Nat) (x : Stream) : Int := signedOf 16 ((q + 65536 - x.rcvySeq) % 65536)

theorem seqDelta_self {x : Stream} (h : x.rcvySeq = q) : seqDelta q x = 0 := by
  rw [seqDelta, h, Nat.add_sub_cancel_left]
  rfl

/-- The stream `x`, with a history of `h` bits, does not let `q` pass: it takes no number unseen, and `q` lies outside
the history or is marked in it. -/
def SeqKnown (h q : Nat) (x : Stream) : Prop :=
  x.takeAny = false ∧ (((h : Int) ≤ seqDelta q x ∨ seqDelta q x ≤ -(h : Int)) ∨
    seqDelta q x ≤ 0 ∧ bit x.history (-seqDelta q x).toNat = true)

/-- A number just taken is known when bit 0 of the history, which stands for it, is set. -/
theorem seqKnown_taken {h : Nat} {x : Stream} (ht : x.takeAny = false) (hq : x.rcvySeq = q)
    (hb : 0 < h → bit x.history 0 = true) : SeqKnown h q x := by
  rw [SeqKnown, seqDelta_self hq]
  refine ⟨ht, ?_⟩
  rcases Nat.eq_zero_or_pos h with rfl | hh
  · exact .inl (.inl (Int.le_refl 0))
  · exact .inr ⟨Int.le_refl 0, hb hh⟩

theorem frerVector_stops (h : SeqKnown (d.rg F.REDUN_STREAM_RCVY_HISTORY_LEN i) q (d.stream i)) :
    (frerVector i q d).1 = false := by
  obtain ⟨ht, h⟩ := h
  simp only [seqDelta] at h
  rw [frerVector]
  dsimp only
  rw [if_neg (Bool.eq_false_iff.1 ht)]
  split
  case isTrue => rfl
  case isFalse hin =>
    obtain ⟨hle, hbit⟩ := h.resolve_left hin
    rw [if_pos hle, if_pos hbit]

/-- What lets a number pass: the stream that it leaves knows the number. -/
theorem frerVector_passes (hp : (frerVector i q d).1 = true) :
    ∃ x e, frerVector i q d = frerPass i x e ∧
      e.rg F.REDUN_STREAM_RCVY_HISTORY_LEN i = d.rg F.REDUN_STREAM_RCVY_HISTORY_LEN i ∧
      SeqKnown (d.rg F.REDUN_STREAM_RCVY_HISTORY_LEN i) q x := by
  rw [frerVector] at hp ⊢
  dsimp only at hp ⊢
  split at hp
  case isTrue ht =>
    rw [if_pos ht]
    exact ⟨_, _, rfl, rfl, seqKnown_taken rfl rfl bit_zero_ones⟩
  case isFalse ht =>
    rw [if_neg ht]
    split at hp
    case isTrue => exact nomatch hp
    case isFalse hin =>
      rw [if_neg hin]
      split at hp
      case isTrue hle =>
        rw [if_pos hle]
        split at hp
        case isTrue => exact nomatch hp
        case isFalse hbit =>
          rw [if_neg hbit]
          exact ⟨_, _, rfl, rfl, Bool.eq_false_iff.2 ht, .inr ⟨hle, bit_add_two_pow (Bool.eq_false_iff.2 hbit)⟩⟩
      case isFalse hle =>
        rw [if_neg hle]
        exact ⟨_, _, rfl, rg_countIf _ _ _ _ _,
          seqKnown_taken (Bool.eq_false_iff.2 ht) rfl fun _ => bit_zero_or_one _⟩

theorem stream_frerPass (x : Stream) : (frerPass i x d).2.stream i = { x with timer := some d.raw } :=
  stream_setStream_same d i _

theorem frerVector_again (hp : (frerVector i q d).1 = true) : (frerVector i q (frerVector i q d).2).1 = false := by
  obtain ⟨x, e, heq, hlen, hk⟩ := frerVector_passes hp
  apply frerVector_stops
  rw [heq, stream_frerPass]
  change SeqKnown (e.rg F.REDUN_STREAM_RCVY_HISTORY_LEN i) q _
  rw [hlen]
  exact hk

/-! ### The statement -/

/-- Settles O45: a verify and a respond frame in the order in which the port looks at it, the timers, the rows of
Table 10-2, the writes of a stream's registers, and the vector algorithm applied twice. -/
theorem verificationAndRecovery : Obligations.VerificationAndRecovery := by
  intro s p i v t rcvy d q stamp f g arm on x y verified
  refine ⟨fun hp hr he ha hl hm => ?answered, fun hp hr he ha h => ?waits, fun hp hr he ha hv => ?awaited,
    fun hp hr he ha hv => ?unawaited, fun hp hr he ha => ⟨?armVerify, ?armRespond⟩,
    fun hp hr he => ⟨?offVerify, ?offRespond⟩, fun hp hf => ⟨?fencedVerify, ?fencedRespond⟩,
    fun hp hr hf => ⟨?downVerify, ?downRespond⟩, fun hp hv => ?timeout, fun hp hv => ?early,
    fun hl => ⟨?restart, ?cfgWrite⟩, fun hv => ⟨?succeeds, ?sendsAgain, ?fails⟩, fun hp ht h => ?resets,
    fun hp h => ?resetIdle, fun hl => ?streamWrite, fun hl => ⟨?genReset, ?rcvyReset⟩, ?passedOnce⟩
  case answered =>
    exact runs_of_onDev rfl hp
      ((mergeRx_verify (f := f) hr he ha).trans ((mergeSend_leaves hl hm).trans mergeOut_respond))
  case waits => exact runs_of_onDev rfl hp ((mergeRx_verify (f := f) hr he ha).trans (mergeSend_waits h))
  case awaited => exact runs_of_onDev rfl hp (mergeRx_respond_awaited hr he ha hv)
  case unawaited => exact runs_of_onDev rfl hp (mergeRx_respond_unawaited hr he ha hv)
  case armVerify => exact runs_of_onDev rfl hp (mergeRx_arm hr he ha)
  case armRespond => exact runs_of_onDev rfl hp (mergeRx_arm hr he ha)
  case offVerify => exact runs_of_onDev rfl hp (mergeRx_disabled hr he)
  case offRespond => exact runs_of_onDev rfl hp (mergeRx_disabled hr he)
  case fencedVerify => exact runs_of_onDev rfl hp (mergeRx_fenced hf)
  case fencedRespond => exact runs_of_onDev rfl hp (mergeRx_fenced hf)
  case downVerify => exact runs_of_onDev rfl hp (mergeRx_notRun hf hr)
  case downRespond => exact runs_of_onDev rfl hp (mergeRx_notRun hf hr)
  case timeout => exact runs_of_onDev rfl hp (if_pos hv)
  case early => exact runs_of_onDev rfl hp (if_neg hv)
  case restart | cfgWrite | genReset | rcvyReset => exact runs_of_onHost rfl hl rfl
  case succeeds => exact peApply_respond_succeeds hv
  case sendsAgain => exact peApply_timeout_sendsAgain hv
  case fails => exact peApply_timeout_fails hv
  case resets => exact runs_of_onDev rfl hp (frerExpire_due ht h)
  case resetIdle => exact runs_of_onDev rfl hp (frerExpire_idle h)
  case streamWrite => exact runs_of_onHost rfl hl (streamCfgWrite_eq rcvy v)
  case passedOnce => exact frerVector_again

end Sys2Proof.Proofs

/-!
PROOFS. The port state machine (Table 09-4): each command in the states in which it acts and in the others, the wake
detector and the pattern checker.
-/

namespace Sys2Proof.Proofs

open Sys2Proof.Machine Sys2Proof.Safety

variable {d : Device} {p r : Nat} {b : Bool}

/-! ### Locks and losses (R260, R262, R266, R267) -/

theorem portSeeks_iff : portSeeks p d = true ↔ (d.port p).st = .start ∨ (d.port p).st = .recovery := by
  simp [portSeeks]

theorem portSeeks_false_iff : portSeeks p d = false ↔ ¬ ((d.port p).st = .start ∨ (d.port p).st = .recovery) := by
  rw [← Bool.not_eq_true, portSeeks_iff]

/-- Port `p` as it enters RUN: the bits of a lock, trained or not, then RUN, verification and muster (R220, R267). -/
def portLocked (p : Nat) (trained : Bool) (d : Device) : Device :=
  let e := d.setPort p { d.port p with recoverFrom := none }
  let e := (e.ru F.PORT_STATE_SIGNAL 1 p).ru F.PORT_STATE_PCS_LOCK 1 p
  let e := (e.rub F.PORT_STATE_FEC_LOCK (e.rg F.PORT_MODE_FEC p != 0) p).ru F.PORT_STATE_HI_BER 0 p
  let an := e.rb F.PORT_MODE_AN_EN p
  let e := (e.rub F.PORT_STATE_AN_DONE an p).rub F.PORT_STATE_TRAINED (an && trained) p
  musterSend p (peInitial p (portTo p .run e))

theorem portLockAcquired_enters (hs : (d.port p).st = .start ∨ (d.port p).st = .recovery) (hr : refLost p d = false) :
    portLockAcquired p b d = portLocked p b d :=
  if_neg (by simp [portSeeks_iff.2 hs, hr])

theorem portLockAcquired_idle
    (h : ¬ ((d.port p).st = .start ∨ (d.port p).st = .recovery) ∨ refLost p d = true) : portLockAcquired p b d = d :=
  if_pos (by rcases h with h | h <;> simp [portSeeks_false_iff.2, h])

/-- Port `p` taken out of RUN by the loss of its link: counted, with LINK_DOWN, its 10 ms running where its reference is
present (R260, R266). -/
def linkLost (p : Nat) (training : Bool) (d : Device) : Device :=
  let e := (portTo p .recovery (d.setPort p { d.port p with training })).count (portCnt p 0xF0)
  portStatus p 1 (e.setPort p { e.port p with recoverFrom := if refLost p e then none else some e.raw })

theorem portLinkLost_run (h : (d.port p).st = .run) : portLinkLost p b d = linkLost p b d :=
  if_neg (by simp [portRun_iff.2 h])

/-- What the loss of lock clears. -/
def portUnlocked (p : Nat) (d : Device) : Device := (d.ru F.PORT_STATE_PCS_LOCK 0 p).ru F.PORT_STATE_FEC_LOCK 0 p

/-- What each cause of a lost link makes of a port in RUN (Table 09-4). -/
def linkFaulted (p : Nat) (d : Device) : LinkLoss → Device
  | .lossOfSignal => portLinkLost p false (portUnlocked p (d.ru F.PORT_STATE_SIGNAL 0 p))
  | .lossOfLock => portLinkLost p false (portUnlocked p d)
  | .highBer => portLinkLost p false (portStatus p 3 (d.ru F.PORT_STATE_HI_BER 1 p))
  | .partnerRestart =>
    portLinkLost p true (portUnlocked p ((d.ru F.PORT_STATE_AN_DONE 0 p).ru F.PORT_STATE_TRAINED 0 p))

theorem portLinkFault_run (h : (d.port p).st = .run) (cause : LinkLoss) :
    portLinkFault p cause d = linkFaulted p d cause := by
  rw [portLinkFault, if_neg (by simp [portRun_iff.2 h])]
  cases cause <;> rfl

theorem portLinkFault_idle (h : (d.port p).st ≠ .run) (cause : LinkLoss) : portLinkFault p cause d = d :=
  if_pos (by simp [portRun_false_iff.2 h])

section RecoveryTime

variable {t : Word}

theorem portRecoveryTimeout_due (hs : (d.port p).st = .recovery) (hf : (d.port p).recoverFrom = some t)
    (h : d.passedNs t 10000000 = true) :
    portRecoveryTimeout p d = portTo p .start (d.setPort p { d.port p with recoverFrom := none }) := by
  simp [portRecoveryTimeout, hs, hf, h]

theorem portRecoveryTimeout_early (hs : (d.port p).st = .recovery) (hf : (d.port p).recoverFrom = some t)
    (h : d.passedNs t 10000000 = false) : portRecoveryTimeout p d = d := by
  simp [portRecoveryTimeout, hs, hf, h]

theorem portRecoveryTimeout_idle (h : (d.port p).st ≠ .recovery ∨ (d.port p).recoverFrom = none) :
    portRecoveryTimeout p d = d := by
  unfold portRecoveryTimeout
  split
  case h_1 t hs hf => exact absurd h (by simp [hs, hf])
  case h_2 => rfl

end RecoveryTime

theorem anFail_restarts (hs : (d.port p).st = .start ∨ (d.port p).st = .recovery)
    (ha : d.rb F.PORT_MODE_AN_EN p = true) :
    anFail p d = negotiate p (portStatus p 6 (d.count (portCnt p 0xF8))) :=
  if_pos (by simp [portSeeks_iff.2 hs, ha])

theorem anFail_idle (h : ¬ ((d.port p).st = .start ∨ (d.port p).st = .recovery) ∨ d.rb F.PORT_MODE_AN_EN p = false) :
    anFail p d = d :=
  if_neg (by rcases h with h | h <;> simp [portSeeks_false_iff.2, h])

theorem refclkNetReturn_idle (h : tabGet false d.net.refLost r = false) : refclkNetReturn r d = d :=
  if_pos (by simp [h])

theorem refclkNetReturn_starts (h : tabGet false d.net.refLost r = true) :
    refclkNetReturn r d = (refPorts r).foldl (fun d p =>
      if (d.port p).st = .recovery then d.setPort p { d.port p with recoverFrom := some d.raw } else d)
      { d with net.refLost := tabSet false d.net.refLost r false } :=
  if_neg (by simp [h])

/-! ### The host's commands (R191, R266, R269) -/

theorem portRestart_starts (h : ((d.port p).st = .start ∨ (d.port p).st = .recovery) ∨ (d.port p).st = .run) :
    portRestart p d = portTo p .start (d.setPort p { d.port p with recoverFrom := none }) :=
  if_pos (by rwa [Bool.or_eq_true, portSeeks_iff, portRun_iff])

theorem portRestart_idle (h : ¬ (((d.port p).st = .start ∨ (d.port p).st = .recovery) ∨ (d.port p).st = .run)) :
    portRestart p d = d :=
  if_neg (by rwa [Bool.or_eq_true, portSeeks_iff, portRun_iff])

theorem portTestStop_idles (ht : (d.port p).st = .test) (hr : d.rg F.PILOT_ARM_CFG_ROLE p = 0) :
    portTestStop p d = portTo p .idle d := by
  simp [portTestStop, ht, hr]

theorem portTestStop_starts (ht : (d.port p).st = .test) (hr : d.rg F.PILOT_ARM_CFG_ROLE p ≠ 0) :
    portTestStop p d = portTo p .start d := by
  simp [portTestStop, ht, hr]

theorem portSleep_run (h : (d.port p).st = .run) :
    portSleep p d = (if sleepPermitted p d then portTo p .sleep else portStatus p 7) d := by
  rw [portSleep, if_neg (by simp [portRun_iff.2 h])]
  split <;> rfl

theorem portSleep_idle (h : (d.port p).st ≠ .run) : portSleep p d = d := if_pos (by simp [portRun_false_iff.2 h])

/-! ### The wake detector (R285 to R287) -/

section Wake

variable {k : Nat} {bs : Bytes}

theorem wakePatternMatch_wakes (hs : (d.port p).st = .sleep) (hw : wakesByPattern p d = true)
    (hm : ((List.range 8).find? fun k => wakeMatches p k bs d) = some k) :
    wakePatternMatch p bs d =
      portWakes p ((d.ru F.PORT_WAKE_CTRL_LAST_SIGNAL 0 p).ru F.PORT_WAKE_CTRL_LAST_PATTERN k p) := by
  simp [wakePatternMatch, hs, hw, hm]

theorem wakePatternMatch_unmatched (hm : ((List.range 8).find? fun k => wakeMatches p k bs d) = none) :
    wakePatternMatch p bs d = d := by
  rw [wakePatternMatch, hm]
  exact ite_self d

theorem wakePatternMatch_idle (h : (d.port p).st ≠ .sleep ∨ wakesByPattern p d = false) :
    wakePatternMatch p bs d = d := if_pos h

theorem wakeSignal_wakes (hs : (d.port p).st = .sleep) (hw : wakesByPattern p d = false)
    (ho : d.rb F.PORT_WAKE_CTRL_WAKE_ON_SIGNAL p = true) :
    wakeSignal p d = portWakes p (d.ru F.PORT_WAKE_CTRL_LAST_SIGNAL 1 p) := by
  simp [wakeSignal, hs, hw, ho]

end Wake

/-! ### The statement -/

/-- Settles O48: each command of Table 09-4 in the states in which it acts, and in the others. -/
theorem portStates : Obligations.PortStates := by
  intro s p n r k b cause t bs x seeks match_ unlock lost
  refine ⟨fun hp hs hr => ?locks, fun hp h => ?lockIdle, fun hp hx => ⟨?highBer, ?noSignal, ?noLock, ?partner, ?lost⟩,
    fun hp hx => ?faultIdle, fun hp hx hf => ⟨fun h => ?recoverDue, fun h => ?recoverEarly⟩,
    fun hp h => ?recoverIdle, fun hp hs ha => ?negotiates, fun hp h => ?negotiateIdle, fun hp => ?refLost,
    fun hp h => ?refBack, fun hp h => ?refHere, fun hl h => ?restarts, fun hl h => ?restartIdle,
    fun hl h => ?tests, fun hl h => ?testIdle, fun hl hx h => ?stopIdles, fun hl hx h => ?stopStarts,
    fun hl hx => ?stopIdle, fun hl hx => ?sleeps, fun hl hx => ?sleepIdle, fun hl hx => ?wakes,
    fun hl hx => ?wakeIdle, fun hp hx hw => ⟨fun hm => ?matched, fun hm => ?unmatched⟩, fun hp h => ?patternIdle,
    fun hp hx hw ho => ?signal, fun hp h => ?signalIdle, fun hp hx => ?checker, fun hp hx => ?checkerIdle⟩
  case locks => exact runs_of_onDev rfl hp (portLockAcquired_enters hs hr)
  case lockIdle => exact runs_of_onDev rfl hp (portLockAcquired_idle h)
  case highBer => exact runs_of_onDev rfl hp (portLinkFault_run hx .highBer)
  case noSignal => exact runs_of_onDev rfl hp (portLinkFault_run hx .lossOfSignal)
  case noLock => exact runs_of_onDev rfl hp (portLinkFault_run hx .lossOfLock)
  case partner => exact runs_of_onDev rfl hp (portLinkFault_run hx .partnerRestart)
  case lost => exact portLinkLost_run hx
  case faultIdle => exact runs_of_onDev rfl hp (portLinkFault_idle hx cause)
  case recoverDue => exact runs_of_onDev rfl hp (portRecoveryTimeout_due hx hf h)
  case recoverEarly => exact runs_of_onDev rfl hp (portRecoveryTimeout_early hx hf h)
  case recoverIdle => exact runs_of_onDev rfl hp (portRecoveryTimeout_idle h)
  case negotiates => exact runs_of_onDev rfl hp (anFail_restarts hs ha)
  case negotiateIdle => exact runs_of_onDev rfl hp (anFail_idle h)
  case refLost => exact runs_of_onDev rfl hp rfl
  case refBack => exact runs_of_onDev rfl hp (refclkNetReturn_starts h)
  case refHere => exact runs_of_onDev rfl hp (refclkNetReturn_idle h)
  case restarts => exact runs_of_onHost rfl hl (portRestart_starts h)
  case restartIdle => exact runs_of_onHost rfl hl (portRestart_idle h)
  case tests => exact runs_of_onHost rfl hl (if_pos h)
  case testIdle => exact runs_of_onHost rfl hl (if_neg (Bool.eq_false_iff.1 h))
  case stopIdles => exact runs_of_onHost rfl hl (portTestStop_idles hx h)
  case stopStarts => exact runs_of_onHost rfl hl (portTestStop_starts hx h)
  case stopIdle => exact runs_of_onHost rfl hl (if_pos hx)
  case sleeps => exact runs_of_onHost rfl hl (portSleep_run hx)
  case sleepIdle => exact runs_of_onHost rfl hl (portSleep_idle hx)
  case wakes => exact runs_of_onHost rfl hl (if_pos hx)
  case wakeIdle => exact runs_of_onHost rfl hl (if_neg hx)
  case matched => exact runs_of_onDev rfl hp (wakePatternMatch_wakes hx hw hm)
  case unmatched => exact runs_of_onDev rfl hp (wakePatternMatch_unmatched hm)
  case patternIdle => exact runs_of_onDev rfl hp (wakePatternMatch_idle h)
  case signal => exact runs_of_onDev rfl hp (wakeSignal_wakes hx hw ho)
  case signalIdle => exact runs_of_onDev rfl hp (if_pos h)
  case checker => exact runs_of_onDev rfl hp (if_pos hx)
  case checkerIdle => exact runs_of_onDev rfl hp (if_neg hx)

end Sys2Proof.Proofs

/-!
PROOFS. Reception on a port (chapters 06, 09 and 10): where a frame goes, what Pilot's verdict makes of it, MAC control
and standard frames, and the timers of flow control. One equation per case of each function, and the statement assembled
from them.
-/

namespace Sys2Proof.Proofs

open Sys2Proof.Machine Sys2Proof.Safety

variable {d e : Device} {p : Nat} {f g : RxFrame} {late : Bool}

/-! ### Where a frame goes (R189, R272, R298) -/

/-- The errors that the decoders counted write no register. -/
theorem rb_lineErrors (x : LineErrors) (fd : Fld) (i j : Nat) : (lineErrors p x d).rb fd i j = d.rb fd i j := by
  unfold lineErrors
  split <;> rfl

theorem frameReceive_fenced (h : (d.port p).st = .fenced) : frameReceive p f late d = d.count (pilotCnt p 0x30) :=
  if_pos h

theorem frameReceive_notRun (hf : (d.port p).st ≠ .fenced) (hr : d.portRun p = false) : frameReceive p f late d = d := by
  simp [frameReceive, hf, hr]

/-- What follows reassembly: a frame that it has made whole is received, and without one nothing more happens. -/
def reassembled (p : Nat) (late : Bool) : Option RxFrame × Device → Device
  | (none, e) => e
  | (some g, e) => frameWhole p g late e

section Running

variable (hr : d.portRun p = true)
include hr

theorem frameReceive_disabled (hd : f.delimiter ≠ .express) (he : d.rb F.REDUN_PE_CFG_ENABLE p = false) :
    frameReceive p f late d = frameDiscard p f late ((lineErrors p f.errors d).count (peCnt p 0x10)) := by
  simp [frameReceive, ne_fenced_of_portRun hr, hr, hd, rb_lineErrors, he]

/-- A frame that is not turned away goes through reassembly. -/
theorem frameReceive_reassembles (h : f.delimiter = .express ∨ d.rb F.REDUN_PE_CFG_ENABLE p = true) :
    frameReceive p f late d = reassembled p late (reassemble p f late (lineErrors p f.errors d)) := by
  have hok : ¬ (f.delimiter ≠ .express ∧ (lineErrors p f.errors d).rb F.REDUN_PE_CFG_ENABLE p = false) := by
    rcases h with h | h <;> simp [h, rb_lineErrors]
  rw [frameReceive, if_neg (ne_fenced_of_portRun hr), if_neg (by simp [hr])]
  exact if_neg hok

theorem frameReceive_unfinished (he : d.rb F.REDUN_PE_CFG_ENABLE p = true)
    (h : reassemble p f late (lineErrors p f.errors d) = (none, e)) : frameReceive p f late d = e := by
  rw [frameReceive_reassembles hr (.inr he), h, reassembled]

theorem frameReceive_whole (he : d.rb F.REDUN_PE_CFG_ENABLE p = true)
    (h : reassemble p f late (lineErrors p f.errors d) = (some g, e)) :
    frameReceive p f late d = frameWhole p g late e := by
  rw [frameReceive_reassembles hr (.inr he), h, reassembled]

theorem frameReceive_unknown (hd : f.delimiter = .unknown) (he : d.rb F.REDUN_PE_CFG_ENABLE p = true) :
    frameReceive p f late d = frameDiscard p f late ((lineErrors p f.errors d).count (peCnt p 0x10)) :=
  frameReceive_unfinished hr he (by rw [reassemble, hd])

theorem frameReceive_express (hd : f.delimiter = .express) :
    frameReceive p f late d = frameWhole p f late (lineErrors p f.errors d) := by
  rw [frameReceive_reassembles hr (.inl hd), reassemble, hd, reassembled]

end Running

/-! ### Pilot's verdict on a whole frame (R175, R179, R180) -/

theorem frameWhole_unjudged (h : pilotJudges p f.bytes d = false) :
    frameWhole p f late d = rxAdmitted p f false none false (rxStamp p f.island f.bitPos d) d := by
  simp [frameWhole, pilotVerdict, h]

section Judged

variable (hj : pilotJudges p f.bytes d = true)
include hj

theorem frameWhole_blocked (h : pilotJudge p (rxStamp p f.island f.bitPos d) d = (.block, e)) :
    frameWhole p f late d = rxBlocked p f (rxStamp p f.island f.bitPos d) e := by
  simp [frameWhole, pilotVerdict, hj, h]

theorem frameWhole_admitted (h : pilotJudge p (rxStamp p f.island f.bitPos d) d = (.admitted none, e)) :
    frameWhole p f late d = rxAdmitted p f true none false (rxStamp p f.island f.bitPos d) e := by
  simp [frameWhole, pilotVerdict, hj, h]

theorem frameWhole_window {w : Window} (h : pilotJudge p (rxStamp p f.island f.bitPos d) d = (.admitted (some w), e)) :
    frameWhole p f late d =
      let c := cutAt p f late w (rxStamp p f.island f.bitPos d) e
      rxAdmitted p c.2 true (some w) c.1 (rxStamp p f.island f.bitPos d) e := by
  simp [frameWhole, pilotVerdict, hj, h]

end Judged

/-! ### MAC control and standard frames (R272, R280, R282, R283) -/

/-- An unjudged frame of 14 bytes or more: what the port makes of every frame, and then a standard frame, unless it is a
MAC control frame that PASS_CTRL does not let through. -/
theorem rxAdmitted_unjudged {stamp : Stamp} (h : 14 ≤ f.bytes.length) :
    rxAdmitted p f false none false stamp d =
      let fl := rxFlags f (d.rg F.PORT_FRAME_MAX_FRAME p) false
      let bytes := f.bytes.take (d.rg F.PORT_FRAME_MAX_FRAME p)
      let r := macReceive p bytes f.bytes.length (byteEnd stamp (f.bytes.length - 1) (d.rate p)) fl d
      if isMacControl bytes && !r.2.rb F.PORT_FRAME_PASS_CTRL p then r.2
      else standardRx p bytes f.bytes.length r.1 stamp fl r.2 := by
  simp [rxAdmitted, admittedEnd, Nat.not_lt.2 h]

theorem macReceive_long {bytes : Bytes} {len : Nat} {last : Stamp} {fl : RxFlags} (h : 14 ≤ len) :
    macReceive p bytes len last fl d =
      let m := rxReport p bytes fl (macCount p bytes len fl d)
      (m.1, if !isMacControl bytes then m.2 else if fl.bad then m.2.count (portCnt p 0x68)
        else macControlRx p bytes last.count m.2) :=
  if_neg (Nat.not_lt.2 h)

theorem standardRx_noRoom {bytes : Bytes} {len st : Nat} {stamp : Stamp} {fl : RxFlags}
    (h : holdAdmits p (framePrio p bytes d) d = false) :
    standardRx p bytes len st stamp fl d = d.count (portCnt p 0x60) := by
  simp [standardRx, h]

section MacControl

variable {bytes : Bytes} {t : Word}

theorem macControlRx_pause (ho : beField bytes 14 2 = 1) (hm : d.rg F.PORT_FLOW_MODE p = 1) :
    macControlRx p bytes t d = pauseAct p bytes t (d.count (portCnt p 0x68)) :=
  if_pos ⟨ho, hm⟩

theorem macControlRx_pfc (ho : beField bytes 14 2 = 0x101) (hm : d.rg F.PORT_FLOW_MODE p = 2) :
    macControlRx p bytes t d = pfcAct p bytes t (d.count (portCnt p 0x68)) :=
  (if_neg fun h => absurd (ho.symm.trans h.1) (by decide)).trans (if_pos ⟨ho, hm⟩)

end MacControl

/-! ### The commands of reception -/

section Commands

variable {s : State}

/-- PORT_RX_FRAME and PILOT_CUT_OFF are one reception, on time and late. -/
theorem exec_reception :
    exec (if late then Instr.pilotCutOff p f else .portRxFrame p f) s = onDev (frameReceive p f late) s := by
  cases late <;> rfl

theorem exec_pauseFrameRx (h : (isMacControl f.bytes && beField f.bytes 14 2 == 1) = true) :
    exec (.pauseFrameRx p f) s = exec (.portRxFrame p f) s := by
  change execPauseFrameRx p f s = execPortRxFrame p f s
  simp only [execPauseFrameRx, execPortRxFrame, h, if_true]

theorem exec_pfcFrameRx (h : (isMacControl f.bytes && beField f.bytes 14 2 == 0x101) = true) :
    exec (.pfcFrameRx p f) s = exec (.portRxFrame p f) s := by
  change execPfcFrameRx p f s = execPortRxFrame p f s
  simp only [execPfcFrameRx, execPortRxFrame, h, if_true]

end Commands

/-! ### Flow-control timers (R281, R282) -/

section Pauses

variable {c : Nat} {t : Word}

theorem pauseTimerExpire_due (ht : tabGet none (d.port p).pauseEnd c = some t) (h : t.toNat ≤ d.raw.toNat) :
    pauseTimerExpire p c d =
      helmRetry (d.setPort p { d.port p with pauseEnd := tabSet none (d.port p).pauseEnd c none }) := by
  simp [pauseTimerExpire, ht, h]

theorem pauseTimerExpire_early (ht : tabGet none (d.port p).pauseEnd c = some t) (h : d.raw.toNat < t.toNat) :
    pauseTimerExpire p c d = d := by
  simp [pauseTimerExpire, ht, Nat.not_le.2 h]

theorem pauseTimerExpire_idle (ht : tabGet none (d.port p).pauseEnd c = none) : pauseTimerExpire p c d = d := by
  rw [pauseTimerExpire, ht]

end Pauses

/-! ### The statement -/

/-- Settles O49: a reception by the port's state, the delimiter and Pilot's verdict, what an unjudged frame becomes, and
the timers of flow control. -/
theorem reception : Obligations.Reception := by
  intro s p c f g late w t d e cmd run on a stamp pause pfc
  have up : run → Powered s := And.left
  have inRun : run → s.dev.portRun p = true := fun h => h.2.1
  refine ⟨fun hp hf => ?fenced, fun hp hf hr => ?notRun, fun hrun hd he => ?disabled, fun hrun hd he => ?unknown,
    fun hrun hd he => ⟨fun h => ?unfinished, fun h => ?whole⟩,
    fun hrun hd => ⟨fun h => ?unjudged, fun hj h => ?blocked, fun hj h => ?admitted, fun hj h => ?window⟩,
    exec_pauseFrameRx, exec_pfcFrameRx, fun hrun hd hj => ⟨fun h => ?pauseFrame, fun h => ?pfcFrame⟩,
    fun hp => ⟨fun h => ?notPause, fun h => ?notPfc⟩, fun h => ?admission, fun bytes len st fl h => ?noRoom,
    fun bytes => ⟨fun ho hm => ?pauses, fun ho hm => ?pausesSome⟩,
    fun hp ht => ⟨fun h => ?pauseOver, fun h => ?pauseRuns⟩, fun hp ht => ?noPause,
    fun hp h => ?noneDue, fun hp h => ?someDue⟩
  case fenced => exact runs_of_onDev exec_reception hp (frameReceive_fenced hf)
  case notRun => exact runs_of_onDev exec_reception hp (frameReceive_notRun hf hr)
  case disabled => exact runs_of_onDev exec_reception (up hrun) (frameReceive_disabled (inRun hrun) hd he)
  case unknown => exact runs_of_onDev exec_reception (up hrun) (frameReceive_unknown (inRun hrun) hd he)
  case unfinished => exact runs_of_onDev exec_reception (up hrun) (frameReceive_unfinished (inRun hrun) he h)
  case whole => exact runs_of_onDev exec_reception (up hrun) (frameReceive_whole (inRun hrun) he h)
  case unjudged =>
    exact runs_of_onDev exec_reception (up hrun)
      ((frameReceive_express (inRun hrun) hd).trans (frameWhole_unjudged h))
  case blocked =>
    exact runs_of_onDev exec_reception (up hrun)
      ((frameReceive_express (inRun hrun) hd).trans (frameWhole_blocked hj h))
  case admitted =>
    exact runs_of_onDev exec_reception (up hrun)
      ((frameReceive_express (inRun hrun) hd).trans (frameWhole_admitted hj h))
  case window =>
    exact runs_of_onDev exec_reception (up hrun)
      ((frameReceive_express (inRun hrun) hd).trans (frameWhole_window hj h))
  case pauseFrame =>
    exact runs_of_onDev (exec_pauseFrameRx h) (up hrun)
      ((frameReceive_express (inRun hrun) hd).trans (frameWhole_unjudged hj))
  case pfcFrame =>
    exact runs_of_onDev (exec_pfcFrameRx h) (up hrun)
      ((frameReceive_express (inRun hrun) hd).trans (frameWhole_unjudged hj))
  case notPause | notPfc => exact runs_of_onDev rfl hp (if_neg h)
  case admission => exact (rxAdmitted_unjudged h).trans (by simp only [macReceive_long h])
  case noRoom => exact standardRx_noRoom h
  case pauses => exact macControlRx_pause ho hm
  case pausesSome => exact macControlRx_pfc ho hm
  case pauseOver => exact runs_of_onDev rfl hp (pauseTimerExpire_due ht h)
  case pauseRuns => exact runs_of_onDev rfl hp (pauseTimerExpire_early ht h)
  case noPause => exact runs_of_onDev rfl hp (pauseTimerExpire_idle ht)
  case noneDue => exact runs_of_onDev rfl hp (if_pos h)
  case someDue => exact runs_of_onDev rfl hp (if_neg h)

end Sys2Proof.Proofs

/-!
PROOFS. Stamp records (R240 to R243) and the TIO pins (R245 to R250): one equation per case of each function of chapter
08's model, and the statements assembled from them.
-/

namespace Sys2Proof.Proofs

open Sys2Proof.Machine Sys2Proof.Safety

variable {d : Device} {i : Nat} {t : Int}

/-! ### Stamp records (R240 to R243) -/

/-- Raising an event writes no stamp record. -/
@[simp] theorem strec_evRaise (k : Nat) (d : Device) : (evRaise k d).strec = d.strec := by
  rw [evRaise_frame d k]

section Records

variable {kind source tag : Nat} {r : Stamp}

/-- The device once a record stands in the ring, before its event. -/
def strecStored (kind source tag : Nat) (r : Stamp) (d : Device) : Device :=
  let ring := tabSet [] d.strec.ring (d.rg F.RECKON_STREC_PROD_PROD % 4096) (strecWords kind source tag r d)
  ({ d with strec := { ring := ring, dropped := 0 } }.radd F.RECKON_STREC_PROD_PROD 1).count 0x62000

theorem strecWrite_full (h : strecUsed d = 4096) : strecWrite kind source tag r d = strecDrop d := if_pos h

theorem strecWrite_stores (h : strecUsed d ≠ 4096) :
    strecWrite kind source tag r d = evRaise 45 (strecStored kind source tag r d) := if_neg h

theorem strec_strecDrop : (strecDrop d).strec = { d.strec with dropped := d.strec.dropped + 1 } :=
  strec_evRaise 46 _

theorem strec_strecStored :
    (evRaise 45 (strecStored kind source tag r d)).strec =
      { ring := tabSet [] d.strec.ring (d.rg F.RECKON_STREC_PROD_PROD % 4096) (strecWords kind source tag r d),
        dropped := 0 } :=
  strec_evRaise 45 _

end Records

/-- A change of pins is an output only. -/
theorem rg_pinsGo (old : DevState) (f : Fld) (a b : Nat) : (pinsGo old d).rg f a b = d.rg f a b :=
  List.foldlRecOn (motive := fun e : Device => e.rg f a b = d.rg f a b) pinGroups _ rfl
    fun _ he _ _ => (apply_ite (fun x : Device => x.rg f a b) _ _ _).trans ((ite_self _).trans he)

/-- So is an instruction that takes the pins. -/
theorem rg_tapEnter (f : Fld) (a b : Nat) : (tapEnter d).rg f a b = d.rg f a b :=
  (apply_ite (fun x : Device => x.rg f a b) _ _ _).trans (ite_self _)

theorem rg_freshDevice (st : DevState) (f : Fld) (a b : Nat) : (freshDevice st d).rg f a b = f.reset := rfl

theorem rg_setTap (k : Nat) (f : Fld) (a b : Nat) : ({ d with tap := k } : Device).rg f a b = d.rg f a b := rfl

/-- After RESET_ASSERT every field reads its reset value (R519). -/
theorem rg_resetAssert {n : Nat} (hn : 100 ≤ n) (hp : ¬ (d.st = .off ∨ d.st = .reset)) (f : Fld) (a b : Nat) :
    (resetAssert n d).rg f a b = f.reset := by
  rw [resetAssert_powered hn hp, rg_tapEnter, rg_setTap, rg_pinsGo, rg_freshDevice]

/-! ### Arming and captures (R245, R246, R248) -/

section Arming

/-- Pin `i` is a beacon pin. -/
def IsBeacon (i : Nat) (d : Device) : Prop := d.rg F.RECKON_TIO_CFG_MODE i = 1 ∨ d.rg F.RECKON_TIO_CFG_MODE i = 2

/-- Pin `i` sends one pulse when armed: BEACON_ONCE. -/
def armOnce (i : Nat) (d : Device) : Bool := d.rg F.RECKON_TIO_CFG_MODE i == 1

/-- START of pin `i`, in units of 2^-16 ns. -/
def armStart (i : Nat) (d : Device) : Int :=
  u16Of (d.rg F.RECKON_TIO_START_S_SECONDS i) (d.rg F.RECKON_TIO_START_NS_NANOSECONDS i)
    (d.rg F.RECKON_TIO_START_NS_FRACTION i)

/-- PERIOD of pin `i`, in units of 2^-16 ns. -/
def armPeriod (i : Nat) (d : Device) : Int :=
  d.rg F.RECKON_TIO_PERIOD_NANOSECONDS i * 2 ^ 16 + d.rg F.RECKON_TIO_PERIOD_FRACTION i

/-- Pin `i` passes the checks of R246. -/
def armOk (i : Nat) (d : Device) : Bool := tioArmOk (armOnce i d) (armPeriod i d) (d.rg F.RECKON_TIO_CFG_WIDTH_NS i)

/-- The first target of pin `i` from now on. -/
def armFirst (i : Nat) (d : Device) : Option Int :=
  tioFirstTarget (armOnce i d) (armStart i d) (armPeriod i d) (d.now (d.tb (d.rg F.RECKON_TIO_CFG_TB i)))

/-- What a permitted ARM makes of pin `i` by its first target. -/
def armWith (i : Nat) (d : Device) : Option Int → Device
  | none => tioDisarm i d
  | some t =>
    (d.setPin i { d.pin i with start := armStart i d, period := armPeriod i d, next := some t }).ru
      F.RECKON_TIO_STATUS_ARMED 1 i

theorem tioArm_permitted (hb : IsBeacon i d) (ho : armOk i d = true) : tioArm i d = armWith i d (armFirst i d) :=
  (if_pos hb).trans (if_pos ho)

theorem tioArm_arms (hb : IsBeacon i d) (ho : armOk i d = true) (hf : armFirst i d = some t) :
    tioArm i d = armWith i d (some t) := by
  rw [tioArm_permitted hb ho, hf]

theorem tioArm_past (hb : IsBeacon i d) (ho : armOk i d = true) (hf : armFirst i d = none) :
    tioArm i d = tioDisarm i d := by
  rw [tioArm_permitted hb ho, hf, armWith]

theorem tioArm_rejected (hb : IsBeacon i d) (ho : armOk i d = false) :
    tioArm i d = evRaise (48 + i) ((tioDisarm i d).ru F.RECKON_TIO_STATUS_ARM_ERR 1 i) :=
  (if_pos hb).trans (if_neg (Bool.eq_false_iff.1 ho))

theorem tioArm_idle (hb : ¬ IsBeacon i d) : tioArm i d = d := if_neg hb

end Arming

section ModeWrites

variable {v : Word}

theorem tioModeWrite_sameMode
    (h : (writeReg64 (F.RECKON_TIO_CFG_MODE.addr i) v d).rg F.RECKON_TIO_CFG_MODE i = d.rg F.RECKON_TIO_CFG_MODE i) :
    tioModeWrite i v d = tioChange i (writeReg64 (F.RECKON_TIO_CFG_MODE.addr i) v) d := if_pos h

theorem tioModeWrite_otherMode
    (h : (writeReg64 (F.RECKON_TIO_CFG_MODE.addr i) v d).rg F.RECKON_TIO_CFG_MODE i ≠ d.rg F.RECKON_TIO_CFG_MODE i) :
    tioModeWrite i v d =
      tioDisarm i (tioChange i (writeReg64 (F.RECKON_TIO_CFG_MODE.addr i) v) (tioPulseOff i d)) := if_neg h

end ModeWrites

/-! ### Beacon edges (R246, R247) -/

section Beacons

/-- The time of the timebase of pin `i`. -/
def pinNow (i : Nat) (d : Device) : Int := d.now (d.tb (d.rg F.RECKON_TIO_CFG_TB i))

/-- Pin `i` is an armed beacon pin that is driven. -/
def BeaconReady (i : Nat) (d : Device) : Prop :=
  d.rb F.RECKON_TIO_STATUS_ARMED i = true ∧ IsBeacon i d ∧ tioDriven d.st = true

/-- The edge at target `t` of pin `i` is late: a jump carried the timebase past it, or a tick has gone by (R247). -/
abbrev BeaconLate (i : Nat) (t : Int) (d : Device) : Prop :=
  carriedPast (d.rg F.RECKON_TIO_CFG_TB i) (ofU16 t) d = true ∨
    ((d.dom (d.tb (d.rg F.RECKON_TIO_CFG_TB i))).cur.incr : Int) * 2 ^ 16 ≤ pinNow i d - ofU16 t

/-- Targets of the periodic pin `i` after `t` that have passed too. -/
def beaconPassed (i : Nat) (t : Int) (d : Device) : Nat :=
  ((pinNow i d - ofU16 t) / ofU16 (d.pin i).period).toNat

/-- The pulse for target `t` of pin `i` begins, and the pin takes its next target. -/
def beaconBegins (i : Nat) (t : Int) (d : Device) : Device :=
  if d.rg F.RECKON_TIO_CFG_MODE i = 1 then tioPulse i true (d.setPin i { d.pin i with next := none })
  else tioPulse i false (d.setPin i
    { d.pin i with next := some (t + (d.pin i).period * (beaconPassed i t d + 1 : Nat)) })

/-- A late edge is reported. -/
def beaconReports (i : Nat) (t : Int) (d e : Device) : Device :=
  evRaise (48 + i) ((e.ru F.RECKON_TIO_STATUS_LATE 1 i).rsat F.RECKON_TIO_STATUS_MISSED
    (if d.rg F.RECKON_TIO_CFG_MODE i = 1 then 0 else beaconPassed i t d) i)

theorem beaconEdge_none (h : (d.pin i).next = none) : beaconEdge i d = d := by
  simp [beaconEdge, h]

variable (ht : (d.pin i).next = some t)
include ht

theorem beaconEdge_early (h : pinNow i d < ofU16 t) : beaconEdge i d = d := by
  have hn : ¬ ofU16 t ≤ d.now (d.tb (d.rg F.RECKON_TIO_CFG_TB i)) := Int.not_le.2 h
  simp [beaconEdge, ht, hn]

theorem beaconEdge_notReady (h : ¬ BeaconReady i d) : beaconEdge i d = d := by
  rw [beaconEdge, ht]
  refine if_neg fun hc => h ?_
  simp only [Bool.and_eq_true, Bool.or_eq_true, beq_iff_eq] at hc
  obtain ⟨⟨⟨harmed, hmode⟩, hdriven⟩, hdue⟩ := hc
  exact ⟨harmed, hmode, hdriven⟩

variable (hr : BeaconReady i d) (hd : ofU16 t ≤ pinNow i d)
include hr hd

/-- An edge at its target begins the pulse, and is reported when it is late. -/
theorem beaconEdge_due :
    beaconEdge i d =
      if BeaconLate i t d then beaconReports i t d (beaconBegins i t d) else beaconBegins i t d := by
  obtain ⟨harmed, hmode, hdriven⟩ := hr
  have hdue : ofU16 t ≤ d.now (d.tb (d.rg F.RECKON_TIO_CFG_TB i)) := hd
  rcases hmode with hm | hm <;>
    simp [beaconEdge, ht, harmed, hm, hdriven, hdue, BeaconLate, beaconReports, beaconBegins, beaconPassed, pinNow]

theorem beaconEdge_onTime (hl : ¬ BeaconLate i t d) : beaconEdge i d = beaconBegins i t d :=
  (beaconEdge_due ht hr hd).trans (if_neg hl)

theorem beaconEdge_late (hl : BeaconLate i t d) : beaconEdge i d = beaconReports i t d (beaconBegins i t d) :=
  (beaconEdge_due ht hr hd).trans (if_pos hl)

end Beacons

/-! ### Ends of pulses (R246, R249, R256) -/

section Pulses

variable {r : Word}

theorem tioPulseEnd_none (h : (d.pin i).pulse = none) : tioPulseEnd i d = d := by
  rw [tioPulseEnd, h]

variable (hr : (d.pin i).pulse = some r)
include hr

theorem tioPulseEnd_early (h : d.passedNs r (d.rg F.RECKON_TIO_CFG_WIDTH_NS i) = false) : tioPulseEnd i d = d := by
  simp [tioPulseEnd, hr, h]

variable (h : d.passedNs r (d.rg F.RECKON_TIO_CFG_WIDTH_NS i) = true)
include h

theorem tioPulseEnd_ends (ho : (d.pin i).once = false) : tioPulseEnd i d = tioPulseOff i d := by
  simp [tioPulseEnd, hr, h, ho]

theorem tioPulseEnd_once (ho : (d.pin i).once = true) :
    tioPulseEnd i d = evRaise (48 + i) (tioOnceOver i (tioPulseOff i d)) := by
  simp [tioPulseEnd, hr, h, ho]

end Pulses

/-! ### The statements -/

/-- Settles O35: a write of a record into a full ring and into one with room; its event leaves the ring alone. -/
theorem stampRecordQueue : Obligations.StampRecordQueue := by
  intro kind source tag r d n
  refine ⟨fun h => ?full, fun h => ?room⟩
  case full =>
    have hw := strecWrite_full (kind := kind) (source := source) (tag := tag) (r := r) h
    have hs := (congrArg Device.strec hw).trans strec_strecDrop
    exact ⟨by rw [hs], by rw [hs], hw⟩
  case room =>
    have hw := strecWrite_stores (kind := kind) (source := source) (tag := tag) (r := r) h
    have hs := (congrArg Device.strec hw).trans strec_strecStored
    let ws := strecWords kind source tag r d
    rw [hs]
    exact ⟨tabGet_tabSet_same [] ws d.strec.ring n, fun k hk => tabGet_tabSet_other [] ws d.strec.ring n k hk, rfl, hw⟩

/-- Settles O34: a write of CONS on both sides of 4,096, one through PF1, and what RESET leaves of the counts. -/
theorem stampRecordConsWrites : Obligations.StampRecordConsWrites := by
  intro s v n pin a w x
  refine ⟨fun hl h => ?sets, fun hl h => ?ignored, fun hl hok ha => ?pf1, fun u hp hn hu => ?reset⟩
  case sets => exact runs_of_onHost rfl hl (if_pos h)
  case ignored => exact runs_of_onHost rfl hl (if_neg (Nat.not_le.2 h))
  case pf1 => exact runs_regWrite hl (regWrite_pf1_ignored hok ha)
  case reset =>
    obtain rfl : { s with dev := resetAssert n s.dev } = u := Host.Outcome.next.inj hu
    have hfresh := rg_resetAssert hn fun h => (not_powered_iff s).2 h hp
    exact ⟨hfresh F.RECKON_STREC_PROD_PROD 0 0, hfresh F.RECKON_STREC_CONS_CONS 0 0⟩

/-- Settles O36: configuration writes by whether MODE changes, ARM by the mode and the checks of R246, DISARM, and a
capture edge that is taken and one that is not. -/
theorem tioPins : Obligations.TioPins := by
  intro s i v t lvl once start period write written beacon first ok picked
  refine ⟨fun hl h => ?sameMode, fun hl h => ?otherMode, fun hl hb ho hf => ?arms, fun hl hb ho hf => ?past,
    fun hl hb ho => ?rejected, fun hl hb => ?armIdle, fun hl => ?disarms, fun hp h => ?captures, fun hp h => ?unseen⟩
  case sameMode => exact runs_of_onHost rfl hl (tioModeWrite_sameMode h)
  case otherMode => exact runs_of_onHost rfl hl (tioModeWrite_otherMode h)
  case arms => exact runs_of_onHost rfl hl (tioArm_arms hb ho hf)
  case past => exact runs_of_onHost rfl hl (tioArm_past hb ho hf)
  case rejected => exact runs_of_onHost rfl hl (tioArm_rejected hb ho)
  case armIdle => exact runs_of_onHost rfl hl (tioArm_idle hb)
  case disarms => exact runs_of_onHost rfl hl rfl
  case captures => exact runs_of_onDev rfl hp (if_pos h)
  case unseen => exact runs_of_onDev rfl hp (if_neg h)

/-- Settles O37: a beacon edge before its target, on a pin that is not ready, on time and late; the end of a pulse by
what kind of beacon began it. -/
theorem beaconsAndPulses : Obligations.BeaconsAndPulses := by
  intro s i t r p m mode ready late passed begin_
  refine ⟨fun hp hn => ?noTarget, fun hp ht h => ?early, fun hp ht h => ?notReady, fun hp ht hr hd h => ?onTime,
    fun hp ht hr hd h => ?late, fun hp hr h => ⟨fun ho => ?ends, fun ho => ?endsOnce⟩, fun hp hr h => ?lasts,
    fun hp hr => ?noPulse⟩
  case noTarget => exact runs_of_onDev rfl hp (beaconEdge_none hn)
  case early => exact runs_of_onDev rfl hp (beaconEdge_early ht h)
  case notReady => exact runs_of_onDev rfl hp (beaconEdge_notReady ht h)
  case onTime => exact runs_of_onDev rfl hp (beaconEdge_onTime ht hr hd h)
  case late => exact runs_of_onDev rfl hp (beaconEdge_late ht hr hd h)
  case ends => exact runs_of_onDev rfl hp (tioPulseEnd_ends hr h ho)
  case endsOnce => exact runs_of_onDev rfl hp (tioPulseEnd_once hr h ho)
  case lasts => exact runs_of_onDev rfl hp (tioPulseEnd_early hr h)
  case noPulse => exact runs_of_onDev rfl hp (tioPulseEnd_none hr)

end Sys2Proof.Proofs

/-!
PROOFS. Transmission on a port (chapters 08, 09, 10 and 12): what starts on a free line, what the end of a frame does,
timed launches, pre-emption, the shaper's register and the sample rounds.
-/

namespace Sys2Proof.Proofs

open Sys2Proof.Machine Sys2Proof.Safety

variable {d : Device} {p c : Nat} {t : TxNow} {f : TxFrame}

/-! ### What starts on a free line (R353, Table 12-1) -/

theorem frameTxStart_idle {island : Stamp} {bitPos : Nat} (h : d.portRun p = false ∨ lineFree p d = false) :
    frameTxStart p island bitPos d = d :=
  if_pos (by rcases h with h | h <;> simp [h])

/-- The PAUSE or PFC frame `b` takes the line of port `p`, with the stamp `r`. -/
def ctrlStarts (p : Nat) (b : Bytes) (rest : List Bytes) (r : Stamp) (d : Device) : Device :=
  let n : TxNow := { frame := { bytes := b, flow := 0 }, cls := none, bytes := withFcs b, stamp := r, from_ := r }
  d.setPort p { d.port p with ctrlDue := rest, now := some n }

section Starts

-- `w` is the device once the own frame on the line and the verification rows that waited for it are done.
variable {island : Stamp} {bitPos : Nat} {resp : Bool} {more : List Bool} {b : Bytes} {rest : List Bytes} {w : Device}
  (hr : d.portRun p = true) (hf : lineFree p d = true) (hw : peSettle p (ownDone p d) = w)
include hr hf hw

theorem frameTxStart_merge (hm : (w.port p).mergeDue = resp :: more) (h : reachesLaunch p 64 w = false) :
    frameTxStart p island bitPos d = mergeOut p resp (w.setPort p { w.port p with mergeDue := more }) := by
  simp [frameTxStart, hr, hf, hw, hm, h]

theorem frameTxStart_mergeWaits (hm : (w.port p).mergeDue = resp :: more) (h : reachesLaunch p 64 w = true) :
    frameTxStart p island bitPos d = w := by
  simp [frameTxStart, hr, hf, hw, hm, h]

variable (hm : (w.port p).mergeDue = [])
include hm

theorem frameTxStart_ctrl (hc : (w.port p).ctrlDue = b :: rest) (h : reachesLaunch p (txLen b.length) w = false) :
    frameTxStart p island bitPos d = ctrlStarts p b rest (txStamp p island bitPos w) w := by
  simp [frameTxStart, hr, hf, hw, hm, hc, h, ctrlStarts]

/-- With no frame of the port's own that may start, an uplink turns to its classes. -/
theorem frameTxStart_turns (hc : (w.port p).ctrlDue = [] ∨
    (w.port p).ctrlDue = b :: rest ∧ reachesLaunch p (txLen b.length) w = true) :
    frameTxStart p island bitPos d =
      if w.isUplink p then startFromClasses p (txStamp p island bitPos w) w else w := by
  rcases hc with hc | ⟨hc, h⟩
  · simp [frameTxStart, hr, hf, hw, hm, hc]
  · simp [frameTxStart, hr, hf, hw, hm, hc, h]

end Starts

section Classes

-- `g` is the device once the heads that stand in their guard band are counted.
variable {g : Device} {r : Stamp} (hg : guardWaits p d = g)
include hg

theorem startFromClasses_express (h : pickClass p false g = some (c, f)) :
    startFromClasses p r d = startClass p c f r g := by
  unfold startFromClasses
  simp only [hg, h]

variable (he : pickClass p false g = none)
include he

theorem startFromClasses_resumes {k : TxNow} (hk : (g.port p).held = some k) (h : heldMay p g = some t) :
    startFromClasses p r d = g.setPort p { g.port p with held := none, now := some { t with from_ := r } } := by
  unfold startFromClasses
  simp only [hg, he, hk, h]

theorem startFromClasses_heldWaits {k : TxNow} (hk : (g.port p).held = some k) (h : heldMay p g = none) :
    startFromClasses p r d = g := by
  unfold startFromClasses
  simp only [hg, he, hk, h]

variable (hk : (g.port p).held = none)
include hk

theorem startFromClasses_preemptable (h : pickClass p true g = some (c, f)) :
    startFromClasses p r d = startClass p c f r g := by
  unfold startFromClasses
  simp only [hg, he, hk, h]

theorem startFromClasses_none (h : pickClass p true g = none) : startFromClasses p r d = g := by
  unfold startFromClasses
  simp only [hg, he, hk, h]

end Classes

/-! ### Pre-emption (R295, R375) -/

section Cuts

variable {fr : Nat}

/-- How many bytes of `t` have left when its fragment would end, `fr` 2^-16 ticks into this tick (R295). -/
def cutAt (p : Nat) (t : TxNow) (fr : Nat) (d : Device) : Nat :=
  max (sentBytes p t (if t.due then 0 else fr) d) (t.sent + (64 * (1 + d.rg F.REDUN_PE_CFG_ADD_FRAG_SIZE p) - 4))

/-- R295 permits `t` to be cut there. -/
def MayCut (p : Nat) (t : TxNow) (fr : Nat) (d : Device) : Prop :=
  t.pe = true ∧ cutAt p t fr d ≤ sentBytes p t 65535 d ∧ cutAt p t fr d + 64 ≤ t.bytes.length

theorem fragAt_of_mayCut (h : MayCut p t fr d) : fragAt p t fr d = some (cutAt p t fr d) := if_pos h

theorem fragAt_of_not_mayCut (h : ¬ MayCut p t fr d) : fragAt p t fr d = none := if_neg h

theorem closesFor_iff : closesFor p t c d = true ↔ t.cls = some c ∧ (inGuard p c true d || !gateOpen p c d) = true := by
  rw [closesFor, Bool.and_eq_true, beq_iff_eq]

theorem preempt_none (hn : (d.port p).now = none) : preempt p fr d = d := by
  simp only [preempt, hn]

theorem preemptAtClose_none (hn : (d.port p).now = none) : preemptAtClose p c fr d = d := by
  simp only [preemptAtClose, hn]

variable (hn : (d.port p).now = some t)
include hn

theorem preempt_cuts (hm : MayCut p t fr d) (hw : wantsLine p t fr d = true) :
    preempt p fr d = fragEnd p t (cutAt p t fr d) d := by
  simp [preempt, hn, fragAt_of_mayCut hm, hw]

theorem preempt_goesOn (h : ¬ (MayCut p t fr d ∧ wantsLine p t fr d = true)) : preempt p fr d = d := by
  by_cases hm : MayCut p t fr d
  · have hw : ¬ wantsLine p t fr d = true := fun hw => h ⟨hm, hw⟩
    simp [preempt, hn, fragAt_of_mayCut hm, hw]
  · simp [preempt, hn, fragAt_of_not_mayCut hm]

theorem preemptAtClose_cuts (hm : MayCut p t fr d) (hc : closesFor p t c d = true) :
    preemptAtClose p c fr d = (fragEnd p t (cutAt p t fr d) d).count (helmCnt p c 8) := by
  simp [preemptAtClose, hn, fragAt_of_mayCut hm, hc]

theorem preemptAtClose_goesOn (h : ¬ (MayCut p t fr d ∧ closesFor p t c d = true)) : preemptAtClose p c fr d = d := by
  by_cases hm : MayCut p t fr d
  · have hc : ¬ closesFor p t c d = true := fun hc => h ⟨hm, hc⟩
    simp [preemptAtClose, hn, fragAt_of_mayCut hm, hc]
  · simp [preemptAtClose, hn, fragAt_of_not_mayCut hm]

end Cuts

/-! ### The end of a frame (R429) -/

section Ends

/-- A frame that has been due to be pre-empted is judged as it stands. -/
theorem setDue_self (h : t.due = true) : { t with due := true } = t := by rw [← h]

theorem frameTxEnd_none (hn : (d.port p).now = none) : frameTxEnd p d = peSettle p (ownDone p d) := by
  simp only [frameTxEnd, hn]

variable (hn : (d.port p).now = some t)
include hn

theorem frameTxEnd_due (hd : t.due = true) : frameTxEnd p d = (preemptStood p t d d).getD (frameLeft p t d) := by
  simp only [frameTxEnd, hn, hd, if_true]

theorem frameTxEnd_wanted (hd : t.due = true) (hm : MayCut p t 0 d) (hw : wantsLine p t 0 d = true) :
    frameTxEnd p d = fragEnd p t (cutAt p t 0 d) d := by
  rw [frameTxEnd_due hn hd, preemptStood, setDue_self hd, fragAt_of_mayCut hm]
  simp [hw]

theorem frameTxEnd_closes (hd : t.due = true) (hm : MayCut p t 0 d) (hw : ¬ wantsLine p t 0 d = true)
    (hc : closesFor p t c d = true) :
    frameTxEnd p d = (fragEnd p t (cutAt p t 0 d) d).count (helmCnt p c 8) := by
  have hcls : t.cls = some c := (closesFor_iff.1 hc).1
  rw [frameTxEnd_due hn hd, preemptStood, setDue_self hd, fragAt_of_mayCut hm]
  simp [hw, hcls, hc]

theorem frameTxEnd_leaves
    (h : t.due = false ∨ ¬ MayCut p t 0 d ∨ ¬ wantsLine p t 0 d = true ∧ ∀ k, closesFor p t k d = false) :
    frameTxEnd p d = frameLeft p t d := by
  cases hd : t.due
  case false => simp [frameTxEnd, hn, hd]
  case true =>
    rw [frameTxEnd_due hn hd, preemptStood, setDue_self hd]
    by_cases hm : MayCut p t 0 d
    · obtain ⟨hw, hc⟩ : ¬ wantsLine p t 0 d = true ∧ ∀ k, closesFor p t k d = false := by simpa [hd, hm] using h
      cases t.cls <;> simp [fragAt_of_mayCut hm, hw, hc]
    · simp [fragAt_of_not_mayCut hm]

end Ends

/-! ### Timed launches (R251 to R253) -/

section Launches

variable {pre post l : List TxFrame} {x : SendCtx} {skew : Nat}

/-- The launch time of the frame `e` has come. -/
def LaunchCome (d : Device) (e : TxFrame) : Prop :=
  ∃ k, e.ctx = some k ∧ nsT k.launchTime ≤ d.now (d.tb k.tb)

theorem reached_none (h : ∀ e ∈ l, ¬ LaunchCome d e) : reached l d = none := by
  rw [reached, List.findSome?_eq_none_iff]
  intro e he
  cases hx : e.ctx with
  | none => rfl
  | some k => exact if_neg fun hk => h e he ⟨k, hx, hk⟩

theorem reached_first (hpre : ∀ e ∈ pre, ¬ LaunchCome d e) (hx : f.ctx = some x) (hf : LaunchCome d f) :
    reached (pre ++ f :: post) d = some (f, x) := by
  obtain ⟨k, hk, hcome⟩ := hf
  obtain rfl : x = k := Option.some.inj (hx.symm.trans hk)
  have hnone := reached_none hpre
  rw [reached] at hnone ⊢
  rw [List.findSome?_append, hnone, Option.none_or]
  simp [hx, hcome]

/-- Port `p` with the frame `f` taken off its launch list. -/
def launchTaken (p : Nat) (f : TxFrame) (d : Device) : Device :=
  d.setPort p { d.port p with launch := (d.port p).launch.erase f }

/-- The frame `f` launches on the free line of port `p`, at its launch time (R233, R252). -/
def launches (p skew : Nat) (f : TxFrame) (x : SendCtx) (d : Device) : Device :=
  let e := peSettle p (ownDone p d)
  let k := launchAt skew (launchUnits (e.tb x.tb) (nsT x.launchTime) e)
  let o := txFinal f k e
  let n : TxNow := { frame := f, cls := none, bytes := o.1, stamp := k, from_ := k, skips := o.2.1 }
  refill p ((o.2.2.setPort p { o.2.2.port p with now := some n }).count (stampCnt p 8))

/-- The frame `f` is too late, or its line is not free (R252). -/
abbrev LaunchLate (p : Nat) (f : TxFrame) (x : SendCtx) (d : Device) : Prop :=
  nsT 2 < d.now (d.tb x.tb) - nsT x.launchTime ∨ lineFree p (launchTaken p f d) = false

/-- The first listed frame whose time has come is past its launch or leaves. -/
theorem timedLaunch_listed (h : reached (d.port p).launch d = some (f, x)) :
    timedLaunch p skew d =
      if LaunchLate p f x d then refill p (timedPast p f (launchTaken p f d))
      else launches p skew f x (launchTaken p f d) := by
  simp only [timedLaunch, h]
  rfl

theorem timedLaunch_unlisted (h : reached (d.port p).launch d = none)
    (hw : reached ((d.port p).waits.map (·.2)) d = some (f, x)) :
    timedLaunch p skew d =
      timedPast p f (d.setPort p { d.port p with waits := (d.port p).waits.filter fun w => w.2 != f }) := by
  simp only [timedLaunch, h, hw]

theorem timedLaunch_idle (h : ∀ e ∈ (d.port p).launch ++ (d.port p).waits.map (·.2), ¬ LaunchCome d e) :
    timedLaunch p skew d = d := by
  have hl := reached_none fun e he => h e (List.mem_append_left _ he)
  have hw := reached_none fun e he => h e (List.mem_append_right _ he)
  simp only [timedLaunch, hl, hw]

end Launches

/-! ### Sample rounds (R377) -/

/-- A sample round is due. -/
def SampleDue (d : Device) : Prop :=
  d.rb F.HELM_SAMPLE_CFG_ENABLE = true ∧ d.rung = 0 ∧ samplePeriod d ≠ 0 ∧
    d.passedNs d.net.sampleAt (samplePeriod d) = true

theorem sampleDue_iff : (d.rb F.HELM_SAMPLE_CFG_ENABLE && decide (d.rung = 0 ∧ samplePeriod d ≠ 0) &&
    d.passedNs d.net.sampleAt (samplePeriod d)) = true ↔ SampleDue d := by
  rw [Bool.and_eq_true, Bool.and_eq_true, decide_eq_true_iff, SampleDue, and_assoc, and_assoc]

theorem sampleRound_samples (h : SampleDue d) :
    sampleRound d = (List.range 32).foldl (fun d p => (List.range 8).foldl (fun d c =>
      if d.rb F.HELM_CLASS_CFG_SAMPLE_EN p c then sampleWrite p c d else d) d) { d with net.sampleAt := d.raw } :=
  if_pos (sampleDue_iff.2 h)

theorem sampleRound_idle (h : ¬ SampleDue d) : sampleRound d = d := if_neg fun hd => h (sampleDue_iff.1 hd)

/-! ### The statement -/

/-- Settles O46: what starts on a line by the rows of Table 12-1, the end of a frame by whether it was due to be cut,
timed launches by the first frame whose time has come, cuts, and the two commands of Helm's registers. -/
theorem transmission : Obligations.Transmission := by
  intro s p c skew frac block b rest resp more f pre post x t h v y w z g r free classes come u late least cut may shut
    wanted closing left due
  have turns (hc : classes) : frameTxStart p block.island block.bitPos s.dev = startFromClasses p r w := by
    obtain ⟨⟨hp, hr, hf⟩, hu, hm, hc⟩ := hc
    exact (frameTxStart_turns hr hf rfl hm hc).trans (if_pos hu)
  have firstCome {l : List TxFrame} {k : SendCtx} (hl : l = pre ++ f :: post) (hpre : ∀ e ∈ pre, ¬ come e)
      (hk : f.ctx = some k) (hf : come f) : reached l s.dev = some (f, k) := hl ▸ reached_first hpre hk hf
  refine ⟨fun hp h => ?idle, fun ⟨hp, hr, hf⟩ hm => ⟨fun h => ?merge, fun h => ?mergeWaits⟩,
    fun ⟨hp, hr, hf⟩ hm hc h => ?ctrl, fun ⟨hp, hr, hf⟩ hm hu hc => ?branch, fun hc h => ?express,
    fun hc he hk => ⟨fun h => ?resumes, fun h => ?heldWaits⟩, fun hc he hk => ⟨fun h => ?preemptable, fun h => ?nothing⟩,
    fun hp hn h => ?leaves, fun hp hn hd hm hw => ?endWanted, fun hp hn hd hm hw hc => ?endCloses,
    fun hp hn => ?endNone, fun hp h => ?notCome,
    fun hp hl hpre hx hf => ⟨fun h => ?tooLate, fun h => ?launches⟩, fun hp hl hw hpre hf => ?unlisted,
    fun hp hn hm hw => ?cuts, fun hp hn h => ?goesOn, fun hp hn hm hc => ?cutsAtClose, fun hp hn h => ?goesOnAtClose,
    fun hp hn => ⟨?preemptNone, ?closeNone⟩, fun hl => ?shaper, fun hp h => ?samples, fun hp h => ?sampleIdle⟩
  case idle => exact runs_of_onDev rfl hp (frameTxStart_idle h)
  case merge => exact runs_of_onDev rfl hp (frameTxStart_merge hr hf rfl hm h)
  case mergeWaits => exact runs_of_onDev rfl hp (frameTxStart_mergeWaits hr hf rfl hm h)
  case ctrl => exact runs_of_onDev rfl hp (frameTxStart_ctrl hr hf rfl hm hc h)
  case branch =>
    exact runs_of_onDev rfl hp ((frameTxStart_turns hr hf rfl hm hc).trans (if_neg (Bool.eq_false_iff.1 hu)))
  case express => exact runs_of_onDev rfl hc.1.1 ((turns hc).trans (startFromClasses_express rfl h))
  case resumes => exact runs_of_onDev rfl hc.1.1 ((turns hc).trans (startFromClasses_resumes rfl he hk h))
  case heldWaits => exact runs_of_onDev rfl hc.1.1 ((turns hc).trans (startFromClasses_heldWaits rfl he hk h))
  case preemptable => exact runs_of_onDev rfl hc.1.1 ((turns hc).trans (startFromClasses_preemptable rfl he hk h))
  case nothing => exact runs_of_onDev rfl hc.1.1 ((turns hc).trans (startFromClasses_none rfl he hk h))
  case leaves => exact runs_of_onDev rfl hp (frameTxEnd_leaves hn h)
  case endWanted => exact runs_of_onDev rfl hp (frameTxEnd_wanted hn hd hm hw)
  case endCloses => exact runs_of_onDev rfl hp (frameTxEnd_closes hn hd hm hw (closesFor_iff.2 hc))
  case endNone => exact runs_of_onDev rfl hp (frameTxEnd_none hn)
  case notCome => exact runs_of_onDev rfl hp (timedLaunch_idle h)
  case tooLate => exact runs_of_onDev rfl hp ((timedLaunch_listed (firstCome hl hpre hx hf)).trans (if_pos h))
  case launches => exact runs_of_onDev rfl hp ((timedLaunch_listed (firstCome hl hpre hx hf)).trans (if_neg h))
  case unlisted =>
    have ⟨k, hk, _⟩ := hf
    exact runs_of_onDev rfl hp (timedLaunch_unlisted (reached_none hl) (firstCome hw hpre hk hf))
  case cuts => exact runs_of_onDev rfl hp (preempt_cuts hn hm hw)
  case goesOn => exact runs_of_onDev rfl hp (preempt_goesOn hn h)
  case cutsAtClose => exact runs_of_onDev rfl hp (preemptAtClose_cuts hn hm (closesFor_iff.2 hc))
  case goesOnAtClose =>
    exact runs_of_onDev rfl hp (preemptAtClose_goesOn hn fun hc => h ⟨hc.1, closesFor_iff.1 hc.2⟩)
  case preemptNone => exact runs_of_onDev rfl hp (preempt_none hn)
  case closeNone => exact runs_of_onDev rfl hp (preemptAtClose_none hn)
  case shaper => exact runs_of_onHost rfl hl rfl
  case samples => exact runs_of_onDev rfl hp (sampleRound_samples h)
  case sampleIdle => exact runs_of_onDev rfl hp (sampleRound_idle h)

end Sys2Proof.Proofs

/-!
PROOFS. The commands of Compass (R329, R336, R341, R342, R347, R351): pass 2 of the recirculation queue, rule commands
that find another in progress, run or are rejected, and writes to the miss actions.
-/

namespace Sys2Proof.Proofs

open Sys2Proof.Machine Sys2Proof.Safety

variable {d : Device} {b : Bool} {i : Nat} {v : Word}

/-! ### Pass 2 (R336) -/

theorem recircPass2_empty (h : d.compass.queue = []) : recircPass2 d = d := by
  rw [recircPass2, h]

/-- What pass 2 makes of `q`, which has left the queue and been counted: the action word that its bank gives, and the
device once the bank that it pinned has had its chance to become free. -/
def pass2Lookup (q : Recirc) (d : Device) : Nat × Device :=
  let w := q.act1.toNat
  let base := (if bits w 63 62 = 1 then q.stop else 0) + 8 * bits w 54 44
  let k := parseFrom q.bytes base d 12 0 (if bit w 61 then q.stopNode else bits w 60 55) {}
  let conflict := k.conflict || q.lenConflict
  let l := ruleLookup q.bank (ruleKey true q.port q.status (bits q.act0.toNat 7 0) conflict k) k.trunc conflict d
  (l.1, logSlack 7 (slackRaw q.at_ 2000 d.raw) (bankFree q.bank (l.2.2.countIf (bit l.1 59) 0x90060)))

/-- The frame of an entry of the recirculation queue, as it goes on from pass 2. -/
def recirculated (q : Recirc) : RxCtx :=
  { port := q.port, bytes := q.bytes, len := q.len, status := q.status, stamp := q.stamp, hold := q.hold }

theorem recircPass2_oldest {q : Recirc} {rest : List Recirc} (h : d.compass.queue = q :: rest) :
    recircPass2 d =
      let l := pass2Lookup q ({ d with compass.queue := rest }.count 0x90008)
      waitDrain (actOrWait l.1 (recirculated q) l.2) := by
  rw [recircPass2, h]
  rfl

/-! ### Rule commands (R351) -/

/-- The device as a rule command for entry `i` of bank `b` begins: BUSY stands for a time within 100 ns, and BANK and
INDEX are the command's. -/
def ruleBegun (b : Bool) (i : Nat) (d : Device) : Device :=
  let stop := d.raw + BitVec.ofNat 64 ((Config.freeValue d.freeCtr).toNat % 81)
  ({ d with freeCtr := d.freeCtr + 1, compass.busyEnd := stop }.rub F.COMPASS_RULE_CMD_BANK b).ru
    F.COMPASS_RULE_CMD_INDEX i

theorem ruleBusy_iff : ruleBusy d = true ↔ d.raw.toNat < d.compass.busyEnd.toNat := decide_eq_true_iff

theorem ruleCmd_busy {f : Device → Device} (h : d.raw.toNat < d.compass.busyEnd.toNat) :
    ruleCmd b i f d = d.ru F.COMPASS_RULE_CMD_CMD_IGNORED 1 :=
  if_pos (ruleBusy_iff.2 h)

section Idle

variable (hi : ¬ d.raw.toNat < d.compass.busyEnd.toNat)
include hi

theorem ruleCmd_idle {f : Device → Device} : ruleCmd b i f d = f (ruleBegun b i d) :=
  if_neg (mt ruleBusy_iff.1 hi)

theorem ruleWrite_stores (hw : bankWritable b (ruleBegun b i d) = true) (ha : actionBad (ruleBegun b i d) = false) :
    ruleWrite b i d =
      let r := ruleBegun b i d
      let y : RuleEnt :=
        { value := staged F.COMPASS_RULE_KEY_VALUE r, mask := staged F.COMPASS_RULE_MASK_MASK r,
          act0 := BitVec.ofNat 64 (r.rg F.COMPASS_RULE_ACT0_WORD0),
          act1 := BitVec.ofNat 64 (r.rg F.COMPASS_RULE_ACT1_WORD1) }
      let e := r.setBank b (tabSet none (r.bank b) i (some y))
      { e with counters := tabSet 0 e.counters (ruleHits b i) 0 } :=
  (ruleCmd_idle hi).trans (if_neg (by simp [hw, ha]))

theorem ruleWrite_rejects (h : bankWritable b (ruleBegun b i d) = false ∨ actionBad (ruleBegun b i d) = true) :
    ruleWrite b i d = ruleReject (ruleBegun b i d) :=
  (ruleCmd_idle hi).trans (if_pos (by rcases h with h | h <;> simp [h]))

theorem ruleInvalidate_clears (hw : bankWritable b (ruleBegun b i d) = true) :
    ruleInvalidate b i d =
      let e := ruleClear b i (ruleBegun b i d)
      { e with counters := tabSet 0 e.counters (ruleHits b i) 0 } :=
  (ruleCmd_idle hi).trans (if_neg (by simp [hw]))

theorem ruleInvalidate_rejects (hw : bankWritable b (ruleBegun b i d) = false) :
    ruleInvalidate b i d = ruleReject (ruleBegun b i d) :=
  (ruleCmd_idle hi).trans (if_pos (by simp [hw]))

end Idle

/-! ### Miss actions (R341) -/

theorem missActionWrite_writes (h : bankWritable b d = true) :
    missActionWrite b v d = d.ru (if b then F.COMPASS_MISS1_ACTION else F.COMPASS_MISS0_ACTION) v.toNat :=
  if_pos h

theorem missActionWrite_rejects (h : bankWritable b d = false) : missActionWrite b v d = writeReject d :=
  if_neg (Bool.eq_false_iff.1 h)

/-! ### The statement -/

/-- Settles O50: pass 2 by whether a frame waits for it, the bank swap, the rule commands by BUSY and by what the bank
and the staged action allow, the miss actions and the meters. -/
theorem compassCommands : Obligations.CompassCommands := by
  intro s b i m v q rest busy v0 stop r rejected zeroed
  refine ⟨fun hp h => ?empty, fun hp h => ?oldest, fun hl => ?swap,
    fun hl h => ⟨?writeIgnored, ?invalidateIgnored, ?readIgnored⟩,
    fun hl hi hw ha => ?writeStores, fun hl hi h => ?writeRejected,
    fun hl hi hw => ?invalidateClears, fun hl hi hw => ?invalidateRejected, fun hl hi => ?reads,
    fun hl h => ?missWritten, fun hl h => ?missRejected, fun hl => ?meter⟩
  case empty => exact runs_of_onDev rfl hp (recircPass2_empty h)
  case oldest => exact runs_of_onDev rfl hp (recircPass2_oldest h)
  case swap => exact runs_of_onHost rfl hl rfl
  case writeIgnored | invalidateIgnored | readIgnored => exact runs_of_onHost rfl hl (ruleCmd_busy h)
  case writeStores => exact runs_of_onHost rfl hl (ruleWrite_stores hi hw ha)
  case writeRejected => exact runs_of_onHost rfl hl (ruleWrite_rejects hi h)
  case invalidateClears => exact runs_of_onHost rfl hl (ruleInvalidate_clears hi hw)
  case invalidateRejected => exact runs_of_onHost rfl hl (ruleInvalidate_rejects hi hw)
  case reads => exact runs_of_onHost rfl hl (ruleCmd_idle hi)
  case missWritten => exact runs_of_onHost rfl hl (missActionWrite_writes h)
  case missRejected => exact runs_of_onHost rfl hl (missActionWrite_rejects h)
  case meter => exact runs_of_onHost rfl hl rfl

end Sys2Proof.Proofs

/-!
PROOFS. Gate lists (R366 to R372): a change asked for, refused and busy, its withdrawal, the change time, and the end of
the entry in force.
-/

namespace Sys2Proof.Proofs

open Sys2Proof.Machine Sys2Proof.Safety

variable {d : Device} {p : Nat} {x : Port} {pd : GatePend}

/-! ### A change asked for (R369 to R371) -/

/-- The administrative list of port `p` passes R369, its length register as well. -/
def AdminListOk (p : Nat) (d : Device) : Prop :=
  gateListOk (adminList p d) = true ∧ d.rg F.HELM_GATE_CTRL_ADMIN_LIST_LEN p ≤ 1024

theorem adminListOk_iff :
    (gateListOk (adminList p d) && decide (d.rg F.HELM_GATE_CTRL_ADMIN_LIST_LEN p ≤ 1024)) = true ↔ AdminListOk p d := by
  rw [Bool.and_eq_true, decide_eq_true_iff, AdminListOk]

/-- The change to list `g` stands pending on port `p` for `ct`, and the CHANGE registers show when (R370). -/
def changePends (p : Nat) (g : GateList) (ct : Int) (d : Device) : Device :=
  let e := d.setPort p { d.port p with pend := some { list := g, ct := ct } }
  (e.ru F.HELM_GATE_CHANGE_S_SECONDS (ct.toNat / 1000000000) p).ru F.HELM_GATE_CHANGE_NS_NANOSECONDS
    (ct.toNat % 1000000000) p

/-- The list is refused (R369). -/
def changeRefused (p : Nat) (d : Device) : Device :=
  helmEvent F.HELM_STATUS_CONFIG_ERROR F.HELM_EVT_EN_CONFIG_ERROR 337 p (d.ru F.HELM_GATE_STATUS_CONFIG_ERROR 1 p)

theorem gateConfigChange_busy (h : (d.port p).pend.isSome) :
    gateConfigChange p d = d.ru F.HELM_GATE_STATUS_ADMIN_BUSY 1 p :=
  if_pos h

/-- With no change pending the list is judged. -/
theorem gateConfigChange_judges (hn : (d.port p).pend = none) :
    gateConfigChange p d =
      if gateListOk (adminList p d) && decide (d.rg F.HELM_GATE_CTRL_ADMIN_LIST_LEN p ≤ 1024) then
        let g := adminList p d
        changePends p g (changeTime g (d.now (d.tb g.tb))) d
      else changeRefused p d :=
  if_neg (by simp [hn])

theorem gateConfigChange_accepts (hn : (d.port p).pend = none) (h : AdminListOk p d) :
    gateConfigChange p d =
      let g := adminList p d
      changePends p g (changeTime g (d.now (d.tb g.tb))) d :=
  (gateConfigChange_judges hn).trans (if_pos (adminListOk_iff.2 h))

theorem gateConfigChange_refuses (hn : (d.port p).pend = none) (h : ¬ AdminListOk p d) :
    gateConfigChange p d = changeRefused p d :=
  (gateConfigChange_judges hn).trans (if_neg fun hk => h (adminListOk_iff.1 hk))

/-! ### A change withdrawn (R371) -/

/-- The pending change `pd` of port `x` ends or prolongs the entry in force. -/
def ChangeEndsEntry (x : Port) (pd : GatePend) (d : Device) : Prop :=
  x.oper.en = true ∧ x.entryEnd = nsUp (changeOper x pd d)

/-- The change pending on port `p` is withdrawn, and the gates take the entry in force at `t` of the list that runs on. -/
def cancelTakes (p : Nat) (t : Int) (d : Device) : Device :=
  let x := d.port p
  let r := gateAt x.oper t
  gateCaught p (gateStates x) (d.setPort p { x with pend := none, entry := r.1, entryEnd := r.2.2 })

/-- The time whose entry the gates of port `x` take when its change at `ct` is withdrawn: a prolonged entry stays until
its own end and, that end being past, gives way to the entry in force now; one that was to be cut short is the one before
`ct`. -/
def cancelTime (x : Port) (ct : Int) (d : Device) : Int :=
  match holdFrom x.oper ct with
  | some h => max (nowNs x.oper.tb d) (h - 1)
  | none => nsUp ct - 1

theorem gateCancel_none (hn : (d.port p).pend = none) : gateCancel p d = d := by
  simp only [gateCancel, hn]

section Pending
variable (hx : (d.port p).pend = some pd)
include hx

theorem gateCancel_some :
    gateCancel p d =
      let x := d.port p
      let ct := changeOper x pd d
      if !x.oper.en || x.entryEnd != nsUp ct then d.setPort p { x with pend := none }
      else cancelTakes p (cancelTime x ct d) d := by
  simp only [gateCancel, hx]
  rfl

theorem gateCancel_withdraws (h : ¬ ChangeEndsEntry (d.port p) pd d) :
    gateCancel p d = d.setPort p { d.port p with pend := none } := by
  refine (gateCancel_some hx).trans (if_pos ?_)
  cases hen : (d.port p).oper.en
  case false => rfl
  case true => exact bne_iff_ne.2 fun hend => h ⟨hen, hend⟩

theorem gateCancel_takes (h : ChangeEndsEntry (d.port p) pd d) :
    gateCancel p d = cancelTakes p (cancelTime (d.port p) (changeOper (d.port p) pd d) d) d := by
  obtain ⟨hen, hend⟩ := h
  exact (gateCancel_some hx).trans (if_neg (by simp [hen, hend]))

end Pending

/-! ### The change time (R370, R372) -/

/-- Port `x` has no change whose time has come: none is pending, or the pending one `pd` has not reached its CT. -/
def ChangeWaits (x : Port) (pd : GatePend) (d : Device) : Prop :=
  x.pend = none ∨ x.pend = some pd ∧ nowNs pd.list.tb d < pd.ct

/-- The list of `pd` becomes operational on port `p`, and what it cannot send goes (R367, R370, R372). -/
def listChanged (p : Nat) (pd : GatePend) (d : Device) : Device :=
  let x := d.port p
  let e := gateCaught p (gateStates x) (gateLoad p (d.setPort p { x with oper := pd.list, pend := none }))
  let e := abandonHeld p ((List.range 8).foldl (fun d c => removeUnsendable p c d) e)
  helmRetry (helmEvent F.HELM_STATUS_CONFIG_CHANGED F.HELM_EVT_EN_CONFIG_CHANGED 336 p e)

theorem gateChangeTime_some (hx : (d.port p).pend = some pd) :
    gateChangeTime p d = if nowNs pd.list.tb d < pd.ct then d else listChanged p pd d := by
  simp only [gateChangeTime, hx]
  rfl

theorem gateChangeTime_waits (h : ChangeWaits (d.port p) pd d) : gateChangeTime p d = d := by
  obtain hn | ⟨hx, ht⟩ := h
  · simp only [gateChangeTime, hn]
  · exact (gateChangeTime_some hx).trans (if_pos ht)

theorem gateChangeTime_changes (hx : (d.port p).pend = some pd) (ht : pd.ct ≤ nowNs pd.list.tb d) :
    gateChangeTime p d = listChanged p pd d :=
  (gateChangeTime_some hx).trans (if_neg (Int.not_lt.2 ht))

/-! ### The end of an entry (R367) -/

theorem changeDue_of_reached (hx : x.pend = some pd) (ht : pd.ct ≤ nowNs pd.list.tb d) : changeDue x d = true := by
  simp [changeDue, hx, ht]

theorem changeDue_of_waits (h : ChangeWaits x pd d) : changeDue x d = false := by
  obtain hn | ⟨hx, ht⟩ := h
  · simp [changeDue, hn]
  · simp [changeDue, hx, ht]

/-- The entry in force on port `x` has ended. -/
def EntryEnded (x : Port) (d : Device) : Prop := x.oper.en = true ∧ x.entryEnd ≤ nowNs x.oper.tb d

theorem gateChange_of_changeDue (h : changeDue (d.port p) d = true) : gateChange p d = gateChangeTime p d := if_pos h

theorem gateChange_of_not_changeDue (h : changeDue (d.port p) d = false) :
    gateChange p d =
      let x := d.port p
      if !x.oper.en || decide (nowNs x.oper.tb d < x.entryEnd) then d
      else gateCaught p (gateStates x) (gateLoad p d) :=
  if_neg (Bool.eq_false_iff.1 h)

theorem gateChange_changes (hx : (d.port p).pend = some pd) (ht : pd.ct ≤ nowNs pd.list.tb d) :
    gateChange p d = listChanged p pd d :=
  (gateChange_of_changeDue (changeDue_of_reached hx ht)).trans (gateChangeTime_changes hx ht)

theorem gateChange_early (hw : ChangeWaits (d.port p) pd d) (h : ¬ EntryEnded (d.port p) d) : gateChange p d = d := by
  refine (gateChange_of_not_changeDue (changeDue_of_waits hw)).trans (if_pos ?_)
  cases hen : (d.port p).oper.en
  case false => rfl
  case true => exact decide_eq_true (Int.not_le.1 fun hend => h ⟨hen, hend⟩)

theorem gateChange_ends (hw : ChangeWaits (d.port p) pd d) (h : EntryEnded (d.port p) d) :
    gateChange p d = gateCaught p (gateStates (d.port p)) (gateLoad p d) := by
  obtain ⟨hen, hend⟩ := h
  exact (gateChange_of_not_changeDue (changeDue_of_waits hw)).trans (if_neg (by simp [hen, hend]))

/-! ### The statement -/

/-- Settles O47: a change asked for by whether one is pending and the list passes R369, CANCEL by whether the change ends
or prolongs the entry in force, then the two times by whether a change has reached its CT. -/
theorem gateLists : Obligations.GateLists := by
  intro s p pd x g ok ended waits changed
  have hchanged : listChanged p pd s.dev = changed s.dev := rfl
  refine ⟨fun hl h => ?busy, fun hl hn h => ?accepts, fun hl hn h => ?refuses, fun hl hn => ?cancelNone,
    fun hl hx => ⟨fun h => ?withdraws, fun hen hend => ?takes⟩, fun hp hw => ?waits,
    fun hp hx ht => ⟨?changes, ?changesAtEnd⟩, fun hp hw h => ?early, fun hp hw h => ?ends⟩
  case busy => exact runs_of_onHost rfl hl (gateConfigChange_busy h)
  case accepts => exact runs_of_onHost rfl hl (gateConfigChange_accepts hn h)
  case refuses => exact runs_of_onHost rfl hl (gateConfigChange_refuses hn h)
  case cancelNone => exact runs_of_onHost rfl hl (gateCancel_none hn)
  case withdraws =>
    have hstays : ¬ ChangeEndsEntry x pd s.dev := fun ⟨hen, hend⟩ => h.elim (by simp [hen]) (· hend)
    exact runs_of_onHost rfl hl (gateCancel_withdraws hx hstays)
  case takes => exact runs_of_onHost rfl hl (gateCancel_takes hx ⟨hen, hend⟩)
  case waits => exact runs_of_onDev rfl hp (gateChangeTime_waits hw)
  case changes => exact runs_of_onDev rfl hp ((gateChangeTime_changes hx ht).trans hchanged)
  case changesAtEnd => exact runs_of_onDev rfl hp ((gateChange_changes hx ht).trans hchanged)
  case early => exact runs_of_onDev rfl hp (gateChange_early hw h)
  case ends => exact runs_of_onDev rfl hp (gateChange_ends hw h)

end Sys2Proof.Proofs

/-!
PROOFS. Trim (chapter 13): the end of an evaluation interval, the outcomes of an AVSBus transaction with the fault limit,
the relaxation of the ladder, and the selection of a heading.
-/

namespace Sys2Proof.Proofs

open Sys2Proof.Machine Sys2Proof.Safety

variable {d : Device}

/-! ### AVSBus and the ladder (R389, R391) -/

theorem avsFaultLimit_reached (hr : 3 ≤ d.rg F.TRIM_AVS_FAULT_RUN) (hf : d.rb F.TRIM_STATUS_AVS_FAULT = false) :
    avsFaultLimit d = trimEvent 4 (d.ru F.TRIM_STATUS_AVS_FAULT 1) :=
  if_pos ⟨hr, hf⟩

/-- Below the limit, and with AVS_FAULT already set, the fault limit changes nothing: its event comes once. -/
theorem avsFaultLimit_below_or_set
    (h : d.rg F.TRIM_AVS_FAULT_RUN < 3 ∨ d.rb F.TRIM_STATUS_AVS_FAULT = true) : avsFaultLimit d = d := by
  refine if_neg fun ⟨hr, hf⟩ => ?_
  obtain hlt | hset := h
  · exact Nat.not_lt.2 hr hlt
  · exact Bool.false_ne_true (hf.symm.trans hset)

/-- RELAX has reached RELAX_INTERVALS above rung 0 (row 8 of Table 13-3). -/
def Relaxed (d : Device) : Prop :=
  0 < d.rung ∧ d.rg F.TRIM_LOOP_CFG_RELAX_INTERVALS ≤ d.trim.relax ∧ 0 < d.trim.relax

theorem relaxLimit_relaxed (h : Relaxed d) :
    relaxLimit d = helmRetry (trimEvent 1 (setRelax 0 (setRung (d.rung - 1) d))) := if_pos h

theorem relaxLimit_not_relaxed (h : ¬ Relaxed d) : relaxLimit d = d := if_neg h

/-! ### The evaluation interval (R385, R388, R389, R392) -/

/-- EVAL_US has passed since the last interval ended. -/
def evalPassed (d : Device) : Bool := d.passedNs d.trim.evalFrom (d.rg F.TRIM_LOOP_CFG_EVAL_US * 1000)

/-- The device with an interval's readings `l` taken: sensors, thermal limits and the cap in force. -/
def intervalRead (l : List Sensor) (d : Device) : Device :=
  capTake (thermal (readSensors l { d with trim.evalFrom := d.raw }))

/-- An AVSBus transaction that is due again is sent (R391). -/
def avsResend (d : Device) : Device :=
  if d.trim.retry then { d with trim.retry := false }.emit (.avsWrite (d.rg F.TRIM_AVS_REQUEST_MV)) else d

/-- The loop decides on margin `m` where it runs and the last voltage has settled (R389, R390). -/
def loopDecides (m : Option Int) (d : Device) : Device :=
  if loopRuns d.st = true ∧ trimSettled d = true then trimDecide m { d with trim.settle := none } else d

/-- A heading whose point of effect is the end of the interval takes effect (R392), and the report follows. -/
def intervalHeading (d : Device) : Device := trimReport (if d.trim.soon = true then headingDue d else d)

/-- The SMBus values become those of the interval; `lc` is the life-cycle code (R537). -/
def smbTake (lc : Nat) (d : Device) : Device := { d with trim.smb := (smbValues lc d).filter fun e => e.2 != 0 }

/-- The end of an interval with readings `l`, in its order. -/
def intervalEnd (lc : Nat) (l : List Sensor) (d : Device) : Device :=
  let e := intervalRead l d
  let m := marginOf e
  smbTake lc (intervalHeading (loopDecides m (avsResend (trimReport (reportMargin m e)))))

theorem trimInterval_early {lc : Nat} {l : List Sensor} (h : evalPassed d = false) : trimInterval lc l d = d := by
  rw [evalPassed] at h
  simp [trimInterval, h]

theorem trimInterval_ends {lc : Nat} {l : List Sensor} (h : evalPassed d = true) :
    trimInterval lc l d = intervalEnd lc l d := by
  rw [evalPassed] at h
  simp only [trimInterval, h, Bool.not_true, Bool.false_eq_true, if_false, Bool.and_eq_true]
  rfl

theorem runs_trimEvalInterval {s : State} {l : List Sensor} {g : Device → Device} (hp : Powered s)
    (h : trimInterval (lcCode s.nv.lifecycle) l s.dev = g s.dev) : Runs (.trimEvalInterval l) s g :=
  runs_of_onDev (f := trimInterval (lcCode s.nv.lifecycle) l) rfl hp h

/-- Settles O43: the two outcomes of a transaction, then the fault limit, the relaxation and the interval, each due and
not due. -/
theorem trimBusAndLadder : Obligations.TrimBusAndLadder := by
  intro s i l hp relaxed
  refine ⟨?acked, ?failed, fun hr hf => ?limit, fun h => ?noLimit, fun h => ?falls, fun h => ?stays, fun h => ?early,
    fun h => ?ends⟩
  case acked | failed => exact runs_of_onDev rfl hp rfl
  case limit => exact runs_of_onDev rfl hp (avsFaultLimit_reached hr hf)
  case noLimit => exact runs_of_onDev rfl hp (avsFaultLimit_below_or_set h)
  case falls => exact runs_of_onDev rfl hp (relaxLimit_relaxed h)
  case stays => exact runs_of_onDev rfl hp (relaxLimit_not_relaxed h)
  case early => exact runs_trimEvalInterval hp (trimInterval_early h)
  case ends => exact runs_trimEvalInterval hp (trimInterval_ends h)

/-! ### The selection of a heading (R392, R399) -/

/-- Heading `v` is kept for its point of effect, which is the end of the interval where `soon` holds and a crossing
boundary elsewhere. -/
def headingKept (v : Nat) (soon : Bool) (d : Device) : Device :=
  { d with trim.pend := some v, trim.soon := soon }.ru F.TRIM_HEADING_SELECT v

theorem headingSelect_before_muster {v : Nat} (h : d.st = .wipe ∨ d.st = .load) : headingSelect v d = d := by
  obtain h | h := h <;> simp only [headingSelect, h]

theorem headingSelect_run {v : Nat} (h : d.st = .run) : headingSelect v d = headingKept v false d := by
  simp only [headingSelect, h, headingKept]

/-- In the states where H7 cannot be entered every other heading is kept. -/
theorem headingSelect_crossing {v : Nat} (h : d.st ∈ [DevState.muster, .firstCrossing, .test, .recovery]) :
    headingSelect v d = if v = 7 then trimEvent 6 d else headingKept v (decide (d.st = .muster)) d := by
  simp only [List.mem_cons, List.not_mem_nil, or_false] at h
  obtain h | h | h | h := h <;> simp only [headingSelect, h, headingKept]

theorem headingSelect_halt {v : Nat} (h : d.st = .halt) :
    headingSelect v d = if v = 7 then trimEvent 6 d else d := by
  simp only [headingSelect, h]

theorem headingSelect_dormant {v : Nat} (h : d.st = .dormant) :
    headingSelect v d = if v = 7 then d else dormantLeave v (d.ru F.TRIM_HEADING_SELECT v) := by
  simp only [headingSelect, h]

/-- H7 is refused outside RUN and DORMANT. -/
theorem headingSelect_seven_refused (h : d.st ∈ [DevState.muster, .firstCrossing, .test, .recovery, .halt]) :
    headingSelect 7 d = trimEvent 6 d := by
  by_cases hh : d.st = .halt
  · exact headingSelect_halt hh
  · exact headingSelect_crossing (by simpa [hh] using h)

/-- Settles O44: each device state, and where the value matters 7 apart from the others. -/
theorem headingSelection : Obligations.HeadingSelection := by
  intro s v hl
  have toNat_ne (hv : v ≠ 7) : v.toNat ≠ 7 := fun h => hv (BitVec.eq_of_toNat_eq h)
  refine ⟨fun h => ?before, fun h => ?run, fun h hv => ?kept, fun h hv => ?refused, fun h hv => ?halt,
    fun h hv => ?leaves, fun h hv => ?sleeps⟩
  case before => exact runs_of_onHost rfl hl (headingSelect_before_muster h)
  case run => exact runs_of_onHost rfl hl (headingSelect_run h)
  case kept => exact runs_of_onHost rfl hl ((headingSelect_crossing h).trans (if_neg (toNat_ne hv)))
  case refused => subst hv; exact runs_of_onHost rfl hl (headingSelect_seven_refused h)
  case halt => exact runs_of_onHost rfl hl ((headingSelect_halt h).trans (if_neg (toNat_ne hv)))
  case leaves => exact runs_of_onHost rfl hl ((headingSelect_dormant h).trans (if_neg (toNat_ne hv)))
  case sleeps => subst hv; exact runs_of_onHost rfl hl (headingSelect_dormant h)

end Sys2Proof.Proofs

/-!
PROOFS. The whole-device inputs beyond Table 01-7 (R518, R519, R531) and the test access port (R540, R541): what a long
pulse leaves, that a warm reset is one, and which instruction acts. SMBus telemetry (R537, R538) is here too.
-/

namespace Sys2Proof.Proofs

open Sys2Proof.Machine Sys2Proof.Safety

variable {d : Device}

/-! ### What the parts of a reset change -/

/-- Pins that change are outputs only. -/
theorem pinsGo_frame (old : DevState) (d : Device) : pinsGo old d = { d with out := (pinsGo old d).out } := by
  have fold (l : List PinGroup) (d : Device) :
      l.foldl (fun d g => if pinDrive g d.st = pinDrive g old then d else d.emit (.pins g (pinDrive g d.st))) d =
        { d with out := (l.foldl (fun d g => if pinDrive g d.st = pinDrive g old then d
          else d.emit (.pins g (pinDrive g d.st))) d).out } := by
    induction l generalizing d with
    | nil => rfl
    | cons g l ih =>
      rw [List.foldl_cons, ih]
      split <;> rfl
  exact fold pinGroups d

/-- A voltage request is Trim's alone, with its register and the bus. -/
theorem trimRequest_frame (mv : Nat) (d : Device) :
    trimRequest mv d =
      { d with trim := (trimRequest mv d).trim, regs := (trimRequest mv d).regs, out := (trimRequest mv d).out } := by
  unfold trimRequest
  dsimp only
  split <;> rfl

/-- The entry into RESET or HALT is an output, and the last one where the TAP's instruction takes the pins. -/
theorem tapEnter_frame (e : Device) : ∃ o : List OutEvent, tapEnter e = { e with out := o } ∧
    (takesPins e.tap = true → o.head? = some (.jtag e.tap none)) := by
  unfold tapEnter
  split
  · exact ⟨_, rfl, fun _ => rfl⟩
  · next h => exact ⟨_, rfl, fun ht => absurd ht h⟩

/-- The TAP's instruction once RESET_ASSERT has taken the device into RESET. -/
def tapInReset (d : Device) : Nat := if d.st = .halt ∧ takesPins d.tap = true then 0xFF else d.tap

/-- A long pulse on a whole-device input leaves a powered device with nothing but what a reset keeps, in RESET, with
the TAP's instruction acting if it takes the pins. -/
theorem resetAssert_frame {n : Nat} (hn : 100 ≤ n) (hp : ¬ (d.st = .off ∨ d.st = .reset)) :
    ∃ (x : Device) (o : List OutEvent),
      resetAssert n d = { freshDevice .reset x with tap := tapInReset d, out := o } ∧
        (takesPins (tapInReset d) = true → o.head? = some (.jtag (tapInReset d) none)) := by
  rw [resetAssert_powered hn hp, pinsGo_frame]
  generalize tioChangeAll _ _ = x
  obtain ⟨o, ho, hj⟩ := tapEnter_frame
    { freshDevice .reset x with tap := tapInReset d, out := (pinsGo d.st (freshDevice .reset x)).out }
  exact ⟨x, o, ho, hj⟩

/-- RESET_RELEASE takes RESET to WIPE with a device that holds nothing but Trim's request and REF_SEL. -/
theorem resetRelease_frame (ref : Bool) (hr : d.st = .reset) :
    ∃ (t : Trim) (r : Tab Nat) (o : List OutEvent),
      resetRelease ref d = { freshDevice .wipe d with trim := t, regs := r, out := o } := by
  rw [resetRelease_of_reset ref hr, trimRequest_frame, pinsGo_frame]
  exact ⟨_, _, _, rfl⟩

/-! ### Instructions of the test access port -/

theorem takesPins_iff {t : Nat} : takesPins t = true ↔ t ∈ [0x00, 0x05, 0x06, 0x07, 0x08] := List.contains_iff_mem

theorem tapLeave_takes {t : Nat} (h : takesPins t = true) : tapLeave t = 0xFF := if_pos h

/-- An instruction that leaves the pins alone acts as itself in every device state. -/
theorem tapActs_leaves {t : Nat} (h : takesPins t = false) : tapActs { d with tap := t } = t := by
  simp [tapActs, tapLeave, h]

section Tap

variable {c : Instr} {s : State}

/-- A command at the TAP of a powered device runs as any change that agrees with it on `s`. -/
theorem runsAs_of_onTap {f : NonVol → Device → Device} {g : Device → Device} (hc : exec c s = onTap f s)
    (ho : s.dev.st ≠ .off) (h : f s.nv s.dev = g s.dev) : RunsAs c s g := by
  rw [RunsAs, hc, onTap, if_neg ho, h]

variable {t : Nat}

theorem runsAs_tapLoad {id : NonVol → Option (BitVec 32)} {i : Option (BitVec 32)}
    (hc : exec c s = onTap (fun n d => tapLoad t (id n) d) s) (ho : s.dev.st ≠ .off) (hi : id s.nv = i)
    (ht : takesPins t = false) : RunsAs c s fun d => { d with tap := t }.emit (.jtag t i) := by
  refine runsAs_of_onTap hc ho ?_
  rw [tapLoad, tapActs_leaves ht, hi]

/-- An instruction that takes the pins does so in RESET and HALT, and acts as BYPASS in every other state (R541). -/
theorem runsAs_tapPins (hc : exec c s = onTap (fun _ d => tapPins t d) s) (ho : s.dev.st ≠ .off)
    (ht : takesPins t = true) :
    ((s.dev.st = .reset ∨ s.dev.st = .halt) → RunsAs c s fun d => { d with tap := t }.emit (.jtag t none)) ∧
      (¬ (s.dev.st = .reset ∨ s.dev.st = .halt) →
        RunsAs c s fun d => { d with tap := t }.emit (.jtag 0xFF none)) := by
  refine ⟨fun h => runsAs_of_onTap hc ho ?_, fun h => runsAs_of_onTap hc ho ?_⟩
  · rw [tapPins, tapLoad, tapActs, if_pos h]
  · rw [tapPins, tapLoad, tapActs, if_neg h, tapLeave_takes ht]

end Tap

/-! ### The statements -/

/-- Settles O14: each input on both sides of 100 ns. -/
theorem shortPulsesIgnored : Obligations.ShortPulsesIgnored := by
  intro s n pin
  refine ⟨fun hn => ⟨exec_eq_of_onAny rfl (resetAssert_short hn), exec_eq_of_onAny rfl (perstAssert_short hn)⟩,
    fun hp hn => ?_⟩
  have hs : ¬ (s.dev.st = .off ∨ s.dev.st = .reset) := fun h => (not_powered_iff s).2 h hp
  refine ⟨⟨_, rfl, ?_⟩, ⟨_, rfl, ?_⟩⟩
  · obtain ⟨x, o, hx, -⟩ := resetAssert_frame hn hs
    rw [hx]
    exact ⟨rfl, rfl, rfl⟩
  · rw [perstAssert_powered hn hs, flrPf1_frame, hostReset_frame]
    exact ⟨rfl, rfl, rfl⟩

/-- Settles O15: the two inputs leave no vector waiting, so the interrupt decision changes nothing after them. -/
theorem warmResetIsShortReset : Obligations.WarmResetIsShortReset := by
  intro s v hl
  have hs : ¬ (s.dev.st = .off ∨ s.dev.st = .reset) := fun h => (not_powered_iff s).2 h hl.1
  refine ⟨fun hk hb => ⟨_, _, rfl, rfl, ?_⟩, fun h => runs_of_onHost rfl hl (if_neg fun hc => ?_)⟩
  · obtain ⟨x, o, hx, -⟩ := resetAssert_frame (n := 1000) (by decide) hs
    obtain ⟨t, r, p, hy⟩ := resetRelease_frame (d := resetAssert 1000 s.dev) (s.dev.rb F.RECKON_STATUS_REF_SEL)
      (by rw [hx]; rfl)
    have hw : warmReset v s.dev = resetRelease (s.dev.rb F.RECKON_STATUS_REF_SEL) (resetAssert 1000 s.dev) :=
      if_pos ⟨hk, hb⟩
    refine (onHost_run (warmReset v) s hl).trans ?_
    rw [settle_eq _ (by rw [hw, hy]; rfl), hw]
  · rcases h with h | h
    · exact h hc.1
    · exact Bool.eq_false_iff.1 h hc.2

/-- Settles O38: each transaction; the reads of sensors by their code, and the alert response by the pin. -/
theorem smbusTransactions : Obligations.SmbusTransactions := by
  intro s code n data hp reads
  refine ⟨runs_of_onDev rfl hp rfl, runs_of_onDev rfl hp rfl, runs_of_onDev rfl hp rfl, runs_of_onDev rfl hp rfl,
    runs_of_onDev rfl hp rfl, runs_of_onDev rfl hp rfl, runs_of_onDev rfl hp rfl, fun hlo hhi => ?sensor,
    fun h => ?noSensor, runs_of_onDev rfl hp rfl, fun h => ?write, runs_of_onDev rfl hp rfl, fun h => ?alert,
    fun h => ?noAlert⟩
  case sensor => exact runs_of_onDev rfl hp (congrFun (if_pos ⟨hlo, hhi⟩) s.dev)
  case noSensor => exact runs_of_onDev rfl hp (congrFun (if_neg (by omega)) s.dev)
  case write =>
    exact runs_of_onDev (f := fun d => if data.isEmpty then d else d.emit .smbNak) rfl hp
      (if_neg fun he => h (List.isEmpty_iff.1 he))
  case alert => exact runs_of_onDev rfl hp (if_pos h)
  case noAlert => exact runs_of_onDev rfl hp (if_neg (Bool.eq_false_iff.1 h))

/-- Settles O39: each instruction by the device state, and the two ways out of RESET and HALT. -/
theorem pinTakingInstructions : Obligations.PinTakingInstructions := by
  intro s ho
  refine ⟨fun p hp => ?acts, fun c t hc htap ht => ?leaves⟩
  case acts =>
    simp only [List.mem_cons, List.not_mem_nil, or_false] at hp
    rcases hp with rfl | rfl | rfl | rfl | rfl <;> exact runsAs_tapPins rfl ho rfl
  case leaves =>
    have htakes := takesPins_iff.2 htap
    rcases hc with ⟨hr, ref, rfl⟩ | ⟨hh, pin, n, rfl, hn⟩
    · cases ht
      obtain ⟨x, r, o, hx⟩ := resetRelease_frame ref hr
      exact (congrArg Device.tap hx).trans (tapLeave_takes htakes)
    · cases ht
      obtain ⟨x, o, hx, -⟩ := resetAssert_frame hn (d := s.dev) (by simp [hh])
      exact (congrArg Device.tap hx).trans (if_pos ⟨hh, htakes⟩)

/-- Settles O40: each instruction that leaves the pins alone, and one that takes them when the device enters RESET. -/
theorem tapInstructions : Obligations.TapInstructions := by
  intro s code ho
  refine ⟨runsAs_tapLoad (id := fun n => some (idcodeOf n.revision)) rfl ho rfl rfl,
    runsAs_tapLoad (id := fun _ => none) rfl ho rfl rfl, runsAs_tapLoad (id := fun _ => none) rfl ho rfl rfl,
    fun h => ?debug, fun n pin t hp hh hn htap ht => ?reset⟩
  case debug =>
    refine runsAs_tapLoad (id := fun _ => none) (if_neg fun ⟨_, hf, hlo, hhi⟩ => ?_) ho rfl rfl
    rcases h with h | h | h
    · exact hf h
    · omega
    · omega
  case reset =>
    cases ht
    have hkept : tapInReset s.dev = s.dev.tap := if_neg fun h => hh h.1
    obtain ⟨x, o, hx, hout⟩ := resetAssert_frame hn (d := s.dev) fun h => (not_powered_iff s).2 h hp
    rw [hkept] at hx hout
    exact ⟨(congrArg Device.tap hx :), (congrArg (·.out.head?) hx).trans (hout (takesPins_iff.2 htap))⟩

end Sys2Proof.Proofs

/-!
PROOFS. Routes, vectors and holdoff timers (R480, R481, R486): each command by the case it finds.
-/

namespace Sys2Proof.Proofs

open Sys2Proof.Machine Sys2Proof.Safety

variable {d : Device}

theorem eventRouteWrite_uncharted {i : Nat} {x : Word} (h : d.charted = false) : eventRouteWrite i x d = d := by
  simp [eventRouteWrite, h]

/-- Once a chart is loaded the write takes effect, and a change of DEFER_EN or DEFER_CP releases what is held. -/
theorem eventRouteWrite_charted {i : Nat} {x : Word} {e : Device}
    (he : e = writeReg64 (F.EVENT_ROUTE_MSIX_EN.addr i) x d) (h : d.charted = true) :
    eventRouteWrite i x d =
      if e.rg F.EVENT_ROUTE_DEFER_EN i ≠ d.rg F.EVENT_ROUTE_DEFER_EN i ∨
          e.rg F.EVENT_ROUTE_DEFER_CP i ≠ d.rg F.EVENT_ROUTE_DEFER_CP i then evRelease i e else e := by
  subst he
  simp only [eventRouteWrite, h, Bool.not_true, Bool.false_eq_true, if_false]

/-- A vector's holdoff timer has run its time. -/
def HoldoffOver (v : Nat) (d : Device) : Prop :=
  ∃ t, tabGet none d.ev.timer v = some t ∧ d.rg F.EVENT_VEC_HOLDOFF_NS v ≠ 0 ∧
    d.passedNs t (d.rg F.EVENT_VEC_HOLDOFF_NS v) = true

theorem msixHoldoffExpire_fires {v : Nat} (h : HoldoffOver v d) : msixHoldoffExpire v d = vecFire v d := by
  obtain ⟨t, ht, hn, hp⟩ := h
  rw [msixHoldoffExpire, ht]
  exact if_pos ⟨hn, hp⟩

theorem msixHoldoffExpire_waits {v : Nat} (h : ¬ HoldoffOver v d) : msixHoldoffExpire v d = d := by
  rw [msixHoldoffExpire]
  split
  · rfl
  · next t ht => exact if_neg fun hc => h ⟨t, ht, hc⟩

/-- Settles O23: a route by whether a chart is loaded and its deferral changes, a vector by its timer. -/
theorem routesAndVectors : Obligations.RoutesAndVectors := by
  intro s i v x t
  refine ⟨fun hl hc => ?uncharted, fun hl hc => ?route, fun hl => ?vector, fun hp ht hn hx => ?fires,
    fun hp h => ?waits⟩
  case uncharted => exact runs_of_onHost rfl hl (eventRouteWrite_uncharted hc)
  case route =>
    have hw := eventRouteWrite_charted (i := i) (x := x) rfl hc
    refine ⟨fun h => runs_of_onHost rfl hl (hw.trans (if_neg ?_)),
      fun h => runs_of_onHost rfl hl (hw.trans (if_pos ?_))⟩
    · exact fun hne => hne.elim (· h.1) (· h.2)
    · exact Classical.not_and_iff_not_or_not.1 h
  case vector => exact runs_of_onHost rfl hl rfl
  case fires => exact runs_of_onDev rfl hp (msixHoldoffExpire_fires ⟨t, ht, hn, hx⟩)
  case waits =>
    refine runs_of_onDev rfl hp (msixHoldoffExpire_waits fun ⟨u, hu, hn, hx⟩ => ?_)
    rcases h with h | h | ⟨t, ht, hf⟩
    · cases hu.symm.trans h
    · exact hn h
    · cases hu.symm.trans ht
      exact Bool.eq_false_iff.1 hf hx

end Sys2Proof.Proofs

/-!
PROOFS. What a command may answer at all, said once for every command: a refusal, a change of the device alone, or one
of the twelve meanings that may write the fuses or the flash; and what such a meaning may write. The statements about
every step are read off from these two.
-/

namespace Sys2Proof.Proofs

open Sys2Proof.Machine Sys2Proof.Safety

/-! ### The ways a command answers -/

/-- The commands whose meaning may write the fuses or the flash, each with that meaning. -/
inductive WritesNv : Instr → (NonVol → Device → NonVol × Device) → Prop
  | wipeComplete (f : Sfdp) : WritesNv (.wipeComplete f) (wipeComplete f)
  | crossingBoundary (w : Word) (ok : Bool) : WritesNv (.crossingBoundary w ok) (crossingBoundary w ok)
  | retiredEraseDone : WritesNv .retiredEraseDone retiredEraseDone
  | haltLogWrite : WritesNv .haltLogWrite haltLogWrite
  | stageBegin (ok : Bool) : WritesNv (.stageBegin ok) (stageBegin ok)
  | stageWrite (x : HostRead) (ok : Bool) : WritesNv (.stageWrite x ok) (stageWrite x ok)
  | stageVerify : WritesNv .stageVerify stageVerify
  | slotInvalidate (ok : Bool) : WritesNv (.slotInvalidate ok) (slotInvalidate ok)
  | persistWrite (x : HostRead) (ok : Bool) : WritesNv (.persistWrite x ok) (persistWrite x ok)
  | lcProvision (x : HostRead) (ok : Bool) : WritesNv (.lcProvision x ok) (lcProvision x ok)
  | lcField (ok : Bool) : WritesNv (.lcField ok) (lcField ok)
  | lcRetire (x : HostRead) (ok : Bool) : WritesNv (.lcRetire x ok) (lcRetire x ok)

/-- How a command answers in a state: with the one refusal of the model, with a change of the device alone, in which no
vector waits for the interrupt decision if none did before, or with a meaning that may write the fuses or the flash. -/
inductive Answers (c : Instr) (s : State) : Prop
  | refuses (code : BitVec 8) (hc : c = .debugInstruction code)
      (h : exec c s = .refused (.debugUnitUndescribed code.toNat))
  | device (e : Device) (h : exec c s = .next { s with dev := e }) (ht : Settled s → e.ev.touched = [])
  | writes (g : NonVol → Device → NonVol × Device) (hg : WritesNv c g) (h : exec c s = onAll g s)

section Lifts

variable {c : Instr} {s : State} {f : Device → Device}

theorem answers_of_onDev (hc : exec c s = onDev f s) : Answers c s := by
  unfold onDev at hc
  split at hc
  · exact .device s.dev hc id
  · exact .device _ hc fun _ => settle_touched _

theorem answers_of_onHost (hc : exec c s = onHost f s) : Answers c s := by
  unfold onHost at hc
  split at hc
  · exact answers_of_onDev hc
  · exact .device s.dev hc id

theorem answers_of_onAny (hc : exec c s = onAny f s) (ht : s.dev.ev.touched = [] → (f s.dev).ev.touched = []) :
    Answers c s :=
  .device _ hc ht

theorem answers_of_onTap {f : NonVol → Device → Device} (hc : exec c s = onTap f s)
    (ht : (f s.nv s.dev).ev = s.dev.ev) : Answers c s := by
  unfold onTap at hc
  split at hc
  · exact .device s.dev hc id
  · exact .device _ hc fun h => (congrArg Events.touched ht).trans h

end Lifts

/-! ### The inputs that take no interrupt decision -/

section Inputs

variable {d : Device}

theorem powerOn_settled (h : d.ev.touched = []) : (powerOn d).ev.touched = [] := by
  unfold powerOn
  split
  · rw [pinsGo_frame]
    rfl
  · exact h

theorem powerDown_settled (h : d.ev.touched = []) : (powerDown d).ev.touched = [] := by
  unfold powerDown
  split
  · rw [pinsGo_frame]
    rfl
  · exact h

theorem resetAssert_settled {n : Nat} (h : d.ev.touched = []) : (resetAssert n d).ev.touched = [] := by
  rcases Nat.lt_or_ge n 100 with hn | hn
  · rwa [resetAssert_short hn]
  · by_cases hp : d.st = .off ∨ d.st = .reset
    · rwa [resetAssert_unpowered hp]
    · obtain ⟨x, o, hx, -⟩ := resetAssert_frame hn hp
      rw [hx]
      rfl

theorem resetRelease_settled {ref : Bool} (h : d.ev.touched = []) : (resetRelease ref d).ev.touched = [] := by
  by_cases hr : d.st = .reset
  · obtain ⟨t, r, o, hx⟩ := resetRelease_frame ref hr
    rw [hx]
    rfl
  · rwa [resetRelease_of_ne_reset ref hr]

theorem perstAssert_settled {n : Nat} (h : d.ev.touched = []) : (perstAssert n d).ev.touched = [] := by
  rcases Nat.lt_or_ge n 100 with hn | hn
  · rwa [perstAssert_short hn]
  · by_cases hp : d.st = .off ∨ d.st = .reset
    · rw [perstAssert_unpowered hn hp]
      exact h
    · rw [perstAssert_powered hn hp, flrPf1_frame, hostReset_frame]

end Inputs

/-! ### Every command -/

theorem answers_debugInstruction (code : BitVec 8) (s : State) : Answers (.debugInstruction code) s := by
  by_cases h : s.dev.st ≠ .off ∧ s.nv.lifecycle ≠ .fielded ∧ 0x40 ≤ code.toNat ∧ code.toNat ≤ 0x7F
  · exact .refuses code rfl (if_pos h)
  · exact answers_of_onTap (if_neg h) rfl

/-- Every command answers in one of these ways: what its meaning is lifted by says in which. -/
theorem answers (c : Instr) (s : State) : Answers c s := by
  cases c with
  | debugInstruction code => exact answers_debugInstruction code s
  | powerOn => exact answers_of_onAny rfl powerOn_settled
  | powerDown => exact answers_of_onAny rfl powerDown_settled
  | resetAssert => exact answers_of_onAny rfl resetAssert_settled
  | resetRelease => exact answers_of_onAny rfl resetRelease_settled
  | perstAssert => exact answers_of_onAny rfl perstAssert_settled
  | perstRelease => exact answers_of_onAny rfl id
  | extest | idcode | samplePreload | extestPulse | extestTrain | highz | clamp | bypass =>
    exact answers_of_onTap (by rw [exec]; rfl) (by rfl)
  | wipeComplete | haltLogWrite | crossingBoundary | retiredEraseDone | stageBegin | stageWrite | stageVerify
  | slotInvalidate | persistWrite | lcProvision | lcField | lcRetire => exact .writes _ (by constructor) rfl
  | flrPf0 | flrPf1 | busMasterEnableChange | pcieConfigWrite | unsupportedAccess | regWrite | rcRead | attach | detach
  | rearm | forceFence | unfence | musterAccept | snapshotTake | reckonIncrWrite | reckonStepWrite | reckonSetHiWrite
  | reckonSetLoWrite | servoAlive | primaryArm | primaryDisarm | ptmTrigger | strecConsWrite | tioModeWrite | tioArm
  | tioDisarm | gateConfigChange | gateCancel | shaperCfgWrite | portRestart | portTestStart | portTestStop | portSleep
  | portWake | verifyRestart | peCfgWrite | streamCfgWrite | genReset | rcvyReset | bankSwap | ruleWrite | ruleRead
  | ruleInvalidate | missActionWrite | meterCfgWrite | headingSelect | sqDoorbell | cqDoorbell | sqProdWrite
  | cqConsWrite | sqInvalidate | adminEnable | tenderAbort | tenderClear | eventRouteWrite | eventVecWrite
  | warmReset => exact answers_of_onHost rfl
  | _ => exact answers_of_onDev (by rw [exec]; rfl)

/-! ### What a meaning may write of the fuses and the flash -/

/-- One command's effect on what no reset clears: flash that stays canonical where it was, or the commit of one fuse. -/
inductive NvMove (n : NonVol) : NonVol → Prop
  | flash (m : Mem) (hm : FlashOk n → Memory.wf 0xFF m = true) : NvMove n { n with flash := m }
  | bumpSvn (v : Nat) (hv : n.fusedSvn < v) : NvMove n { n with fusedSvn := v }
  | provision (k : BitVec 384) (h : n.lifecycle = .blank) : NvMove n { n with fuses.provisioned := 3, keyHash := k }
  | field (h : n.lifecycle = .provisioned) : NvMove n { n with fuses.fielded := 3 }
  | retire : NvMove n { n with fuses.retired := 3 }

section Moves

variable {n : NonVol} {d : Device}

theorem NvMove.refl (n : NonVol) : NvMove n n := .flash n.flash id

theorem nvMove_loadStart (n : NonVol) (d : Device) : NvMove n (loadStart n d).1 := by
  have repaired (size : Nat) :
      NvMove n { n with flash := if size = 0 then n.flash else persistRepair (persistBase size) n.flash } := by
    refine .flash _ fun w => ?_
    split
    · exact w
    · exact wf_persistRepair _ w
  cases h : n.lifecycle <;> simp only [loadStart, h]
  case retired => exact .refl n
  case blank | provisioned | fielded => exact repaired _

theorem nvMove_wipeComplete (f : Sfdp) : NvMove n (wipeComplete f n d).1 := by
  unfold wipeComplete
  split
  · exact .refl n
  · exact nvMove_loadStart n _

theorem nvMove_retiredEraseDone : NvMove n (retiredEraseDone n d).1 := by
  by_cases he : Erases d
  · rw [retiredEraseDone_erases he]
    refine .flash _ fun w => ?_
    split
    · exact wf_flashErase _ _ w
    · exact wf_flashErase _ _ (wf_flashErase _ _ w)
  · rw [retiredEraseDone_idle he]
    exact .refl n

theorem nvMove_haltLogWrite : NvMove n (haltLogWrite n d).1 := by
  unfold haltLogWrite
  split
  · exact .refl n
  · dsimp only
    split
    · exact .refl n
    · exact .flash _ fun w => wf_persistPut _ _ _ _ w

/-! #### The crossing boundary (R502) -/

theorem nvMove_enterRun (ok : Bool) : NvMove n (enterRun ok n d).1 := by
  unfold enterRun
  dsimp only
  split
  · next h =>
    split
    · simp only [Bool.and_eq_true, decide_eq_true_eq] at h
      exact .bumpSvn _ h.2
    · exact .refl n
  · exact .refl n

theorem nvMove_boundaryMove (whole ok : Bool) : NvMove n (boundaryMove whole ok n d).1 := by
  unfold boundaryMove
  dsimp only
  split
  case h_1 => repeat' split
              all_goals exact .refl n
  case h_2 => split <;> exact .refl n
  case h_3 | h_4 =>
    split
    · exact nvMove_enterRun ok
    · exact .refl n
  all_goals exact .refl n

theorem nvMove_boundaryGoes (whole ok : Bool) (k : Nat) (e : Device) : NvMove n (boundaryGoes whole ok k n e).1 := by
  have h := nvMove_boundaryMove (n := n) (d := crossingReset { e with cross.current := some k }) whole ok
  unfold boundaryGoes
  generalize boundaryMove whole ok n _ = r at h ⊢
  split
  · exact .refl n
  · dsimp only
    split <;> exact h

theorem nvMove_crossingBoundary (w : Word) (ok : Bool) : NvMove n (crossingBoundary w ok n d).1 := by
  by_cases ho : BoundaryOff d
  · rw [crossingBoundary_off ho]
    exact .refl n
  · cases hw : d.wipeDue with
    | true =>
      rw [crossingBoundary_wipes ho hw]
      exact .refl n
    | false =>
      rw [crossingBoundary_goes rfl ho hw]
      exact nvMove_boundaryGoes _ _ _ _

/-! #### Staging and persistent records (R507, R508, R511) -/

/-- An admin command makes the move that its own part makes, whatever the entry and the device it runs on. -/
theorem nvMove_adminStepNv {op : Nat} {res : Bytes → Bool}
    {run : Bytes → NonVol → Device → Nat × CompBody × NonVol × Device} (h : ∀ b d, NvMove n (run b n d).2.2.1) :
    NvMove n (adminStepNv op res run n d).1 := by
  unfold adminStepNv
  split
  · exact .refl n
  · exact h _ _

@[simp] theorem chartAnswer_nv (st : Nat) (b : CompBody) (n : NonVol) (d : Device) : (chartAnswer st b n d).2.2.1 = n :=
  rfl

theorem nvMove_flashFail (a len : Nat) : NvMove n (flashFail a len n d).1 := .flash _ fun w => wf_flashProgram _ _ w

theorem nvMove_stageBegin (ok : Bool) : NvMove n (stageBegin ok n d).1 := by
  refine nvMove_adminStepNv fun b d => ?_
  dsimp only
  split
  · exact .refl n
  · split
    · exact .refl n
    · split
      · rw [chartAnswer_nv]
        exact nvMove_flashFail _ _
      · exact .flash _ fun w => wf_flashErase _ _ w

theorem nvMove_stageWrite (x : HostRead) (ok : Bool) : NvMove n (stageWrite x ok n d).1 := by
  unfold stageWrite
  split
  · exact .refl n
  · refine nvMove_adminStepNv fun b d => ?_
    dsimp only
    split
    · exact .refl n
    · split
      · exact .refl n
      · split
        · exact .refl n
        · split
          · exact .flash _ fun w => wf_flashProgram _ _ w
          · rw [chartAnswer_nv]
            exact nvMove_flashFail _ _

theorem nvMove_stageVerify : NvMove n (stageVerify n d).1 := by
  refine nvMove_adminStepNv fun b d => ?_
  dsimp only
  split
  · exact .refl n
  · split
    · exact .refl n
    · split
      · exact nvMove_loadStart n _
      · exact .refl n

theorem nvMove_slotInvalidate (ok : Bool) : NvMove n (slotInvalidate ok n d).1 := by
  refine nvMove_adminStepNv fun b d => ?_
  dsimp only
  split
  · exact .refl n
  · split
    · exact .refl n
    · split
      · exact .flash _ fun w => wf_flashErase _ _ w
      · rw [chartAnswer_nv]
        exact nvMove_flashFail _ _

theorem nvMove_persistWrite (x : HostRead) (ok : Bool) : NvMove n (persistWrite x ok n d).1 := by
  unfold persistWrite
  split
  · exact .refl n
  · refine nvMove_adminStepNv fun b d => ?_
    have put (base key : Nat) (bs : Bytes) : NvMove n { n with flash := persistPut base key bs ok n.flash } :=
      .flash _ fun w => wf_persistPut _ _ _ _ w
    dsimp only
    split
    · exact .refl n
    · split
      · exact .refl n
      · split
        · exact .refl n
        · split
          · exact .refl n
          · split <;> exact put _ _ _

/-! #### The life cycle (R516) -/

/-- A life-cycle command makes the move that its own part gives, and none where that part refuses. -/
theorem nvMove_lifecycleStep {op : Nat} {host : Bytes → Option Nat} {run : Bytes → NonVol → Nat ⊕ NonVol} {ok : Bool}
    (h : ∀ b m, run b n = .inr m → NvMove n m) : NvMove n (lifecycleStep op host run ok n d).1 := by
  unfold lifecycleStep
  split
  · exact .refl n
  · dsimp only
    split
    · exact .refl n
    · next m hm =>
      split
      · exact h _ m hm
      · exact .refl n

theorem nvMove_lcProvision (x : HostRead) (ok : Bool) : NvMove n (lcProvision x ok n d).1 := by
  unfold lcProvision
  split
  · exact .refl n
  · refine nvMove_lifecycleStep fun b m hm => ?_
    cases hl : n.lifecycle <;> rw [hl] at hm
    case blank =>
      cases x <;> cases hm
      exact .provision _ hl
    case provisioned | fielded | retired => cases hm

theorem nvMove_lcField (ok : Bool) : NvMove n (lcField ok n d).1 := by
  refine nvMove_lifecycleStep fun b m hm => ?_
  cases hl : n.lifecycle <;> rw [hl] at hm <;> cases hm
  exact .field hl

theorem nvMove_lcRetire (x : HostRead) (ok : Bool) : NvMove n (lcRetire x ok n d).1 := by
  unfold lcRetire
  split
  · exact .refl n
  · refine nvMove_lifecycleStep fun b m hm => ?_
    suffices m = { n with fuses.retired := 3 } by rw [this]; exact .retire
    split at hm
    · split at hm <;> cases hm
      rfl
    · split at hm
      · cases hm
      · split at hm <;> cases hm
        rfl
    · split at hm
      · cases hm
      · split at hm <;> cases hm
        rfl
    · cases hm

end Moves

/-- What a command that may write the fuses or the flash does with them. -/
theorem nvMove_of_writesNv {c : Instr} {g : NonVol → Device → NonVol × Device} (h : WritesNv c g) (n : NonVol)
    (d : Device) : NvMove n (g n d).1 := by
  cases h with
  | wipeComplete f => exact nvMove_wipeComplete f
  | crossingBoundary w ok => exact nvMove_crossingBoundary w ok
  | retiredEraseDone => exact nvMove_retiredEraseDone
  | haltLogWrite => exact nvMove_haltLogWrite
  | stageBegin ok => exact nvMove_stageBegin ok
  | stageWrite x ok => exact nvMove_stageWrite x ok
  | stageVerify => exact nvMove_stageVerify
  | slotInvalidate ok => exact nvMove_slotInvalidate ok
  | persistWrite x ok => exact nvMove_persistWrite x ok
  | lcProvision x ok => exact nvMove_lcProvision x ok
  | lcField ok => exact nvMove_lcField ok
  | lcRetire x ok => exact nvMove_lcRetire x ok

/-! ### What every step keeps -/

section Steps

variable {c : Instr} {s t : State}

/-- The next state a command answers: the fuses and the flash as they were, or moved by a meaning that may write them;
the queue as it was; and no vector waiting if none did before. -/
theorem exec_next_cases (h : exec c s = .next t) :
    (t.nv = s.nv ∨ ∃ g, WritesNv c g ∧ t.nv = (g s.nv s.dev).1) ∧ t.pending = s.pending ∧ (Settled s → Settled t) := by
  cases answers c s with
  | refuses code hc hr => cases h.symm.trans hr
  | device e he ht =>
    cases h.symm.trans he
    exact ⟨.inl rfl, rfl, ht⟩
  | writes g hg hw =>
    rcases onAll_cases g s t (hw.symm.trans h) with rfl | rfl
    · exact ⟨.inl rfl, rfl, id⟩
    · exact ⟨.inr ⟨g, hg, rfl⟩, rfl, fun _ => settle_touched _⟩

/-- A step moves the fuses and the flash as a command may, or leaves them. -/
theorem nvMove_step (h : step s = .next t) : NvMove s.nv t.nv := by
  unfold step at h
  split at h
  · cases h
    exact .refl s.nv
  · obtain ⟨hnv, -, -⟩ := exec_next_cases h
    rcases hnv with hn | ⟨g, hg, hn⟩
    · rw [hn]
      exact .refl s.nv
    · rw [hn]
      exact nvMove_of_writesNv hg s.nv s.dev

/-- A tick ends with the interrupt decision, and does nothing where no tick runs. -/
theorem tick_settled {d : Device} (h : d.ev.touched = []) : (tick d).ev.touched = [] := by
  unfold tick
  split
  · exact h
  · exact settle_touched _

end Steps

section Fuses

variable {n m : NonVol}

theorem NvMove.flashOk (h : NvMove n m) (w : FlashOk n) : FlashOk m := by
  cases h with
  | flash m hm => exact hm w
  | bumpSvn | provision | field | retire => exact w

theorem NvForward.refl (n : NonVol) : NvForward n n :=
  ⟨BitVec.or_self, BitVec.or_self, BitVec.or_self, le_rfl, le_rfl, fun _ => rfl, rfl, rfl⟩

/-- A pair of fuse bits programmed leaves none at 0 that read 1. -/
theorem fuseBits_or_programmed (b : BitVec 2) : b ||| 3 = 3 := BitVec.or_allOnes

theorem lifecycle_retired (n : NonVol) : { n with fuses.retired := 3 }.lifecycle = .retired := rfl

theorem lcCode_le_retired (l : Lifecycle) : lcCode l ≤ lcCode .retired := by cases l <;> decide

/-- A device that is PROVISIONED has not had the bits of RETIRED programmed. -/
theorem lifecycle_fielded (h : n.lifecycle = .provisioned) : { n with fuses.fielded := 3 }.lifecycle = .fielded := by
  have hr : n.fuses.retired ≠ 3 := fun hr => by simp [NonVol.lifecycle, hr] at h
  exact (if_neg hr).trans (if_pos rfl)

/-- A device that is BLANK has had the bits of no state programmed. -/
theorem lifecycle_provisioned (h : n.lifecycle = .blank) :
    { n with fuses.provisioned := 3 }.lifecycle = .provisioned := by
  have hr : n.fuses.retired ≠ 3 := fun hr => by simp [NonVol.lifecycle, hr] at h
  have hf : n.fuses.fielded ≠ 3 := fun hf => by simp only [NonVol.lifecycle, if_neg hr, if_pos hf, reduceCtorEq] at h
  exact (if_neg hr).trans ((if_neg hf).trans (if_pos rfl))

theorem NvMove.forward (h : NvMove n m) : NvForward n m := by
  obtain ⟨hp, hf, hr, hl, hs, hk, hu, hv⟩ := NvForward.refl n
  cases h with
  | flash => exact ⟨hp, hf, hr, hl, hs, hk, hu, hv⟩
  | bumpSvn v hlt => exact ⟨hp, hf, hr, hl, Nat.le_of_lt hlt, hk, hu, hv⟩
  | provision k hb =>
    exact ⟨fuseBits_or_programmed _, hf, hr, by rw [hb]; exact Nat.zero_le _, hs, fun hne => absurd hb hne, hu, hv⟩
  | field hb =>
    exact ⟨hp, fuseBits_or_programmed _, hr, by rw [hb, lifecycle_fielded hb]; decide, hs, hk, hu, hv⟩
  | retire => exact ⟨hp, hf, fuseBits_or_programmed _, lcCode_le_retired _, hs, hk, hu, hv⟩

end Fuses

/-! ### The statements -/

/-- Settles O6: each move of the fuses and the flash keeps the flash canonical. -/
theorem flashStaysCanonical : Obligations.FlashStaysCanonical := fun _ _ w h => (nvMove_step h).flashOk w

/-- Settles O7: each move of the fuses and the flash goes forward. -/
theorem fusesOnlyGoForward : Obligations.FusesOnlyGoForward := fun _ _ h => (nvMove_step h).forward

/-- Settles O8: the commands that may write the fuses or the flash, by name. -/
theorem onlyTheseWriteNonVolatile : Obligations.OnlyTheseWriteNonVolatile := by
  intro c s t h hne
  obtain ⟨hnv, -, -⟩ := exec_next_cases h
  obtain ⟨g, hg, -⟩ := hnv.resolve_left hne
  cases hg <;> simp

/-- Settles O9: a step is a command, after which none waits, or a tick. -/
theorem stepsEndDecided : Obligations.StepsEndDecided := by
  intro s t hs h
  unfold step at h
  split at h
  · cases h
    exact tick_settled hs
  · obtain ⟨-, -, hset⟩ := exec_next_cases h
    exact hset hs

/-- Settles O4: the one refusal is that of a debug instruction, under its one condition. -/
theorem onlyDebugInstructionRefused : Obligations.OnlyDebugInstructionRefused := by
  refine fun c s => ⟨?_, fun code => ⟨fun h => ?_, fun h => if_pos h⟩⟩
  · cases answers c s with
    | refuses code hc h => exact .inr ⟨code, hc, h⟩
    | device e h _ => exact .inl ⟨_, h⟩
    | writes g _ h =>
      obtain ⟨t, ht⟩ := onAll_next g s
      exact .inl ⟨t, h.trans ht⟩
  · by_contra hn
    have hrun : exec (.debugInstruction code) s = onTap (fun _ d => tapLoad tapBypass none d) s := if_neg hn
    rw [hrun, onTap] at h
    split at h <;> cases h

/-- Settles O3: no way of answering touches the queue, and none is a fault. -/
theorem execKeepsQueue : Obligations.ExecKeepsQueue := by
  refine fun c s => ⟨fun t h => ?_, fun f hf => ?_⟩
  · obtain ⟨-, hq, -⟩ := exec_next_cases h
    exact hq
  · obtain ⟨t, ht⟩ | ⟨code, -, hr⟩ := (onlyDebugInstructionRefused c s).1
    · cases hf.symm.trans ht
    · cases hf.symm.trans hr

/-- Settles O1: the queue of `s.withCommand c` is `c` before that of `s`. -/
theorem stepRunsFrontCommand : Obligations.StepRunsFrontCommand := fun _ _ => rfl

end Sys2Proof.Proofs

/-!
PROOFS. The registers of the host queues (R411 to R420, R437 to R444): doorbells, indices, invalidation, fetch reads and
QUEUE_ADMIN_CFG, one equation per case of each meaning.
-/

namespace Sys2Proof.Proofs

open Sys2Proof.Machine Sys2Proof.Safety

variable {d : Device} {q : Nat}

/-! ### Doorbells (R411, R440) -/

section CqDoorbell

variable (hp : (d.cq q).present = true)
include hp

theorem cqDoorbell_quiet (hn : (d.cq q).notify = false) : cqDoorbell q d = d := by simp [cqDoorbell, hp, hn]

variable (hn : (d.cq q).notify = true)
include hn

theorem cqDoorbell_arms (h : (d.cq q).prod = (d.cq q).cons) :
    cqDoorbell q d = d.setCq q { d.cq q with armed := true } := by
  simp [cqDoorbell, hp, hn, h]

theorem cqDoorbell_announces (h : (d.cq q).prod ≠ (d.cq q).cons) :
    cqDoorbell q d = evRaiseWith 384 [(d.cq q).vector] (d.setCq q { d.cq q with armed := true }) := by
  simp [cqDoorbell, hp, hn, h]

end CqDoorbell

theorem cqDoorbell_absent (hp : (d.cq q).present = false) : cqDoorbell q d = d.count 0xB0000 := by
  simp [cqDoorbell, hp]

/-! ### Indices (R415, R416) -/

section Indices

variable {v : BitVec 32}

theorem sqProdWrite_absent (hp : (d.sq q).present = false) : sqProdWrite q v d = d := by simp [sqProdWrite, hp]

theorem sqProdWrite_taken (hp : (d.sq q).present = true) (hv : prodRejected (d.sq q) v = false) :
    sqProdWrite q v d = fetchAll (d.setSq q { d.sq q with prod := v }) := by
  simp [sqProdWrite, hp, hv]

theorem sqProdWrite_overruns (hp : (d.sq q).present = true) (hv : prodRejected (d.sq q) v = true) :
    sqProdWrite q v d =
      queueEvent F.QUEUE_EVT_STATUS_SQ_OVERRUN F.QUEUE_EVT_EN_SQ_OVERRUN 386 q (d.count 0xB0008) := by
  simp [sqProdWrite, hp, hv]

theorem cqConsWrite_absent (hp : (d.cq q).present = false) : cqConsWrite q v d = d := by simp [cqConsWrite, hp]

variable (hp : (d.cq q).present = true)
include hp

theorem cqConsWrite_taken (hv : (v - (d.cq q).cons).toNat ≤ ((d.cq q).prod - (d.cq q).cons).toNat) :
    cqConsWrite q v d = fetchAll (cqDrain q (d.setCq q { d.cq q with cons := v })) :=
  (if_neg (by simp [hp])).trans (if_neg (Nat.not_lt.2 hv))

theorem cqConsWrite_invalid (hv : ((d.cq q).prod - (d.cq q).cons).toNat < (v - (d.cq q).cons).toNat) :
    cqConsWrite q v d =
      queueEvent F.QUEUE_EVT_STATUS_CQ_CONS_INVALID F.QUEUE_EVT_EN_CQ_CONS_INVALID 387 q (d.count 0xB0010) :=
  (if_neg (by simp [hp])).trans (if_pos hv)

end Indices

/-! ### Invalidation (R420) -/

theorem sqInvalidate_empties (hp : (d.sq q).present = true) (hq : q ≠ adminQ) :
    sqInvalidate q d =
      (d.setSq q { d.sq q with cache := [], sending := none, listTries := 0, invalidating := true }).count 0xB0028 := by
  simp [sqInvalidate, hp, hq]

theorem sqInvalidate_idle (h : (d.sq q).present = false ∨ q = adminQ) : sqInvalidate q d = d := by
  rcases h with h | h <;> simp [sqInvalidate, h]

/-! ### Fetch reads (R418) -/

section Fetched

variable {r : HostRead} {b : Bytes} {cause : Nat}

theorem unitFetchDone_idle (h : (d.sq q).inflight = 0) : unitFetchDone q r d = d := if_pos h

variable (hi : (d.sq q).inflight ≠ 0)
include hi

theorem unitFetchDone_discards (h : (d.sq q).invalidating = true ∨ (d.sq q).deleting.isSome = true) :
    unitFetchDone q r d = d.setSq q { d.sq q with inflight := 0, tries := 0 } :=
  (if_neg hi).trans (if_pos h)

variable (hv : (d.sq q).invalidating = false) (hd : (d.sq q).deleting = none)
include hv hd

theorem unitFetchDone_adds (hb : b.length = 32 * (d.sq q).inflight) :
    unitFetchDone q (.ok b) d =
      fetchAll (d.setSq q { d.sq q with inflight := 0, tries := 0, cache := (d.sq q).cache ++ chunks 32 b }) := by
  simp [unitFetchDone, hi, hv, hd, hb]

theorem unitFetchDone_short (hb : b.length ≠ 32 * (d.sq q).inflight) : unitFetchDone q (.ok b) d = d := by
  simp [unitFetchDone, hi, hv, hd, hb]

theorem unitFetchDone_retries (ht : (d.sq q).tries < d.rg F.QUEUE_CFG_RETRY_MAX) :
    unitFetchDone q (.failed cause) d =
      fetchAll (d.setSq q { d.sq q with inflight := 0, tries := (d.sq q).tries + 1, wanted := true }) := by
  simp [unitFetchDone, hi, hv, hd, ht]

theorem unitFetchDone_faults (ht : d.rg F.QUEUE_CFG_RETRY_MAX ≤ (d.sq q).tries) :
    unitFetchDone q (.failed cause) d =
      queueEvent F.QUEUE_EVT_STATUS_QUEUE_FAULT F.QUEUE_EVT_EN_QUEUE_FAULT 389 q
        (d.setSq q { d.sq q with inflight := 0, tries := 0, fault := true, wanted := false }) := by
  simp [unitFetchDone, hi, hv, hd, Nat.not_lt.2 ht]

end Fetched

/-! ### QUEUE_ADMIN_CFG (R444) -/

/-- What every write of QUEUE_ADMIN_CFG sets: NOTIFY and VECTOR, with CFG_ERR cleared on request. -/
def adminSettings (w : Word) (d : Device) : Device :=
  let e := if bit w.toNat 61 = true then d.ru F.QUEUE_ADMIN_CFG_CFG_ERR 0 else d
  let e := (e.rub F.QUEUE_ADMIN_CFG_NOTIFY_EN (bit w.toNat 62)).ru F.QUEUE_ADMIN_CFG_VECTOR (bits w.toNat 10 0)
  if (d.cq adminQ).present = true then
    e.setCq adminQ { d.cq adminQ with vector := bits w.toNat 10 0, notify := bit w.toNat 62 }
  else e

/-- The sizes, which a write sets while the pair is disabled. -/
def adminSizes (w : Word) (e : Device) : Device :=
  (e.ru F.QUEUE_ADMIN_CFG_CQ_SIZE_LOG2 (bits w.toNat 36 32)).ru F.QUEUE_ADMIN_CFG_SQ_SIZE_LOG2 (bits w.toNat 28 24)

/-- ENABLE 0: the pair's cache goes. -/
def adminOff (e : Device) : Device :=
  (if (e.sq adminQ).present = true then
    e.setSq adminQ { e.sq adminQ with cache := [], inflight := 0, wanted := false, prod := (e.sq adminQ).cons }
  else e).ru F.QUEUE_ADMIN_CFG_ENABLE 0

/-- The pair enabled from the registers. -/
def adminOn (w : Word) (e : Device) : Device :=
  let g := e.ru F.QUEUE_ADMIN_CFG_ENABLE 1
  let g := g.setSq adminQ
    { present := true, base := g.rg F.QUEUE_ADMIN_SQ_BASE_ADDR * 4096, cq := adminQ, kind := 3,
      sizeLog2 := bits w.toNat 28 24, live := (g.sq adminQ).live }
  g.setCq adminQ
    { present := true, base := g.rg F.QUEUE_ADMIN_CQ_BASE_ADDR * 4096, sizeLog2 := bits w.toNat 36 32, reserve := 4,
      vector := bits w.toNat 10 0, notify := bit w.toNat 62, armed := bit w.toNat 62 }

/-- The sizes that R444 takes. -/
abbrev AdminSizesOk (w : Word) : Prop :=
  6 ≤ bits w.toNat 28 24 ∧ bits w.toNat 28 24 ≤ 12 ∧ 6 ≤ bits w.toNat 36 32 ∧ bits w.toNat 36 32 ≤ 12

section AdminEnable

variable {w : Word}

/-- A write of QUEUE_ADMIN_CFG sets the settings, then the sizes while the pair is disabled, then what ENABLE asks. -/
theorem adminEnable_eq {e f : Device} (he : e = adminSettings w d)
    (hf : f = if d.rb F.QUEUE_ADMIN_CFG_ENABLE = true then e else adminSizes w e) :
    adminEnable w d =
      if d.rb F.QUEUE_ADMIN_CFG_ENABLE = true ∧ bit w.toNat 63 = true then f
      else if bit w.toNat 63 = false then adminOff f
      else if AdminSizesOk w then adminOn w f else f.ru F.QUEUE_ADMIN_CFG_CFG_ERR 1 := by
  have hcq : (((if bit w.toNat 61 = true then d.ru F.QUEUE_ADMIN_CFG_CFG_ERR 0 else d).rub
      F.QUEUE_ADMIN_CFG_NOTIFY_EN (bit w.toNat 62)).ru F.QUEUE_ADMIN_CFG_VECTOR (bits w.toNat 10 0)).cq adminQ =
        d.cq adminQ := by
    split <;> rfl
  subst he hf
  simp only [adminEnable, hcq, Bool.not_eq_true']
  rfl

end AdminEnable

/-! ### The statement -/

/-- Settles O51: each register by the case it finds. -/
theorem queueRegisters : Obligations.QueueRegisters := by
  intro s q cause v w r b x c rings
  refine ⟨fun hl h => ?rings, fun hl h => ?stray, fun hl h => ⟨?cqAbsent, ?consAbsent⟩, fun hl hp hn => ?quiet,
    fun hl hp hn h => ?arms, fun hl hp hn h => ?announces, fun hl hp => ?prodAbsent, fun hl hp hv => ?prodTaken,
    fun hl hp hv => ?overruns, fun hl hp hv => ?consTaken, fun hl hp hv => ?consInvalid, fun hl hp hq => ?empties,
    fun hl h => ?invalidateIdle, fun hp h => ?invalidated, fun hp h => ?notInvalidating, fun hp h => ?noRead,
    fun hp hi h => ?discards, fun hp hi hv hd => ⟨fun hb => ?adds, fun hb => ?short, fun ht => ?retries,
      fun ht => ?faults⟩, fun hl => ?admin⟩
  case rings => exact runs_of_onHost rfl hl (if_pos h)
  case stray => exact runs_of_onHost rfl hl (if_neg h)
  case cqAbsent => exact runs_of_onHost rfl hl (cqDoorbell_absent h)
  case consAbsent => exact runs_of_onHost rfl hl (cqConsWrite_absent h)
  case quiet => exact runs_of_onHost rfl hl (cqDoorbell_quiet hp hn)
  case arms => exact runs_of_onHost rfl hl (cqDoorbell_arms hp hn h)
  case announces => exact runs_of_onHost rfl hl (cqDoorbell_announces hp hn h)
  case prodAbsent => exact runs_of_onHost rfl hl (sqProdWrite_absent hp)
  case prodTaken => exact runs_of_onHost rfl hl (sqProdWrite_taken hp hv)
  case overruns => exact runs_of_onHost rfl hl (sqProdWrite_overruns hp hv)
  case consTaken => exact runs_of_onHost rfl hl (cqConsWrite_taken hp hv)
  case consInvalid => exact runs_of_onHost rfl hl (cqConsWrite_invalid hp hv)
  case empties => exact runs_of_onHost rfl hl (sqInvalidate_empties hp hq)
  case invalidateIdle => exact runs_of_onHost rfl hl (sqInvalidate_idle h)
  case invalidated => exact runs_of_onDev rfl hp (if_pos h)
  case notInvalidating => exact runs_of_onDev rfl hp (if_neg (Bool.eq_false_iff.1 h))
  case noRead => exact runs_of_onDev rfl hp (unitFetchDone_idle h)
  case discards => exact runs_of_onDev rfl hp (unitFetchDone_discards hi h)
  case adds => exact runs_of_onDev rfl hp (unitFetchDone_adds hi hv hd hb)
  case short => exact runs_of_onDev rfl hp (unitFetchDone_short hi hv hd hb)
  case retries => exact runs_of_onDev rfl hp (unitFetchDone_retries hi hv hd ht)
  case faults => exact runs_of_onDev rfl hp (unitFetchDone_faults hi hv hd ht)
  case admin =>
    intro a sl cl ve no e₀ e₁ e sized f legal
    have h := adminEnable_eq (w := w) (d := s.dev) (e := e) (f := f) rfl rfl
    refine ⟨fun hb hp => ?absentOff, fun hb hp => ?off, fun hb he => ?stays,
      fun hb he => ⟨fun hk => ?on, fun hk => ?bad⟩⟩
    case absentOff =>
      refine runs_of_onHost rfl hl (h.trans ?_)
      rw [if_neg (by simp [hb]), if_pos hb, adminOff, if_neg (Bool.eq_false_iff.1 hp)]
    case off =>
      refine runs_of_onHost rfl hl (h.trans ?_)
      rw [if_neg (by simp [hb]), if_pos hb, adminOff, if_pos hp]
    case stays => exact runs_of_onHost rfl hl (h.trans ((if_pos ⟨he, hb⟩).trans (if_pos he)))
    case on =>
      have hf : f = sized := if_neg (Bool.eq_false_iff.1 he)
      rw [hf, if_neg (by simp [he]), if_neg (by simp [hb]), if_pos hk] at h
      exact runs_of_onHost rfl hl h
    case bad =>
      have hf : f = sized := if_neg (Bool.eq_false_iff.1 he)
      rw [hf, if_neg (by simp [he]), if_neg (by simp [hb]), if_neg hk] at h
      exact runs_of_onHost rfl hl h

end Sys2Proof.Proofs

/-!
PROOFS. The entries of the I/O queues (R421 to R434): what becomes of the head of a queue, and each opcode by the checks
in the order of Table 14-5.
-/

namespace Sys2Proof.Proofs

open Sys2Proof.Machine Sys2Proof.Safety

variable {d : Device} {q : Nat} {e : Entry}

/-! ### The head entry -/

section Pick

variable {op : Nat} {res : Bytes → Bool}

theorem entryPick_no_head (h : headEntry q d = none) : entryPick q op res d = .inl d := by rw [entryPick, h]

variable (h : headEntry q d = some e)
include h

theorem entryPick_bad {st : Nat} (hb : entryBadStatus (d.sq q).kind e = some st) :
    entryPick q op res d = .inl (entryRefuse q e st d) := by
  simp only [entryPick, h, hb]

variable (hb : entryBadStatus (d.sq q).kind e = none)
include hb

theorem entryPick_other (ho : bits (leWord e.bytes 0) 63 56 ≠ op) : entryPick q op res d = .inl d := by
  simp only [entryPick, h, hb, if_pos ho]

theorem entryPick_reserved (ho : bits (leWord e.bytes 0) 63 56 = op) (hr : res e.bytes = true) :
    entryPick q op res d = .inl (entryRefuse q e 0x03 d) := by
  simp [entryPick, h, hb, ho, hr]

theorem entryPick_runs (ho : bits (leWord e.bytes 0) 63 56 = op) (hr : res e.bytes = false) :
    entryPick q op res d = .inr e := by
  simp [entryPick, h, hb, ho, hr]

end Pick

section Step

variable {op : Nat} {res : Bytes → Bool} {run : Entry → Device → Device}

theorem entryStep_ends {f : Device} (h : entryPick q op res d = .inl f) : entryStep q op res run d = f := by
  rw [entryStep, h]

theorem entryStep_runs (h : entryPick q op res d = .inr e) : entryStep q op res run d = run e d := by
  rw [entryStep, h]

end Step

/-! ### Reads of host memory -/

/-- A read of host memory is outputs only. -/
theorem emitRead_out (d : Device) (a n : Nat) : d.emitRead a n = { d with out := (d.emitRead a n).out } := by
  have fold (l : List (Nat × Nat)) (d : Device) : l.foldl (fun d r => d.emit (.hostRead r.1 r.2)) d =
      { d with out := (l.foldl (fun d r => d.emit (.hostRead r.1 r.2)) d).out } := by
    induction l generalizing d with
    | nil => rfl
    | cons r l ih => exact ih (d.emit (.hostRead r.1 r.2))
  exact fold _ d

@[simp] theorem emitRead_rg (d : Device) (a n : Nat) (f : Fld) (i j : Nat) :
    (d.emitRead a n).rg f i j = d.rg f i j := by
  rw [emitRead_out]
  rfl

/-! ### SEND (R426 to R429) -/

/-- A SEND entry taken up: its list, and then its pairs. -/
def sendTaken (q : Nat) (r : HostRead) (e : Entry) (d : Device) : Device :=
  let n := leWord e.bytes 0 % 512
  if !sgEntryOk e.bytes then entryRefuse q e 0x04 d
  else if bit (leWord e.bytes 0) 30 then
    let d := d.emitRead (leWord e.bytes 1) (16 * n)
    match r with
    | .ok b => if b.length = 16 * n then sendPairs q e (sgPairs n b) (d.setSq q { d.sq q with listTries := 0 }) else d
    | .failed _ =>
      if (d.sq q).listTries < d.rg F.QUEUE_CFG_RETRY_MAX then
        d.setSq q { d.sq q with listTries := (d.sq q).listTries + 1 }
      else entryRefuse q e 0x09 (d.setSq q { d.sq q with listTries := 0 })
  else sendPairs q e (sgPairs n (slice e.bytes 16 16 ++ e.bytes.drop (if bit (leWord e.bytes 0) 31 then 64 else 32))) d

section Send

variable {r : HostRead}

/-- An entry whose data are to be read waits while PF0 may issue no request or no tag is free. -/
theorem cannot_read_iff (d : Device) : (!d.bme || !queueTag d) = true ↔ d.bme = false ∨ queueTag d = false := by simp

theorem sendEntry_waits (h : d.bme = false ∨ queueTag d = false) : sendEntry q r d = d :=
  if_pos ((cannot_read_iff d).2 h)

section Reads

variable (hb : d.bme = true) (ht : queueTag d = true)
include hb ht

theorem can_read : ¬ (!d.bme || !queueTag d) = true := by simp [hb, ht]

theorem sendEntry_ends {f : Device} (h : entryPick q 1 sendReserved d = .inl f) : sendEntry q r d = f :=
  (if_neg (can_read hb ht)).trans (entryStep_ends h)

theorem sendEntry_runs (h : entryPick q 1 sendReserved d = .inr e) : sendEntry q r d = sendTaken q r e d :=
  (if_neg (can_read hb ht)).trans (entryStep_runs h)

end Reads

theorem sendTaken_badList (h : sgEntryOk e.bytes = false) : sendTaken q r e d = entryRefuse q e 0x04 d :=
  if_pos (by simp [h])

section Indirect

variable {x : Device} (hok : sgEntryOk e.bytes = true) (hi : bit (leWord e.bytes 0) 30 = true)
  (hx : x = d.emitRead (leWord e.bytes 1) (16 * (leWord e.bytes 0 % 512)))
include hok hi hx

theorem sendTaken_retries {cause : Nat} (h : (x.sq q).listTries < d.rg F.QUEUE_CFG_RETRY_MAX) :
    sendTaken q (.failed cause) e d = x.setSq q { x.sq q with listTries := (x.sq q).listTries + 1 } := by
  subst hx
  simp [sendTaken, hok, hi, h]

theorem sendTaken_gives_up {cause : Nat} (h : d.rg F.QUEUE_CFG_RETRY_MAX ≤ (x.sq q).listTries) :
    sendTaken q (.failed cause) e d = entryRefuse q e 0x09 (x.setSq q { x.sq q with listTries := 0 }) := by
  subst hx
  simp [sendTaken, hok, hi, Nat.not_lt.2 h]

theorem sendTaken_short {b : Bytes} (h : b.length ≠ 16 * (leWord e.bytes 0 % 512)) : sendTaken q (.ok b) e d = x := by
  simp [sendTaken, hok, hi, hx, h]

theorem sendTaken_list {b : Bytes} (h : b.length = 16 * (leWord e.bytes 0 % 512)) :
    sendTaken q (.ok b) e d =
      sendPairs q e (sgPairs (leWord e.bytes 0 % 512) b) (x.setSq q { x.sq q with listTries := 0 }) := by
  simp [sendTaken, hok, hi, hx, h]

end Indirect

theorem sendTaken_direct (hok : sgEntryOk e.bytes = true) (hi : bit (leWord e.bytes 0) 30 = false) :
    sendTaken q r e d =
      sendPairs q e (sgPairs (leWord e.bytes 0 % 512)
        (slice e.bytes 16 16 ++ e.bytes.drop (if bit (leWord e.bytes 0) 31 then 64 else 32))) d := by
  simp [sendTaken, hok, hi]

end Send

section Pairs

variable {l : List (Nat × Nat × Bool)} {c : SendCtx}

theorem sendPairs_badList (h : sgPairsOk l = false) : sendPairs q e l d = entryRefuse q e 0x04 d :=
  if_pos (by simp [h])

variable (h : sgPairsOk l = true) (hc : c = sendCtx e.bytes (d.sq q).tb (sgTotal l))
include h hc

theorem sendPairs_badStamp (hs : stampOk c (bits (leWord e.bytes 7) 63 32) (sgTotal l) = false) :
    sendPairs q e l d = entryRefuse q e 0x0D d := by
  subst hc
  simp [sendPairs, h, hs]

theorem sendPairs_reads (hs : stampOk c (bits (leWord e.bytes 7) 63 32) (sgTotal l) = true) :
    sendPairs q e l d =
      l.foldl (fun d p => d.emitRead p.1 p.2.1)
        ((d.setSq q { d.sq q with sending := some c }).emit
          (.hostRead ((d.sq q).base + 32 * ((d.sq q).cons.toNat % 2 ^ (d.sq q).sizeLog2)) 8)) := by
  subst hc
  simp [sendPairs, h, hs]

end Pairs

/-! ### SEND_FRAME_FETCHED (R421) -/

section FrameFetched

variable {head : Bytes} {r : HostRead}

theorem sendFrameFetched_idle (h : (d.sq q).sending = none ∨ (d.sq q).entryAt 0 = none) :
    sendFrameFetched q head r d = d := by
  rw [sendFrameFetched]
  split
  · next hx he => rcases h with h | h <;> simp_all
  · rfl

variable {x : SendCtx} {b : Bytes} (hx : (d.sq q).sending = some x) (he : (d.sq q).entryAt 0 = some e)
include hx he

theorem sendFrameFetched_short (h : b.length ≠ x.frameLen ∨ head.length ≠ 8) :
    sendFrameFetched q head (.ok b) d = d := by
  simp only [sendFrameFetched, hx, he, if_pos h]

theorem sendFrameFetched_fails {cause : Nat} :
    sendFrameFetched q head (.failed cause) d = entryRefuse q e 0x09 (d.setSq q { d.sq q with sending := none }) := by
  simp only [sendFrameFetched, hx, he]

variable (hlen : b.length = x.frameLen) (h8 : head.length = 8)
include hlen h8

theorem sendFrameFetched_offers {o : EntryRef × Device}
    (ho : o = entryStart q e x.tb (d.setSq q { d.sq q with sending := none })) (h : head = x.head) :
    sendFrameFetched q head (.ok b) d = fetchAll (sendOffer q o.1 x b o.2) := by
  subst h ho
  simp [sendFrameFetched, hx, he, hlen, h8]

theorem sendFrameFetched_stale (h : head ≠ x.head) :
    sendFrameFetched q head (.ok b) d = entryRefuse q e 0x0C (d.setSq q { d.sq q with sending := none }) := by
  simp [sendFrameFetched, hx, he, hlen, h8, h]

end FrameFetched

/-! ### ACYCLIC_SEND (R433) -/

/-- Every window's room is below `n` bytes where no window takes as many. -/
theorem all_narrow {l : List Nat} {f : Nat → Nat} {n : Nat} (h : (l.any fun w => decide (n ≤ f w)) = false) :
    (l.all fun w => decide (f w < n)) = true := by
  simpa using h

/-- A window that takes `n` bytes is one, and its room is not below them. -/
theorem some_wide {l : List Nat} {f : Nat → Nat} {n : Nat} (h : (l.any fun w => decide (n ≤ f w)) = true) :
    l ≠ [] ∧ ¬ (l.all fun w => decide (f w < n)) = true := by
  obtain ⟨w, hw, hn⟩ := List.any_eq_true.1 h
  refine ⟨List.ne_nil_of_mem hw, fun hall => ?_⟩
  have hlt := List.all_eq_true.1 hall w hw
  simp only [decide_eq_true_eq] at hn hlt
  omega

/-- The branch has no path that an own ACYCLIC frame could take. -/
def AcyclicGone (b : Nat) (d : Device) : Prop :=
  d.rb F.CROSS_BR_CFG_ENABLE b = false ∨ d.rg F.FIX_MUSTER_BR_RESULT b = 3 ∨ pathsOf b d = []

/-- An own ACYCLIC frame takes its node's next SEQ and waits at its branch. -/
def acyclicQueued (q : Nat) (e : Entry) (bytes : Bytes) (d : Device) : Device :=
  let w0 := leWord e.bytes 0
  let b := bits w0 31 27
  let node := bits w0 26 13
  let o := entryStart q e 0 d
  let seq := tabGet 0 o.2.cross.acySeq node
  let a : AcyOut := { node := node, mbx := bits w0 12 5, seq := seq, data := bytes, entry := o.1 }
  let f := { o.2 with cross.acySeq := tabSet 0 o.2.cross.acySeq node ((seq + 1) % 256) }
  fetchAll (f.setBranch b { f.branch b with acyQueue := (f.branch b).acyQueue ++ [a] })

/-- What becomes of an entry whose `n` data bytes have been asked for. -/
def acyclicData (q : Nat) (e : Entry) (n : Nat) (r : HostRead) (d : Device) : Device :=
  match r with
  | .failed _ => entryNow q e 0 0x09 {} d
  | .ok bs => if bs.length = n then acyclicQueued q e bs d else d

section Acyclic

variable {r : HostRead} {b n : Nat}

theorem acyclicSend_waits (h : d.bme = false ∨ queueTag d = false) : acyclicSend q r d = d :=
  if_pos ((cannot_read_iff d).2 h)

variable (hb : d.bme = true) (ht : queueTag d = true)
include hb ht

theorem acyclicSend_ends {f : Device} (h : entryPick q 3 acyclicReserved d = .inl f) : acyclicSend q r d = f :=
  (if_neg (can_read hb ht)).trans (entryStep_ends h)

variable (h : entryPick q 3 acyclicReserved d = .inr e) (hbr : b = bits (leWord e.bytes 0) 31 27)
include h hbr

theorem acyclicSend_gone (hg : AcyclicGone b d) : acyclicSend q r d = entryNow q e 0 0x0F {} d := by
  subst hbr
  exact (if_neg (can_read hb ht)).trans ((entryStep_runs h).trans (if_pos hg))

variable (hg : ¬ AcyclicGone b d)
include hg

theorem acyclicSend_down (hw : downWindows b d = []) : acyclicSend q r d = entryNow q e 0 0x0A {} d := by
  subst hbr
  exact (if_neg (can_read hb ht)).trans ((entryStep_runs h).trans ((if_neg hg).trans (if_pos hw)))

variable (hn : n = leWord e.bytes 2 % 2 ^ 11)
include hn

theorem acyclicSend_narrow (hd : downWindows b d ≠ [])
    (hw : ((downWindows b d).any fun w => decide (n ≤ d.rg F.PILOT_ACY_CFG_MAX_DATA b w)) = false) :
    acyclicSend q r d = entryNow q e 0 0x05 {} d := by
  subst hbr hn
  exact (if_neg (can_read hb ht)).trans ((entryStep_runs h).trans ((if_neg hg).trans ((if_neg hd).trans
    (if_pos (all_narrow hw)))))

variable (hw : ((downWindows b d).any fun w => decide (n ≤ d.rg F.PILOT_ACY_CFG_MAX_DATA b w)) = true)
include hw

theorem acyclicSend_fits :
    acyclicSend q r d =
      if n = 0 then acyclicQueued q e [] d else acyclicData q e n r (d.emitRead (leWord e.bytes 1) n) := by
  subst hbr hn
  obtain ⟨hd, hwide⟩ := some_wide hw
  exact (if_neg (can_read hb ht)).trans ((entryStep_runs h).trans ((if_neg hg).trans ((if_neg hd).trans
    (if_neg hwide))))

theorem acyclicSend_empty (h0 : n = 0) : acyclicSend q r d = acyclicQueued q e [] d :=
  (acyclicSend_fits hb ht h hbr hg hn hw).trans (if_pos h0)

theorem acyclicSend_asks (h0 : n ≠ 0) :
    acyclicSend q r d = acyclicData q e n r (d.emitRead (leWord e.bytes 1) n) :=
  (acyclicSend_fits hb ht h hbr hg hn hw).trans (if_neg h0)

end Acyclic

/-! ### TENDER_RUN (R434) -/

section TenderRun

/-- Reserved bits and encodings of a TENDER_RUN entry. -/
def tenderRunReserved (b : Bytes) : Bool := word0Reserved b || entryUnits b != 1

variable {c : Nat} (h : entryPick q 4 tenderRunReserved d = .inr e) (hc : c = leWord e.bytes 0 % 64)
include h hc

theorem tenderRunEntry_reservedChan (hlo : c < 16) : tenderRunEntry q d = entryNow q e 0 0x12 {} d := by
  subst hc
  exact (entryStep_runs h).trans (if_pos hlo)

variable (hlo : 16 ≤ c)
include hlo

theorem tenderRunEntry_starts {o : EntryRef × Device} (ho : o = entryStart q e 0 d) (hs : (d.chan c).st = .idle) :
    tenderRunEntry q d = tenderStart c (leWord e.bytes 1) (some o.1) o.2 := by
  subst hc ho
  refine (entryStep_runs h).trans ((if_neg (Nat.not_lt.2 hlo)).trans ?_)
  simp only [hs]

theorem tenderRunEntry_waits (hs : (d.chan c).st = .running) : tenderRunEntry q d = d := by
  subst hc
  refine (entryStep_runs h).trans ((if_neg (Nat.not_lt.2 hlo)).trans ?_)
  simp only [hs]

theorem tenderRunEntry_halted (hs : (d.chan c).st = .halted) : tenderRunEntry q d = entryNow q e 0 0x10 {} d := by
  subst hc
  refine (entryStep_runs h).trans ((if_neg (Nat.not_lt.2 hlo)).trans ?_)
  simp only [hs]

end TenderRun

/-! ### The statement -/

/-- Settles O52: the head of a queue by its checks, then each opcode. -/
theorem queueEntries : Obligations.QueueEntries := by
  intro s q op st cause e x r bs head res d f l w0 runRes
  refine ⟨entryPick_no_head, fun h hb => entryPick_bad h hb,
    fun h hb => ⟨entryPick_other h hb, entryPick_reserved h hb, entryPick_runs h hb⟩,
    fun hp h => ?nopEnds, fun hp h => ?nop, fun hp h => ?postEnds, fun hp h => ?post,
    fun hp h => ⟨?sendWaits, ?acyclicWaits⟩, fun hp hb ht h => ?sendEnds, fun hp hb ht h hok => ?badList,
    fun hp hb ht h hok => ?send, fun hp h => ?fetchedIdle, fun hp hx he => ?fetched, fun hp hb ht h => ?acyclicEnds,
    fun hp hb ht h => ?acyclic, fun hp h => ?runEnds, fun hp h => ?run⟩
  case nopEnds | postEnds | runEnds => exact runs_of_onDev rfl hp (entryStep_ends h)
  case nop | post => exact runs_of_onDev rfl hp (entryStep_runs h)
  case sendWaits => exact runs_of_onDev rfl hp (sendEntry_waits h)
  case acyclicWaits => exact runs_of_onDev rfl hp (acyclicSend_waits h)
  case sendEnds => exact runs_of_onDev rfl hp (sendEntry_ends hb ht h)
  case badList => exact runs_of_onDev rfl hp ((sendEntry_runs hb ht h).trans (sendTaken_badList hok))
  case send =>
    intro n asked y
    have taken {g : Device → Device} (hg : sendTaken q r e s.dev = g s.dev) : Runs (.send q r) s g :=
      runs_of_onDev rfl hp ((sendEntry_runs hb ht h).trans hg)
    refine ⟨fun hi hr ht => ?retries, fun hi hr ht => ?givesUp, fun hi hr hn => ?short, fun hl => ?pairs⟩
    case retries => subst hr; exact taken (sendTaken_retries hok hi rfl ht)
    case givesUp => subst hr; exact taken (sendTaken_gives_up hok hi rfl ht)
    case short => subst hr; exact taken (sendTaken_short hok hi rfl hn)
    case pairs =>
      have hpairs : sendTaken q r e s.dev = sendPairs q e l f := by
        rcases hl with ⟨hi, rfl, hn, rfl, rfl⟩ | ⟨hi, rfl, rfl⟩
        · exact sendTaken_list hok hi rfl hn
        · exact sendTaken_direct hok hi
      exact ⟨fun hbad => taken (hpairs.trans (sendPairs_badList hbad)),
        fun hgood hs => taken (hpairs.trans (sendPairs_badStamp hgood rfl hs)),
        fun hgood hs => taken (hpairs.trans (sendPairs_reads hgood rfl hs))⟩
  case fetchedIdle => exact runs_of_onDev rfl hp (sendFrameFetched_idle h)
  case fetched =>
    exact ⟨fun h => runs_of_onDev rfl hp (sendFrameFetched_short hx he h),
      fun hlen h8 h => runs_of_onDev rfl hp (sendFrameFetched_offers hx he hlen h8 rfl h),
      fun hlen h8 h => runs_of_onDev rfl hp (sendFrameFetched_stale hx he hlen h8 h),
      runs_of_onDev rfl hp (sendFrameFetched_fails hx he)⟩
  case acyclicEnds => exact runs_of_onDev rfl hp (acyclicSend_ends hb ht h)
  case acyclic =>
    intro b node n downs gone wide refused queued asked
    refine ⟨fun hg => ?gone, fun hg hd => ?down, fun hg hd hw => ?narrow, fun hg hw h0 => ?empty, fun hg hw h0 => ?data⟩
    case gone => exact runs_of_onDev rfl hp (acyclicSend_gone hb ht h rfl hg)
    case down => exact runs_of_onDev rfl hp (acyclicSend_down hb ht h rfl hg hd)
    case narrow => exact runs_of_onDev rfl hp (acyclicSend_narrow hb ht h rfl hg rfl hd hw)
    case empty => exact runs_of_onDev rfl hp (acyclicSend_empty hb ht h rfl hg rfl hw h0)
    case data =>
      have asks (r : HostRead) := acyclicSend_asks (r := r) hb ht h rfl hg rfl hw h0
      exact ⟨fun hlen => runs_of_onDev rfl hp ((asks _).trans (if_pos hlen)),
        fun hlen => runs_of_onDev rfl hp ((asks _).trans (if_neg hlen)), runs_of_onDev rfl hp (asks _)⟩
  case run =>
    exact ⟨fun hlo hs => runs_of_onDev rfl hp (tenderRunEntry_starts h rfl hlo rfl hs),
      fun hlo hs => runs_of_onDev rfl hp (tenderRunEntry_waits h rfl hlo hs),
      fun hlo hs => runs_of_onDev rfl hp (tenderRunEntry_halted h rfl hlo hs),
      fun hlo => runs_of_onDev rfl hp (tenderRunEntry_reservedChan h rfl hlo)⟩

end Sys2Proof.Proofs

/-!
PROOFS. The admin pair (R445 to R447): what becomes of its head, and the queue commands, each by the tests of Tables
14-10 and 14-11 in their order.
-/

namespace Sys2Proof.Proofs

open Sys2Proof.Machine Sys2Proof.Safety

variable {d : Device} {e : Entry}

/-! ### The head of the admin pair -/

section Pick

variable {op : Nat} {qid : Bool} {res : Bytes → Bool}

theorem adminPick_ends {f : Device} (h : entryPick adminQ op (fun _ => false) d = .inl f) :
    adminPick op qid res d = .inl f := by
  rw [adminPick, h]

/-- Whether the device's state permits an admin command: HALT none but those of Table 17-12 (R450). -/
def AdminPermitted (op : Nat) (d : Device) : Prop := if op < 0x20 then d.st ≠ .halt else chartOpAllowed op d.st = true

/-- Whether an entry has a reserved field that is not 0, or units past its second. -/
def AdminReserved (res : Bytes → Bool) (e : Entry) : Prop :=
  word0Reserved e.bytes = true ∨ 2 < entryUnits e.bytes ∨ res e.bytes = true

theorem qid_taken (hq : qid = false ∨ leWord e.bytes 0 % 2 ^ 16 ≤ 4095) :
    ¬ (qid = true ∧ 4095 < leWord e.bytes 0 % 2 ^ 16) := by
  rintro ⟨rfl, hn⟩
  exact hq.elim Bool.noConfusion (Nat.not_le.2 hn)

variable (h : entryPick adminQ op (fun _ => false) d = .inr e)
include h

theorem adminPick_badQid (hq : qid = true) (hn : 4095 < leWord e.bytes 0 % 2 ^ 16) :
    adminPick op qid res d = .inl (entryNow adminQ e 0 0x40 {} d) := by
  simp only [adminPick, h]
  exact if_pos ⟨hq, hn⟩

variable (hq : qid = false ∨ leWord e.bytes 0 % 2 ^ 16 ≤ 4095)
include hq

theorem adminPick_reserved (hr : AdminReserved res e) :
    adminPick op qid res d = .inl (entryRefuse adminQ e 0x03 d) := by
  simp only [adminPick, h]
  exact (if_neg (qid_taken hq)).trans (if_pos hr)

variable (hr : ¬ AdminReserved res e)
include hr

theorem adminPick_forbidden (hp : ¬ AdminPermitted op d) :
    adminPick op qid res d = .inl (entryNow adminQ e 0 0x46 {} d) := by
  simp only [adminPick, h]
  refine (if_neg (qid_taken hq)).trans ((if_neg hr).trans ?_)
  unfold AdminPermitted at hp
  split at hp
  · next ho => rw [if_neg (by omega), if_pos ⟨ho, Classical.not_not.1 hp⟩]
  · next ho => exact if_pos ⟨Nat.not_lt.1 ho, Bool.eq_false_iff.2 hp⟩

theorem adminPick_runs (hp : AdminPermitted op d) : adminPick op qid res d = .inr e := by
  simp only [adminPick, h]
  refine (if_neg (qid_taken hq)).trans ((if_neg hr).trans ?_)
  unfold AdminPermitted at hp
  split at hp
  · next ho => rw [if_neg (by omega), if_neg fun hc => hp hc.2]
  · next ho => rw [if_neg fun hc => Bool.eq_false_iff.1 hc.2 hp, if_neg fun hc => ho hc.1]

end Pick

/-! ### Commands that test and then make -/

/-- An admin command of one test: it completes with the status of the first test it fails, or makes its change. -/
def testedRun (test : Bytes → Device → Nat) (act : Bytes → Device → Device) (b : Bytes) (d : Device) :
    Nat × CompBody × Device :=
  (test b d, {}, if test b d = 0 then act b d else d)

section Tested

variable {op : Nat} {qid : Bool} {res : Bytes → Bool} {test : Bytes → Device → Nat} {act : Bytes → Device → Device}
  (ha : adminPick op qid res d = .inr e)
include ha

theorem adminStep_tested_refused {st : Nat} (ht : test e.bytes (entryStart adminQ e 0 d).2 = st) (hst : st ≠ 0) :
    adminStep op qid res (testedRun test act) d = entryNow adminQ e 0 st {} d := by
  simp only [adminStep, ha, testedRun, ht, if_neg hst]
  rfl

theorem adminStep_tested_makes {o : EntryRef × Device} (ho : o = entryStart adminQ e 0 d) (ht : test e.bytes o.2 = 0) :
    adminStep op qid res (testedRun test act) d = entryComplete o.1 0 {} (act e.bytes o.2) := by
  subst ho
  simp only [adminStep, ha, testedRun, ht, if_true]

end Tested

/-! ### CREATE_CQ -/

/-- The first test that a CREATE_CQ fails. -/
def createCqTest (b : Bytes) (d : Device) : Nat :=
  let w := leWord b 2
  if !createOk d then 0x46
  else if (d.cq (leWord b 0 % 2 ^ 16)).present then 0x41
  else if leWord b 1 % 4096 ≠ 0 then 0x44
  else if w % 32 < 6 ∨ 16 < w % 32 ∨ bits w 63 48 < 4 then 0x43
  else if 32768 < reservations d + bits w 63 48 then 0x48
  else 0

/-- The completion queue that a CREATE_CQ makes. -/
def createCqMakes (b : Bytes) (d : Device) : Device :=
  let w := leWord b 2
  d.setCq (leWord b 0 % 2 ^ 16)
    { present := true, base := leWord b 1, sizeLog2 := w % 32, reserve := bits w 63 48, vector := bits w 42 32,
      notify := bit w 31, armed := bit w 31 }

theorem createCq_eq (d : Device) :
    createCq d = adminStep 0x01 true (fun _ => false) (testedRun createCqTest createCqMakes) d := rfl

section CreateCq

variable {b : Bytes}

theorem createCqTest_closed (h : createOk d = false) : createCqTest b d = 0x46 := if_pos (by simp [h])

variable (hok : createOk d = true)
include hok

theorem createOpen : ¬ (!createOk d) = true := by simp [hok]

theorem createCqTest_exists (h : (d.cq (leWord b 0 % 2 ^ 16)).present = true) : createCqTest b d = 0x41 :=
  (if_neg (createOpen hok)).trans (if_pos h)

variable (hnew : (d.cq (leWord b 0 % 2 ^ 16)).present = false)
include hnew

theorem createCqTest_badBase (h : leWord b 1 % 4096 ≠ 0) : createCqTest b d = 0x44 :=
  (if_neg (createOpen hok)).trans ((if_neg (Bool.eq_false_iff.1 hnew)).trans (if_pos h))

variable (hbase : leWord b 1 % 4096 = 0)
include hbase

theorem createCqTest_badSize
    (h : leWord b 2 % 32 < 6 ∨ 16 < leWord b 2 % 32 ∨ bits (leWord b 2) 63 48 < 4) : createCqTest b d = 0x43 :=
  (if_neg (createOpen hok)).trans ((if_neg (Bool.eq_false_iff.1 hnew)).trans
    ((if_neg (Classical.not_not.2 hbase)).trans (if_pos h)))

variable (hsize : ¬ (leWord b 2 % 32 < 6 ∨ 16 < leWord b 2 % 32 ∨ bits (leWord b 2) 63 48 < 4))
include hsize

theorem createCqTest_pool :
    createCqTest b d = if 32768 < reservations d + bits (leWord b 2) 63 48 then 0x48 else 0 :=
  (if_neg (createOpen hok)).trans ((if_neg (Bool.eq_false_iff.1 hnew)).trans
    ((if_neg (Classical.not_not.2 hbase)).trans (if_neg hsize)))

end CreateCq

/-! ### DELETE_CQ -/

/-- The first test that a DELETE_CQ fails. -/
def deleteCqTest (b : Bytes) (d : Device) : Nat :=
  let q := leWord b 0 % 2 ^ 16
  if !(d.cq q).present then 0x42
  else if d.hq.sqs.any (fun e => e.1 != adminQ && e.2.present && e.2.cq == q) then 0x45
  else 0

theorem deleteCq_eq (d : Device) :
    deleteCq d = adminStep 0x02 true (fun _ => false)
      (testedRun deleteCqTest fun b d => d.setCq (leWord b 0 % 2 ^ 16) {}) d := rfl

section DeleteCq

variable {b : Bytes}

theorem deleteCqTest_absent (h : (d.cq (leWord b 0 % 2 ^ 16)).present = false) : deleteCqTest b d = 0x42 :=
  if_pos (by rw [h]; decide)

theorem deleteCqTest_present (h : (d.cq (leWord b 0 % 2 ^ 16)).present = true) :
    deleteCqTest b d =
      if d.hq.sqs.any (fun e => e.1 != adminQ && e.2.present && e.2.cq == leWord b 0 % 2 ^ 16) then 0x45 else 0 :=
  if_neg (by rw [h]; decide)

end DeleteCq

/-! ### CREATE_SQ -/

/-- The first test that a CREATE_SQ fails. -/
def createSqTest (b : Bytes) (d : Device) : Nat :=
  let w := leWord b 2
  if !createOk d then 0x46
  else if (d.sq (leWord b 0 % 2 ^ 16)).present then 0x41
  else if !(d.cq (bits w 63 52)).present then 0x42
  else if leWord b 1 % 4096 ≠ 0 then 0x44
  else if w % 32 < 6 ∨ 16 < w % 32 then 0x43
  else if bits w 51 50 = 0 ∧ egressOk (bits w 46 42) d = false then 0x47
  else 0

/-- The submission queue that a CREATE_SQ makes. -/
def createSqMakes (b : Bytes) (d : Device) : Device :=
  let w := leWord b 2
  d.setSq (leWord b 0 % 2 ^ 16)
    { present := true, base := leWord b 1, cq := bits w 63 52, kind := bits w 51 50, tb := bits w 49 48,
      batching := bit w 47, port := bits w 46 42, cls := bits w 41 39, sizeLog2 := w % 32 }

theorem createSq_eq (d : Device) :
    createSq d = adminStep 0x03 true (fun b => bits (leWord b 2) 51 50 == 3) (testedRun createSqTest createSqMakes) d :=
  rfl

section CreateSq

variable {b : Bytes}

theorem createSqTest_closed (h : createOk d = false) : createSqTest b d = 0x46 := if_pos (by simp [h])

variable (hok : createOk d = true)
include hok

theorem createSqTest_exists (h : (d.sq (leWord b 0 % 2 ^ 16)).present = true) : createSqTest b d = 0x41 :=
  (if_neg (createOpen hok)).trans (if_pos h)

variable (hnew : (d.sq (leWord b 0 % 2 ^ 16)).present = false)
include hnew

theorem createSqTest_noCq (h : (d.cq (bits (leWord b 2) 63 52)).present = false) : createSqTest b d = 0x42 :=
  (if_neg (createOpen hok)).trans ((if_neg (Bool.eq_false_iff.1 hnew)).trans (if_pos (by simp [h])))

variable (hcq : (d.cq (bits (leWord b 2) 63 52)).present = true)
include hcq

theorem createSqTest_bound :
    createSqTest b d =
      if leWord b 1 % 4096 ≠ 0 then 0x44
      else if leWord b 2 % 32 < 6 ∨ 16 < leWord b 2 % 32 then 0x43
      else if bits (leWord b 2) 51 50 = 0 ∧ egressOk (bits (leWord b 2) 46 42) d = false then 0x47
      else 0 :=
  (if_neg (createOpen hok)).trans ((if_neg (Bool.eq_false_iff.1 hnew)).trans (if_neg (by simp [hcq])))

theorem createSqTest_badBase (h : leWord b 1 % 4096 ≠ 0) : createSqTest b d = 0x44 :=
  (createSqTest_bound hok hnew hcq).trans (if_pos h)

variable (hbase : leWord b 1 % 4096 = 0)
include hbase

theorem createSqTest_badSize (h : leWord b 2 % 32 < 6 ∨ 16 < leWord b 2 % 32) : createSqTest b d = 0x43 :=
  (createSqTest_bound hok hnew hcq).trans ((if_neg (Classical.not_not.2 hbase)).trans (if_pos h))

variable (hlo : 6 ≤ leWord b 2 % 32) (hhi : leWord b 2 % 32 ≤ 16)
include hlo hhi

theorem createSqTest_port :
    createSqTest b d =
      if bits (leWord b 2) 51 50 = 0 ∧ egressOk (bits (leWord b 2) 46 42) d = false then 0x47 else 0 :=
  (createSqTest_bound hok hnew hcq).trans ((if_neg (Classical.not_not.2 hbase)).trans (if_neg (by omega)))

end CreateSq

/-! ### DELETE_SQ, TEST_START and TEST_END -/

/-- What DELETE_SQ does with queue `q`, the command standing as the entry `o` (R446). -/
def deleteSqGoes (q : Nat) (o : EntryRef × Device) : Device :=
  let g := o.2.setSq q { o.2.sq q with sending := none, listTries := 0, wanted := false, invalidating := false }
  let l := unsentJobs q g
  let g := l.foldl (fun d j => jobRefuse (some j) 0x08 d) (pullJobs l g)
  let g := dropCached q 16 (dropAcyclic q g)
  helmRetry (sqDeleteDone q (g.setSq q { g.sq q with deleting := some o.1.cid }))

section DeleteSq

variable {q : Nat}

theorem deleteSq_ends {f : Device} (ha : adminPick 0x04 true (fun _ => false) d = .inl f) : deleteSq d = f := by
  rw [deleteSq, ha]

variable (ha : adminPick 0x04 true (fun _ => false) d = .inr e) (hq : q = leWord e.bytes 0 % 2 ^ 16)
include ha hq

theorem deleteSq_absent (h : (d.sq q).present = false) : deleteSq d = entryNow adminQ e 0 0x42 {} d := by
  subst hq
  rw [deleteSq, ha]
  exact if_pos (by rw [h]; decide)

theorem deleteSq_goes {o : EntryRef × Device} (ho : o = entryStart adminQ e 0 d) (h : (d.sq q).present = true) :
    deleteSq d = deleteSqGoes q o := by
  subst hq ho
  rw [deleteSq, ha]
  exact if_neg (by rw [h]; decide)

end DeleteSq

section TestCommands

variable {start : Bool} {op : Nat} (ho : (if start then 0x07 else 0x08) = op)
include ho

theorem testEntry_ends {f : Device} (ha : adminPick op false (fun _ => false) d = .inl f) : testEntry start d = f := by
  rw [testEntry, ho, ha]

/-- The state in which TEST_START, or TEST_END, is kept for the boundary. -/
def testStands (start : Bool) (d : Device) : Bool :=
  if start then d.st == .run && d.rb F.GLOBAL_CFG_TEST_PERMITTED else d.st == .test

variable (ha : adminPick op false (fun _ => false) d = .inr e)
include ha

theorem testEntry_kept (h : testStands start d = true) :
    testEntry start d =
      { (entryStart adminQ e 0 d).2 with hq.testReq := some (start, (entryStart adminQ e 0 d).1) } := by
  rw [testEntry, ho, ha]
  exact if_neg (by rw [← testStands, h]; decide)

theorem testEntry_refused (h : testStands start d = false) : testEntry start d = entryNow adminQ e 0 0x4E {} d := by
  rw [testEntry, ho, ha]
  exact if_pos (by rw [← testStands, h]; decide)

end TestCommands

/-! ### The statement -/

/-- Settles O53: the head of the pair, then each command by its tests. -/
theorem adminCommands : Obligations.AdminCommands := by
  intro s e d f op qid res no kind3 qn done
  refine ⟨adminPick_ends, fun h => ?picks, fun hp => ?commands⟩
  case picks =>
    exact ⟨fun hq hn => adminPick_badQid h hq hn, fun hq hr => adminPick_reserved h hq hr,
      fun hq hr hn => adminPick_forbidden h hq hr hn, fun hq hr hn => adminPick_runs h hq hr hn⟩
  case commands =>
    intro o w
    refine ⟨fun ha => ?createCqEnds, fun ha => ?deleteCqEnds, fun ha => ?createSqEnds, fun ha => ?deleteSqEnds,
      fun ha => ?testStartEnds, fun ha => ?testEndEnds, fun ha => ?createCq, fun ha => ?deleteCq, fun ha => ?createSq,
      fun ha => ?deleteSq, fun ha => ?testStart, fun ha => ?testEnd⟩
    case createCqEnds | deleteCqEnds | createSqEnds => exact runs_of_onDev rfl hp (adminStep_ends ha)
    case deleteSqEnds => exact runs_of_onDev rfl hp (deleteSq_ends ha)
    case testStartEnds | testEndEnds => exact runs_of_onDev rfl hp (testEntry_ends rfl ha)
    case createCq =>
      have refused {st : Nat} (ht : createCqTest e.bytes o.2 = st) (hst : st ≠ 0) : Runs .createCq s (done st) :=
        runs_of_onDev rfl hp ((createCq_eq s.dev).trans (adminStep_tested_refused ha ht hst))
      refine ⟨fun hc => refused (createCqTest_closed hc) (by decide), fun hok =>
        ⟨fun hx => refused (createCqTest_exists hok hx) (by decide), fun hnew =>
        ⟨fun hb => refused (createCqTest_badBase hok hnew hb) (by decide), fun hb =>
        ⟨fun hs => refused (createCqTest_badSize hok hnew hb hs) (by decide), fun hlo hhi hr => ?pool⟩⟩⟩⟩
      have ht := createCqTest_pool hok hnew hb (b := e.bytes) (d := o.2)
        (not_or.2 ⟨Nat.not_lt.2 hlo, not_or.2 ⟨Nat.not_lt.2 hhi, Nat.not_lt.2 hr⟩⟩)
      exact ⟨fun hfull => refused (ht.trans (if_pos hfull)) (by decide), fun hroom =>
        runs_of_onDev rfl hp ((createCq_eq s.dev).trans
          (adminStep_tested_makes ha rfl (ht.trans (if_neg (Nat.not_lt.2 hroom)))))⟩
    case deleteCq =>
      intro used
      have refused {st : Nat} (ht : deleteCqTest e.bytes o.2 = st) (hst : st ≠ 0) : Runs .deleteCq s (done st) :=
        runs_of_onDev rfl hp ((deleteCq_eq s.dev).trans (adminStep_tested_refused ha ht hst))
      exact ⟨fun hx => refused (deleteCqTest_absent hx) (by decide),
        fun hx hu => refused ((deleteCqTest_present hx).trans (if_pos hu)) (by decide),
        fun hx hu => runs_of_onDev rfl hp ((deleteCq_eq s.dev).trans
          (adminStep_tested_makes ha rfl ((deleteCqTest_present hx).trans (if_neg (Bool.eq_false_iff.1 hu)))))⟩
    case createSq =>
      have refused {st : Nat} (ht : createSqTest e.bytes o.2 = st) (hst : st ≠ 0) : Runs .createSq s (done st) :=
        runs_of_onDev rfl hp ((createSq_eq s.dev).trans (adminStep_tested_refused ha ht hst))
      refine ⟨fun hc => refused (createSqTest_closed hc) (by decide), fun hok =>
        ⟨fun hx => refused (createSqTest_exists hok hx) (by decide), fun hnew =>
        ⟨fun hc => refused (createSqTest_noCq hok hnew hc) (by decide), fun hc =>
        ⟨fun hb => refused (createSqTest_badBase hok hnew hc hb) (by decide), fun hb =>
        ⟨fun hs => refused (createSqTest_badSize hok hnew hc hb hs) (by decide), fun hlo hhi => ?port⟩⟩⟩⟩⟩
      have ht := createSqTest_port hok hnew hc hb hlo hhi (b := e.bytes) (d := o.2)
      exact ⟨fun hk hx => refused (ht.trans (if_pos ⟨hk, hx⟩)) (by decide), fun hx =>
        runs_of_onDev rfl hp ((createSq_eq s.dev).trans (adminStep_tested_makes ha rfl (ht.trans (if_neg fun hc =>
          hx.elim (· hc.1) (Bool.eq_false_iff.1 hc.2)))))⟩
    case deleteSq =>
      exact ⟨fun hx => runs_of_onDev rfl hp (deleteSq_absent ha rfl hx),
        fun hx => runs_of_onDev rfl hp (deleteSq_goes (q := qn) (o := o) ha rfl rfl hx)⟩
    case testStart =>
      refine ⟨fun hst ht => runs_of_onDev rfl hp (testEntry_kept rfl ha (by simp [testStands, hst, ht])),
        fun h => runs_of_onDev rfl hp (testEntry_refused rfl ha ?_)⟩
      rcases h with h | h <;> simp [testStands, h]
    case testEnd =>
      exact ⟨fun hst => runs_of_onDev rfl hp (testEntry_kept rfl ha (by simp [testStands, hst])),
        fun hst => runs_of_onDev rfl hp (testEntry_refused rfl ha (by simp [testStands, hst]))⟩

end Sys2Proof.Proofs

/-!
PROOFS. The Tender's host channels (R455 to R467, Table 15-2): what reaches a channel's run and what it does there, one
equation per case; the failed reads of a descriptor and its lists share their turn and their retries.
-/

namespace Sys2Proof.Proofs

open Sys2Proof.Machine Sys2Proof.Safety

variable {d : Device} {c : Nat} {r : TenderRun}

/-! ### Commands of a host channel -/

section Commands

variable {s : State} {g : Device → Device}

section HostChannel

variable (hc : hostChan c = true)
include hc

section Powered

variable (hp : Powered s)
include hp

theorem runs_tenderDescriptorFetched {desc src dst : Bytes}
    (h : tenderDescriptorFetched c desc src dst s.dev = g s.dev) :
    Runs (.tenderDescriptorFetched c desc src dst) s g :=
  runs_of_onDev (f := fun d => if hostChan c then tenderDescriptorFetched c desc src dst d else d) rfl hp
    ((if_pos hc).trans h)

theorem runs_tenderReadComplete {dst : Bool} {o : Nat} {b : Bytes} (h : tenderReadComplete c dst o b s.dev = g s.dev) :
    Runs (.tenderReadComplete c dst o b) s g :=
  runs_of_onDev (f := fun d => if hostChan c then tenderReadComplete c dst o b d
    else if c = 0 ∧ dst = false then fetchArrive o b d else d) rfl hp ((if_pos hc).trans h)

theorem runs_tenderReadError {k : TenderReadKind} {cause : Nat} (h : tenderReadError c k cause s.dev = g s.dev) :
    Runs (.tenderReadError c k cause) s g :=
  runs_of_onDev (f := fun d => if hostChan c then tenderReadError c k cause d else reservedError c k cause d) rfl hp
    ((if_pos hc).trans h)

theorem runs_barrierReadDone (h : barrierReadDone c s.dev = g s.dev) : Runs (.barrierReadDone c) s g :=
  runs_of_onDev (f := fun d => if hostChan c then barrierReadDone c d else d) rfl hp ((if_pos hc).trans h)

end Powered

section Linked

variable (hl : Linked s)
include hl

theorem runs_tenderAbort (h : tenderAbort c s.dev = g s.dev) : Runs (.tenderAbort c) s g :=
  runs_of_onHost (f := fun d => if hostChan c then tenderAbort c d else d) rfl hl ((if_pos hc).trans h)

theorem runs_tenderClear (h : tenderClear c s.dev = g s.dev) : Runs (.tenderClear c) s g :=
  runs_of_onHost (f := fun d => if hostChan c then tenderClear c d else d) rfl hl ((if_pos hc).trans h)

end Linked

end HostChannel

section ReservedChannel

variable (hc : hostChan c = false)
include hc

theorem not_hostChan : ¬ hostChan c = true := Bool.eq_false_iff.1 hc

theorem tenderDescriptorFetched_reserved (hp : Powered s) {desc src dst : Bytes} :
    Runs (.tenderDescriptorFetched c desc src dst) s id :=
  runs_of_onDev (f := fun d => if hostChan c then tenderDescriptorFetched c desc src dst d else d) rfl hp
    (if_neg (not_hostChan hc))

theorem tenderAbort_reserved (hl : Linked s) : Runs (.tenderAbort c) s id :=
  runs_of_onHost (f := fun d => if hostChan c then tenderAbort c d else d) rfl hl (if_neg (not_hostChan hc))

theorem tenderClear_reserved (hl : Linked s) : Runs (.tenderClear c) s id :=
  runs_of_onHost (f := fun d => if hostChan c then tenderClear c d else d) rfl hl (if_neg (not_hostChan hc))

end ReservedChannel

end Commands

/-! ### A channel that runs nothing -/

section NoRun

variable (h : (d.chan c).run = none)
include h

theorem tenderDescriptorFetched_noRun {desc src dst : Bytes} : tenderDescriptorFetched c desc src dst d = d := by
  rw [tenderDescriptorFetched, h]

theorem tenderReadComplete_noRun {dst : Bool} {o : Nat} {b : Bytes} : tenderReadComplete c dst o b d = d := by
  rw [tenderReadComplete, h]

theorem tenderReadError_noRun {k : TenderReadKind} {cause : Nat} : tenderReadError c k cause d = d := by
  rw [tenderReadError, h]

theorem barrierReadDone_noRun : barrierReadDone c d = d := by rw [barrierReadDone, h]

theorem tenderAbort_noRun : tenderAbort c d = d := by rw [tenderAbort, h]

end NoRun

/-- The reads of a descriptor's lists that have not been read. -/
def listReads (r : TenderRun) (desc src dst : Bytes) (d : Device) : Device :=
  let e := if bit (leWord desc 0) 53 && !r.listed.contains false then d.emitRead (leWord desc 1) src.length else d
  if bit (leWord desc 0) 52 && !r.listed.contains true then e.emitRead (leWord desc 2) dst.length else e

section Runs

variable (hr : (d.chan c).run = some r)
include hr

/-! ### Descriptors (R457 to R460) -/

section Fetched

variable {desc src dst : Bytes}

/-- A run that awaits a descriptor whose read has been issued. -/
def AwaitsDesc (r : TenderRun) : Prop := r.metaDue = false ∧ r.again = none ∧ r.desc = none

/-- A descriptor with a list on a side. -/
def HasLists (desc : Bytes) : Prop := bit (leWord desc 0) 53 = true ∨ bit (leWord desc 0) 52 = true

omit hr in
theorem descriptor_ignored_iff :
    (r.metaDue || r.again.isSome || r.desc.isSome || ((bit (leWord desc 0) 53 || bit (leWord desc 0) 52) && !d.bme)) =
      true ↔ ¬ AwaitsDesc r ∨ HasLists desc ∧ d.bme = false := by
  cases h1 : r.metaDue <;> cases h2 : r.again <;> cases h3 : r.desc <;> simp [AwaitsDesc, HasLists, h1, h2, h3]

theorem tenderDescriptorFetched_ignored (h : ¬ AwaitsDesc r ∨ HasLists desc ∧ d.bme = false) :
    tenderDescriptorFetched c desc src dst d = d := by
  rw [tenderDescriptorFetched, hr]
  exact if_pos (descriptor_ignored_iff.2 h)

variable (ha : AwaitsDesc r) (hl : ¬ HasLists desc ∨ d.bme = true)
include ha hl

omit hr in
theorem descriptor_taken : ¬ (r.metaDue || r.again.isSome || r.desc.isSome ||
    ((bit (leWord desc 0) 53 || bit (leWord desc 0) 52) && !d.bme)) = true := by
  rw [descriptor_ignored_iff]
  rintro (h | ⟨h, hb⟩)
  · exact h ha
  · exact hl.elim (· h) (Bool.eq_false_iff.1 hb)

theorem tenderDescriptorFetched_works {t : TenderDesc} (ht : parseDesc desc src dst = some t) :
    tenderDescriptorFetched c desc src dst d =
      tenderPump ((listReads r desc src dst d).setRun c { r with desc := some t, reading := .desc, listed := [],
                                                                 tries := 0 }) := by
  rw [tenderDescriptorFetched, hr]
  refine (if_neg (descriptor_taken ha hl)).trans ?_
  rw [ht]
  rfl

theorem tenderDescriptorFetched_malformed (ht : parseDesc desc src dst = none) :
    tenderDescriptorFetched c desc src dst d =
      tenderPump (tenderHalt c 3 0x10 0 r.descAddr 0 none (listReads r desc src dst d)) := by
  rw [tenderDescriptorFetched, hr]
  refine (if_neg (descriptor_taken ha hl)).trans ?_
  rw [ht]
  rfl

end Fetched

/-! ### Completions (R461) -/

section Completions

variable {dst : Bool} {o : Nat} {b : Bytes}

theorem tenderReadComplete_stages {x : TenderRun} (hx : x = { r with reads := readArrive dst o b.length r.reads })
    (hb : b ≠ []) (hk : readCovers dst o b.length r.reads = true) :
    tenderReadComplete c dst o b d =
      tenderPump (d.setRun c (if dst then { x with dstGot := gotPut x.dstGot o b }
        else { x with srcGot := gotPut x.srcGot o b })) := by
  subst hx
  rw [tenderReadComplete, hr]
  exact if_neg (by simp [hb, hk])

theorem tenderReadComplete_stray (h : b = [] ∨ readCovers dst o b.length r.reads = false) :
    tenderReadComplete c dst o b d = d := by
  rw [tenderReadComplete, hr]
  exact if_pos (by rcases h with h | h <;> simp [h])

end Completions

/-! ### Failed data and confirming reads (R465 to R467) -/

section DataErrors

variable {dst : Bool} {o cause : Nat}

theorem tenderReadError_noData (h : r.desc = none ∨ readCovers dst o 1 r.reads = false) :
    tenderReadError c (.data dst o) cause d = d := by
  cases ht : r.desc with
  | none => simp only [tenderReadError, hr, ht]
  | some t =>
    simp only [tenderReadError, hr, ht]
    exact if_neg (Bool.eq_false_iff.1 (h.resolve_left (by simp [ht])))

theorem tenderReadError_noConfirm (h : r.desc = none ∨ r.confirming = false) :
    tenderReadError c .confirm cause d = d := by
  cases ht : r.desc with
  | none => simp only [tenderReadError, hr, ht]
  | some t =>
    simp only [tenderReadError, hr, ht]
    exact if_neg (Bool.eq_false_iff.1 (h.resolve_left (by simp [ht])))

theorem barrierReadDone_noConfirm (h : r.desc = none ∨ r.confirming = false) : barrierReadDone c d = d := by
  cases ht : r.desc with
  | none => simp only [barrierReadDone, hr, ht]
  | some t =>
    simp only [barrierReadDone, hr, ht]
    exact if_neg (Bool.eq_false_iff.1 (h.resolve_left (by simp [ht])))

variable {t : TenderDesc} (ht : r.desc = some t)
include ht

theorem tenderReadError_data (hk : readCovers dst o 1 r.reads = true) :
    tenderReadError c (.data dst o) cause d =
      tenderPump (tenderHalt c 1 cause 0 (if dst then dstAddr t o else srcAddr t o) o (some (copyPos t o)) d) := by
  simp only [tenderReadError, hr, ht, hk, if_true]

variable (hk : r.confirming = true)
include hk

theorem tenderReadError_confirm :
    tenderReadError c .confirm cause d =
      tenderPump (tenderHalt c 1 cause 1 (lastWritten t) (lastOffset t) none d) := by
  simp only [tenderReadError, hr, ht, hk, if_true]

theorem barrierReadDone_finishes : barrierReadDone c d = tenderPump (tenderDescDone c t r d) := by
  simp only [barrierReadDone, hr, ht, hk, if_true]

end DataErrors

/-! ### ABORT (R455) -/

theorem tenderAbort_halts : tenderAbort c d = tenderPump (tenderHalt c 5 0x30 0 r.descAddr 0 none d) := by
  rw [tenderAbort, hr]

/-! ### Failed reads of descriptors and lists (R466) -/

/-- A read of a descriptor or of a list. -/
def MetaKind (k : TenderReadKind) : Prop := k = .desc ∨ ∃ b x n, k = .list b x n

/-- A failed read of a descriptor or a list counts where it is the one in progress, or follows it. -/
theorem tenderReadError_meta {k : TenderReadKind} {cause : Nat} (hk : MetaKind k) :
    tenderReadError c k cause d = if metaComes r k then metaFailed c k cause r d else d := by
  cases ht : r.desc with
  | none => rcases hk with rfl | ⟨b, x, n, rfl⟩ <;> simp only [tenderReadError, hr, ht]
  | some t =>
    have hno : metaComes r k = false := by simp [metaComes, ht]
    rcases hk with rfl | ⟨b, x, n, rfl⟩ <;> simp [tenderReadError, hr, ht, hno]

end Runs

section MetaFailed

variable {k : TenderReadKind} {cause : Nat} {x : TenderRun} {e : Device} {a : Nat × Nat}

/-- The turn of a metadata read is the channel's run and a read: registers and PCI Express stay. -/
theorem metaTurn_keeps (hx : metaTurn c k r d = (x, e)) :
    e.bme = d.bme ∧ (∀ f i j, e.rg f i j = d.rg f i j) ∧ x.descAddr = r.descAddr := by
  unfold metaTurn at hx
  split at hx
  · cases hx
    exact ⟨rfl, fun _ _ _ => rfl, rfl⟩
  · cases hx
    rw [emitRead_out]
    exact ⟨rfl, fun _ _ _ => rfl, rfl⟩

variable (hx : metaTurn c k r d = (x, e)) (ha : a = metaAt r k)
include hx ha

/-- Address and length of a metadata read stay through its turn. -/
theorem metaAt_turn : metaAt x k = a := by
  obtain ⟨-, -, hd⟩ := metaTurn_keeps hx
  rw [ha]
  cases k <;> simp only [metaAt, hd]

/-- The failed read is counted and made due again while retries are left. -/
theorem metaFailed_retries (ht : x.tries < d.rg F.TENDER_CFG_RETRY_MAX) :
    metaFailed c k cause r d =
      if d.bme then
        ((e.setRun c { x with tries := x.tries + 1, again := none }).count (tenderCnt c 0x20)).emitRead a.1 a.2
      else (e.setRun c { x with tries := x.tries + 1, again := some a }).count (tenderCnt c 0x20) := by
  obtain ⟨hb, hg, -⟩ := metaTurn_keeps hx
  have hf : ∀ y, ((e.setRun c y).count (tenderCnt c 0x20)).bme = d.bme := fun _ => hb
  simp only [metaFailed, hx, hg, ht, if_true, hf, hb, metaAt_turn hx ha]
  cases d.bme <;> rfl

theorem metaFailed_halts (ht : d.rg F.TENDER_CFG_RETRY_MAX ≤ x.tries) :
    metaFailed c k cause r d = tenderPump (tenderHalt c 2 cause 0 a.1 0 none e) := by
  obtain ⟨-, hg, -⟩ := metaTurn_keeps hx
  simp only [metaFailed, hx, hg, if_neg (Nat.not_lt.2 ht), metaAt_turn hx ha]

end MetaFailed

/-! ### The statement -/

/-- Settles O54: the start, then each command by the run it finds, and the failed reads of metadata by their turn. -/
theorem tenderChannels : Obligations.TenderChannels := by
  intro s c i cause a dst desc src ds data r t k lists open_ e₀ e read listed r1 d1 again max metaKind
  have turn : metaTurn c k r s.dev = (r1, d1) := by
    by_cases h : k = r.reading <;> cases k <;> simp [metaTurn, r1, d1, h, read, listed, metaAt]
  have hat : read = metaAt r k := by cases k <;> rfl
  refine ⟨rfl, fun hc hp hn => ?noRun, fun hc hp hr => ?run, fun hc hl hr => ?abort, fun hc hl hn => ?abortIdle,
    fun hc hl hs => ?clear, fun hc hl hs => ?clearIdle, fun hc hl => ⟨tenderAbort_reserved hc hl,
      tenderClear_reserved hc hl⟩, fun hc hp => tenderDescriptorFetched_reserved hc hp⟩
  case noRun =>
    exact ⟨runs_tenderDescriptorFetched hc hp (tenderDescriptorFetched_noRun hn),
      runs_tenderReadComplete hc hp (tenderReadComplete_noRun hn),
      runs_tenderReadError hc hp (tenderReadError_noRun hn),
      runs_barrierReadDone hc hp (barrierReadDone_noRun hn)⟩
  case run =>
    refine ⟨fun h => ?ignored, fun ha hl => ⟨fun ht => ?works, fun ht => ?malformed⟩, fun hb hk => ?stages,
      fun h => ?stray, fun hk hm => ?metaStray, fun hk hm ht => ?retries, fun hk hm ht => ?metaHalts,
      fun ht hk => ?failsData, fun h => ?noData, fun ht hk => ?failsConfirm, fun h => ⟨?noConfirm, ?noBarrier⟩,
      fun ht hk => ?finishes⟩
    case ignored => exact runs_tenderDescriptorFetched hc hp (tenderDescriptorFetched_ignored hr h)
    case works => exact runs_tenderDescriptorFetched hc hp (tenderDescriptorFetched_works hr ha hl ht)
    case malformed => exact runs_tenderDescriptorFetched hc hp (tenderDescriptorFetched_malformed hr ha hl ht)
    case stages => exact runs_tenderReadComplete hc hp (tenderReadComplete_stages hr rfl hb hk)
    case stray => exact runs_tenderReadComplete hc hp (tenderReadComplete_stray hr h)
    case metaStray =>
      exact runs_tenderReadError hc hp ((tenderReadError_meta hr hk).trans (if_neg (Bool.eq_false_iff.1 hm)))
    case retries =>
      have h := (tenderReadError_meta (cause := cause) hr hk).trans ((if_pos hm).trans (metaFailed_retries turn hat ht))
      exact ⟨fun hb => runs_tenderReadError hc hp (h.trans (if_pos hb)),
        fun hb => runs_tenderReadError hc hp (h.trans (if_neg (Bool.eq_false_iff.1 hb)))⟩
    case metaHalts =>
      exact runs_tenderReadError hc hp
        ((tenderReadError_meta hr hk).trans ((if_pos hm).trans (metaFailed_halts turn hat ht)))
    case failsData => exact runs_tenderReadError hc hp (tenderReadError_data hr ht hk)
    case noData => exact runs_tenderReadError hc hp (tenderReadError_noData hr h)
    case failsConfirm => exact runs_tenderReadError hc hp (tenderReadError_confirm hr ht hk)
    case noConfirm => exact runs_tenderReadError hc hp (tenderReadError_noConfirm hr h)
    case noBarrier => exact runs_barrierReadDone hc hp (barrierReadDone_noConfirm hr h)
    case finishes => exact runs_barrierReadDone hc hp (barrierReadDone_finishes hr ht hk)
  case abort => exact runs_tenderAbort hc hl (tenderAbort_halts hr)
  case abortIdle => exact runs_tenderAbort hc hl (tenderAbort_noRun hn)
  case clear => exact runs_tenderClear hc hl (if_pos hs)
  case clearIdle => exact runs_tenderClear hc hl (if_neg hs)

end Sys2Proof.Proofs

/-!
PROOFS. Staged updates, persistent records, the life cycle and the HALT_LOG record (R506 to R517): the commands of the
admin pair that answer with a status, each by the cases of its own part.
-/

namespace Sys2Proof.Proofs

open Sys2Proof.Machine Sys2Proof.Safety

variable {n : NonVol} {d : Device} {e : Entry} {o : EntryRef × Device}

/-! ### Commands that answer with a status -/

section Answers

variable {op : Nat} {res : Bytes → Bool} {run : Bytes → NonVol → Device → Nat × CompBody × NonVol × Device}

theorem adminStepNv_ends {y : Device} (ha : adminPick op false res d = .inl y) :
    adminStepNv op res run n d = (n, y) := by
  rw [adminStepNv, ha]

variable {st : Nat} {b : CompBody} {m : NonVol} {x : Device} (ha : adminPick op false res d = .inr e)
  (ho : o = entryStart adminQ e 0 d) (hr : run e.bytes n o.2 = chartAnswer st b m x)
include ha ho hr

theorem adminStepNv_answers :
    adminStepNv op res run n d = (m, entryComplete o.1 st b (evRaiseIf (stageStatus st) 10 x)) := by
  subst ho
  simp only [adminStepNv, ha, hr]
  rfl

/-- A status of Table 17-12 that calls for no event. -/
theorem adminStepNv_quiet (hs : stageStatus st = false) :
    adminStepNv op res run n d = (m, entryComplete o.1 st b x) := by
  rw [adminStepNv_answers ha ho hr, hs]
  rfl

/-- A status with which event 10 is raised (R506, R508). -/
theorem adminStepNv_event (hs : stageStatus st = true) :
    adminStepNv op res run n d = (m, entryComplete o.1 st b (evRaise 10 x)) := by
  rw [adminStepNv_answers ha ho hr, hs]
  rfl

end Answers

/-! ### STAGE_BEGIN (R506) -/

section StageBegin

variable {ok : Bool} {slot len : Nat} (ha : adminPick 0x20 false (fun _ => false) d = .inr e)
  (ho : o = entryStart adminQ e 0 d) (hslot : slot = leWord e.bytes 0 % 2)
include ha ho hslot

theorem stageBegin_running (h : slotRuns slot o.2 = true) :
    stageBegin ok n d = (n, entryComplete o.1 0x60 {} o.2) := by
  subst hslot
  exact adminStepNv_quiet ha ho (if_pos h) rfl

variable (h : slotRuns slot o.2 = false) (hlen : len = leWord e.bytes 1 % 2 ^ 32)
include h hlen

theorem stageBegin_tooLong (hl : o.2.boot.slotSize < len) :
    stageBegin ok n d = (n, entryComplete o.1 0x61 {} o.2) := by
  subst hslot hlen
  exact adminStepNv_quiet ha ho ((if_neg (Bool.eq_false_iff.1 h)).trans (if_pos hl)) rfl

variable (hl : len ≤ o.2.boot.slotSize)
include hl

theorem stageBegin_fails {x : NonVol × Device}
    (hx : x = flashFail (slotBase o.2.boot.slotSize slot) (sectorsOf len) n { o.2 with boot.stage := none }) :
    stageBegin false n d = (x.1, entryComplete o.1 0x64 {} (evRaise 10 x.2)) := by
  subst hslot hlen hx
  exact adminStepNv_event ha ho ((if_neg (Bool.eq_false_iff.1 h)).trans (if_neg (Nat.not_lt.2 hl))) rfl

theorem stageBegin_opens :
    stageBegin true n d =
      ({ n with flash := flashErase n.flash (slotBase o.2.boot.slotSize slot) (sectorsOf len) },
        entryComplete o.1 0 {} { o.2 with boot.stage := some { slot := slot, length := len, written := 0 } }) := by
  subst hslot hlen
  exact adminStepNv_quiet ha ho ((if_neg (Bool.eq_false_iff.1 h)).trans (if_neg (Nat.not_lt.2 hl))) rfl

end StageBegin

/-! ### STAGE_WRITE (R507) -/

section Waits

variable {x : HostRead} {ok : Bool} (hb : d.bme = false)
include hb

theorem bme_off_refuses : (!d.bme) = true := by rw [hb]; rfl

theorem stageWrite_waits : stageWrite x ok n d = (n, d) := if_pos (bme_off_refuses hb)
theorem persistWrite_waits : persistWrite x ok n d = (n, d) := if_pos (bme_off_refuses hb)
theorem persistRead_waits : persistRead n d = d := if_pos (bme_off_refuses hb)
theorem lcProvision_waits : lcProvision x ok n d = (n, d) := if_pos (bme_off_refuses hb)
theorem lcRetire_waits : lcRetire x ok n d = (n, d) := if_pos (bme_off_refuses hb)

end Waits

section StageWrite

variable {x : HostRead} {ok : Bool} (hb : d.bme = true)
include hb

theorem bme_on_goes : ¬ (!d.bme) = true := by rw [hb]; decide

theorem stageWrite_ends {y : Device} (ha : adminPick 0x21 false stageLenBad d = .inl y) :
    stageWrite x ok n d = (n, y) :=
  (if_neg (bme_on_goes hb)).trans (adminStepNv_ends ha)

variable (ha : adminPick 0x21 false stageLenBad d = .inr e) (ho : o = entryStart adminQ e 0 d)
include ha ho

theorem stageWrite_noSession (hs : o.2.boot.stage = none) :
    stageWrite x ok n d = (n, entryComplete o.1 0x62 {} (evRaise 10 o.2)) := by
  refine (if_neg (bme_on_goes hb)).trans (adminStepNv_event ha ho ?_ rfl)
  simp only [hs]

variable {s : StageSess} {off len : Nat} (hs : o.2.boot.stage = some s) (hoff : off = leWord e.bytes 2 % 2 ^ 32)
  (hlen : len = leWord e.bytes 3 % 2 ^ 21)
include hs hoff hlen

theorem stageWrite_misplaced (h : off ≠ s.written ∨ s.length < off + len) :
    stageWrite x ok n d = (n, entryComplete o.1 0x61 {} o.2) := by
  subst hoff hlen
  refine (if_neg (bme_on_goes hb)).trans (adminStepNv_quiet ha ho ?_ rfl)
  simp only [hs]
  exact if_pos h

variable {q : Device} (hq : q = o.2.emitRead (leWord e.bytes 1) len) (hw : off = s.written)
  (hfit : off + len ≤ s.length)
include hq hw hfit

omit hb ha ho hs hoff hlen hq in
theorem stage_in_order : ¬ (off ≠ s.written ∨ s.length < off + len) := by omega

theorem stageWrite_unread {cause : Nat} :
    stageWrite (.failed cause) ok n d = (n, entryComplete o.1 0x65 {} (evRaise 10 q)) := by
  have hp := stage_in_order hw hfit
  subst hoff hlen hq
  refine (if_neg (bme_on_goes hb)).trans (adminStepNv_event ha ho ?_ rfl)
  simp only [hs]
  exact if_neg hp

variable {bs : Bytes}

theorem stageWrite_programs :
    stageWrite (.ok bs) true n d =
      ({ n with flash := flashProgram n.flash (slotBase q.boot.slotSize s.slot + off) (bs.take len) },
        entryComplete o.1 0 {} { q with boot.stage := some { s with written := off + len } }) := by
  have hp := stage_in_order hw hfit
  subst hoff hlen hq
  refine (if_neg (bme_on_goes hb)).trans (adminStepNv_quiet ha ho ?_ rfl)
  simp only [hs]
  exact if_neg hp

theorem stageWrite_fails {z : NonVol × Device}
    (hz : z = flashFail (slotBase q.boot.slotSize s.slot + off) len n { q with boot.stage := none }) :
    stageWrite (.ok bs) false n d = (z.1, entryComplete o.1 0x64 {} (evRaise 10 z.2)) := by
  have hp := stage_in_order hw hfit
  subst hoff hlen hq hz
  refine (if_neg (bme_on_goes hb)).trans (adminStepNv_event ha ho ?_ rfl)
  simp only [hs]
  exact if_neg hp

end StageWrite

/-! ### STAGE_VERIFY (R508) -/

section StageVerify

/-- What STAGE_VERIFY reports of a slot: its fault code, and SEQ and SVN as its header gives them. -/
def stageReport (n : NonVol) (size slot : Nat) : CompBody :=
  { r0 := stagedFault n size slot,
    r1 := (slotHeader n size slot).seq * 2 ^ 32 + (slotHeader n size slot).svn % 256 }

theorem stageVerify_ends {y : Device} (ha : adminPick 0x22 false (fun _ => false) d = .inl y) :
    stageVerify n d = (n, y) := by
  unfold stageVerify
  exact adminStepNv_ends ha

variable (ha : adminPick 0x22 false (fun _ => false) d = .inr e) (ho : o = entryStart adminQ e 0 d)
include ha ho

theorem stageVerify_noSession (hs : o.2.boot.stage = none) :
    stageVerify n d = (n, entryComplete o.1 0x62 {} (evRaise 10 o.2)) := by
  unfold stageVerify
  refine adminStepNv_event (st := 0x62) ha ho ?_ rfl
  simp only [hs]

variable {s : StageSess} {q : Device} (hs : o.2.boot.stage = some s) (hq : q = { o.2 with boot.stage := none })
include hs hq

theorem stageVerify_faulty (hf : stagedFault n o.2.boot.slotSize s.slot ≠ 0) :
    stageVerify n d = (n, entryComplete o.1 0x63 (stageReport n o.2.boot.slotSize s.slot) (evRaise 10 q)) := by
  subst hq
  unfold stageVerify
  refine adminStepNv_event (st := 0x63) ha ho ?_ rfl
  simp only [hs]
  exact if_pos hf

variable (hf : stagedFault n o.2.boot.slotSize s.slot = 0)
include hf

theorem stageVerify_passes (hl : ¬ (d.st = .load ∧ d.boot.step = .fault)) :
    stageVerify n d = (n, entryComplete o.1 0 (stageReport n o.2.boot.slotSize s.slot) (evRaise 9 q)) := by
  subst hq
  unfold stageVerify
  refine adminStepNv_quiet (st := 0) ha ho ?_ rfl
  simp only [hs]
  exact (if_neg (Classical.not_not.2 hf)).trans (if_neg (by simpa using hl))

/-- Where the loader had faulted, LOAD starts again (R508). -/
theorem stageVerify_loads (hl : d.st = .load ∧ d.boot.step = .fault) {z : NonVol × Device}
    (hz : z = loadStart n (evRaise 9 q)) :
    stageVerify n d = (z.1, entryComplete o.1 0 (stageReport n o.2.boot.slotSize s.slot) z.2) := by
  subst hq hz
  unfold stageVerify
  refine adminStepNv_quiet (st := 0) ha ho ?_ rfl
  simp only [hs]
  exact (if_neg (Classical.not_not.2 hf)).trans (if_pos (by simp [hl]))

end StageVerify

/-! ### SLOT_INVALIDATE (R506) -/

section SlotInvalidate

variable {ok : Bool} {slot : Nat} (ha : adminPick 0x23 false (fun _ => false) d = .inr e)
  (ho : o = entryStart adminQ e 0 d) (hslot : slot = leWord e.bytes 0 % 2)
include ha ho hslot

theorem slotInvalidate_running (h : slotRuns slot o.2 = true) :
    slotInvalidate ok n d = (n, entryComplete o.1 0x60 {} o.2) := by
  subst hslot
  exact adminStepNv_quiet ha ho (if_pos h) rfl

variable (h : slotRuns slot o.2 = false)
include h

theorem slotInvalidate_nowhere (hz : o.2.boot.slotSize = 0) :
    slotInvalidate ok n d = (n, entryComplete o.1 0x64 {} (evRaise 10 o.2)) := by
  subst hslot
  exact adminStepNv_event ha ho ((if_neg (Bool.eq_false_iff.1 h)).trans (if_pos hz)) rfl

variable (hz : o.2.boot.slotSize ≠ 0)
include hz

theorem slotInvalidate_erases :
    slotInvalidate true n d =
      ({ n with flash := flashErase n.flash (slotBase o.2.boot.slotSize slot) sectorBytes },
        entryComplete o.1 0 {} o.2) := by
  subst hslot
  exact adminStepNv_quiet ha ho ((if_neg (Bool.eq_false_iff.1 h)).trans (if_neg hz)) rfl

theorem slotInvalidate_fails {x : NonVol × Device}
    (hx : x = flashFail (slotBase o.2.boot.slotSize slot) sectorBytes n o.2) :
    slotInvalidate false n d = (x.1, entryComplete o.1 0x64 {} (evRaise 10 x.2)) := by
  subst hslot hx
  exact adminStepNv_event ha ho ((if_neg (Bool.eq_false_iff.1 h)).trans (if_neg hz)) rfl

end SlotInvalidate

/-! ### Persistent records (R511, R513) -/

section PersistWrite

variable {x : HostRead} {ok : Bool} (hb : d.bme = true)
include hb

/-- Whether LENGTH of a PERSIST_WRITE entry is above 4,080. -/
def persistLenBad (b : Bytes) : Bool := decide (4080 < leWord b 2 % 4096)

theorem persistWrite_ends {y : Device} (ha : adminPick 0x24 false persistLenBad d = .inl y) :
    persistWrite x ok n d = (n, y) :=
  (if_neg (bme_on_goes hb)).trans (adminStepNv_ends ha)

variable {key num : Nat} (ha : adminPick 0x24 false persistLenBad d = .inr e) (ho : o = entryStart adminQ e 0 d)
  (hkey : key = leWord e.bytes 0 % 2 ^ 16)
include ha ho hkey

theorem persistWrite_forbidden (hk : persistKeyOk key = false) :
    persistWrite x ok n d = (n, entryComplete o.1 0x66 {} o.2) := by
  subst hkey
  exact (if_neg (bme_on_goes hb)).trans (adminStepNv_quiet ha ho (if_pos (by rw [hk]; rfl)) rfl)

variable {q : Device} (hk : persistKeyOk key = true) (hnum : num = leWord e.bytes 2 % 4096)
  (hq : q = if num = 0 then o.2 else o.2.emitRead (leWord e.bytes 1) num)
include hk hnum hq

omit hb ha ho hkey hnum hq in
theorem persistKeyOk_not_refused : ¬ (!persistKeyOk key) = true := by rw [hk]; decide

theorem persistWrite_unread {cause : Nat} (hg : (if num = 0 then HostRead.ok [] else x) = .failed cause) :
    persistWrite x ok n d = (n, entryComplete o.1 0x65 {} (evRaise 10 q)) := by
  subst hkey hnum hq
  refine (if_neg (bme_on_goes hb)).trans (adminStepNv_event ha ho ((if_neg (persistKeyOk_not_refused hk)).trans ?_) rfl)
  simp only [hg]

variable {bs : Bytes} (hg : (if num = 0 then HostRead.ok [] else x) = .ok bs)
include hg

theorem persistWrite_nowhere (hz : o.2.boot.slotSize = 0) :
    persistWrite x ok n d = (n, entryComplete o.1 0x64 {} (evRaise 10 q)) := by
  subst hkey hnum hq
  refine (if_neg (bme_on_goes hb)).trans (adminStepNv_event ha ho ((if_neg (persistKeyOk_not_refused hk)).trans ?_) rfl)
  simp only [hg]
  exact if_pos hz

variable {recs : List PRec} (hrecs : recs = regionRecords n.flash (persistBase o.2.boot.slotSize))
  (hz : o.2.boot.slotSize ≠ 0)
include hrecs hz

theorem persistWrite_full
    (hf : ¬ governingBytes recs - governedBytes key recs + (16 + up16 num) ≤ persistLimit) :
    persistWrite x ok n d = (n, entryComplete o.1 0x67 {} q) := by
  subst hkey hnum hq hrecs
  refine (if_neg (bme_on_goes hb)).trans (adminStepNv_quiet ha ho ((if_neg (persistKeyOk_not_refused hk)).trans ?_) rfl)
  simp only [hg]
  exact (if_neg hz).trans (if_pos (Nat.not_le.1 hf))

variable (hf : governingBytes recs - governedBytes key recs + (16 + up16 num) ≤ persistLimit) {m : Mem} {z : Device}
  (hrep : z = persistReport o.2.boot.slotSize m q)
include hf hrep

theorem persistWrite_puts (hm : m = persistPut (persistBase o.2.boot.slotSize) key (bs.take num) true n.flash) :
    persistWrite x true n d = ({ n with flash := m }, entryComplete o.1 0 {} (evRaise 11 z)) := by
  refine (if_neg (bme_on_goes hb)).trans (adminStepNv_quiet (st := 0) ha ho ?_ rfl)
  subst hkey hnum hq hrecs
  rw [hrep, hm]
  refine (if_neg (persistKeyOk_not_refused hk)).trans ?_
  simp only [hg]
  rw [if_neg hz, if_neg (Nat.not_lt.2 hf), if_pos trivial]

theorem persistWrite_fails (hm : m = persistPut (persistBase o.2.boot.slotSize) key (bs.take num) false n.flash) :
    persistWrite x false n d = ({ n with flash := m }, entryComplete o.1 0x64 {} (evRaise 10 z)) := by
  refine (if_neg (bme_on_goes hb)).trans (adminStepNv_event (st := 0x64) ha ho ?_ rfl)
  subst hkey hnum hq hrecs
  rw [hrep, hm]
  refine (if_neg (persistKeyOk_not_refused hk)).trans ?_
  simp only [hg]
  rw [if_neg hz, if_neg (Nat.not_lt.2 hf), if_neg Bool.false_ne_true]

end PersistWrite

section PersistRead

/-- The record that governs the key of an entry, where there is a persistent region. -/
def persistFound (n : NonVol) (size : Nat) (b : Bytes) : Option PRec :=
  if size = 0 then none else governing (leWord b 0 % 2 ^ 16) (regionRecords n.flash (persistBase size))

variable (hb : d.bme = true)
include hb

theorem persistRead_ends {y : Device} (ha : adminPick 0x25 false (fun _ => false) d = .inl y) :
    persistRead n d = y :=
  (if_neg (bme_on_goes hb)).trans (adminStep_ends ha)

variable (ha : adminPick 0x25 false (fun _ => false) d = .inr e) (ho : o = entryStart adminQ e 0 d) {r : PRec}
include ha ho

theorem persistRead_notFound (h : persistFound n o.2.boot.slotSize e.bytes = none ∨
    persistFound n o.2.boot.slotSize e.bytes = some r ∧ r.payload = []) :
    persistRead n d = entryComplete o.1 0x68 {} o.2 := by
  subst ho
  refine (if_neg (bme_on_goes hb)).trans ?_
  unfold persistFound at h
  rcases h with h | ⟨h, hp⟩
  · simp only [adminStep, ha, h]
  · simp only [adminStep, ha, h, hp, if_true]

theorem persistRead_found {out : Bytes} (h : persistFound n o.2.boot.slotSize e.bytes = some r)
    (hp : r.payload ≠ []) (hout : out = r.payload.take (leWord e.bytes 2 % 4096)) :
    persistRead n d =
      entryComplete o.1 0 { r0 := r.payload.length, r1 := r.gen }
        (if out = [] then o.2 else o.2.emitWrite (leWord e.bytes 1) out) := by
  subst ho hout
  refine (if_neg (bme_on_goes hb)).trans ?_
  unfold persistFound at h
  simp only [adminStep, ha, h, if_neg hp]

end PersistRead

/-! ### The life cycle (R515 to R517) -/

/-- The read of host memory that a life-cycle command makes. -/
def lifecycleReads (b : Bytes) (len : Option Nat) (d : Device) : Device :=
  match len with
  | some k => d.emitRead (leWord b 1) k
  | none => d

section Lifecycle

variable {op : Nat} {host : Bytes → Option Nat} {run : Bytes → NonVol → Nat ⊕ NonVol} {ok : Bool}

theorem lifecycleStep_ends {y : Device} (ha : adminPick op false (fun _ => false) d = .inl y) :
    lifecycleStep op host run ok n d = (n, y) := by
  rw [lifecycleStep, ha]

variable (ha : adminPick op false (fun _ => false) d = .inr e) (ho : o = entryStart adminQ e 0 d) {len : Option Nat}
  (hh : host e.bytes = len)
include ha ho hh

theorem lifecycleStep_refused {st : Nat} {x : Device} (hr : run e.bytes n = .inl st)
    (hx : evRaiseIf (stageStatus st) 10 (lifecycleReads e.bytes len o.2) = x) :
    lifecycleStep op host run ok n d = (n, entryComplete o.1 st {} x) := by
  subst ho hh hx
  simp only [lifecycleStep, ha, hr]
  rfl

variable {m : NonVol} (hr : run e.bytes n = .inr m)
include hr

theorem lifecycleStep_commits :
    lifecycleStep op host run true n d = (m, lifecycleCommit o.1 (lifecycleReads e.bytes len o.2)) := by
  subst ho hh
  simp only [lifecycleStep, ha, hr]
  rfl

theorem lifecycleStep_fuseError :
    lifecycleStep op host run false n d = (n, entryComplete o.1 0x6B {} (lifecycleReads e.bytes len o.2)) := by
  subst ho hh
  simp only [lifecycleStep, ha, hr]
  rfl

end Lifecycle

section LcProvision

variable {x : HostRead} {ok : Bool} (hb : d.bme = true)
include hb

theorem lcProvision_ends {y : Device} (ha : adminPick 0x26 false (fun _ => false) d = .inl y) :
    lcProvision x ok n d = (n, y) :=
  (if_neg (bme_on_goes hb)).trans (lifecycleStep_ends ha)

variable (ha : adminPick 0x26 false (fun _ => false) d = .inr e) (ho : o = entryStart adminQ e 0 d)
include ha ho

theorem lcProvision_notPermitted (hl : n.lifecycle ≠ .blank) :
    lcProvision x ok n d = (n, entryComplete o.1 0x69 {} o.2) := by
  refine (if_neg (bme_on_goes hb)).trans (lifecycleStep_refused (len := none) (st := 0x69) ha ho (if_neg hl) ?_ rfl)
  cases h : n.lifecycle <;> simp_all

variable (hl : n.lifecycle = .blank)
include hl

theorem lcProvision_commits {bs : Bytes} :
    lcProvision (.ok bs) true n d =
      ({ n with fuses.provisioned := 3, keyHash := BitVec.ofNat 384 (beNat (bs.take 48)) },
        lifecycleCommit o.1 (o.2.emitRead (leWord e.bytes 1) 48)) := by
  refine (if_neg (bme_on_goes hb)).trans (lifecycleStep_commits (len := some 48) ha ho (if_pos hl) ?_)
  simp only [hl]

theorem lcProvision_fuseError {bs : Bytes} :
    lcProvision (.ok bs) false n d = (n, entryComplete o.1 0x6B {} (o.2.emitRead (leWord e.bytes 1) 48)) := by
  refine (if_neg (bme_on_goes hb)).trans (lifecycleStep_fuseError
    (m := { n with fuses.provisioned := 3, keyHash := BitVec.ofNat 384 (beNat (bs.take 48)) }) (len := some 48) ha ho
    (if_pos hl) ?_)
  simp only [hl]

theorem lcProvision_unread {cause : Nat} :
    lcProvision (.failed cause) ok n d =
      (n, entryComplete o.1 0x65 {} (evRaise 10 (o.2.emitRead (leWord e.bytes 1) 48))) := by
  refine (if_neg (bme_on_goes hb)).trans (lifecycleStep_refused (len := some 48) (st := 0x65) ha ho (if_pos hl) ?_ rfl)
  simp only [hl]

end LcProvision

section LcField

variable {ok : Bool} (ha : adminPick 0x27 false (fun _ => false) d = .inr e) (ho : o = entryStart adminQ e 0 d)
include ha ho

theorem lcField_notPermitted (hl : n.lifecycle ≠ .provisioned) :
    lcField ok n d = (n, entryComplete o.1 0x69 {} o.2) := by
  refine lifecycleStep_refused (st := 0x69) (len := none) ha ho rfl ?_ rfl
  cases h : n.lifecycle <;> simp_all

variable (hl : n.lifecycle = .provisioned)
include hl

theorem lcField_commits : lcField true n d = ({ n with fuses.fielded := 3 }, lifecycleCommit o.1 o.2) := by
  refine lifecycleStep_commits (len := none) ha ho rfl ?_
  simp only [hl]

theorem lcField_fuseError : lcField false n d = (n, entryComplete o.1 0x6B {} o.2) := by
  refine lifecycleStep_fuseError (m := { n with fuses.fielded := 3 }) (len := none) ha ho rfl ?_
  simp only [hl]

end LcField

section LcRetire

variable {x : HostRead} {ok : Bool} (hb : d.bme = true)
include hb

theorem lcRetire_ends {y : Device} (ha : adminPick 0x28 false (fun _ => false) d = .inl y) :
    lcRetire x ok n d = (n, y) :=
  (if_neg (bme_on_goes hb)).trans (lifecycleStep_ends ha)

variable (ha : adminPick 0x28 false (fun _ => false) d = .inr e) (ho : o = entryStart adminQ e 0 d)
include ha ho

theorem lcRetire_retired (hl : n.lifecycle = .retired) :
    lcRetire x ok n d = (n, entryComplete o.1 0x69 {} o.2) := by
  refine (if_neg (bme_on_goes hb)).trans
    (lifecycleStep_refused (len := none) (st := 0x69) ha ho (if_neg (by simp [hl])) ?_ rfl)
  simp only [hl]

section Blank

variable (hl : n.lifecycle = .blank)
include hl

theorem lcRetire_blank_addressed (h0 : leWord e.bytes 1 ≠ 0) :
    lcRetire x ok n d = (n, entryComplete o.1 0x69 {} o.2) := by
  refine (if_neg (bme_on_goes hb)).trans
    (lifecycleStep_refused (len := none) (st := 0x69) ha ho (if_neg (by simp [hl])) ?_ rfl)
  simp only [hl, if_neg h0]

variable (h0 : leWord e.bytes 1 = 0)
include h0

theorem lcRetire_blank_commits :
    lcRetire x true n d = ({ n with fuses.retired := 3 }, lifecycleCommit o.1 o.2) := by
  refine (if_neg (bme_on_goes hb)).trans (lifecycleStep_commits (len := none) ha ho (if_neg (by simp [hl])) ?_)
  simp only [hl, if_pos h0]

theorem lcRetire_blank_fuseError : lcRetire x false n d = (n, entryComplete o.1 0x6B {} o.2) := by
  refine (if_neg (bme_on_goes hb)).trans
    (lifecycleStep_fuseError (len := none) (m := { n with fuses.retired := 3 }) ha ho (if_neg (by simp [hl])) ?_)
  simp only [hl, if_pos h0]

end Blank

section Authorised

variable {q : Device} (hl : n.lifecycle = .provisioned ∨ n.lifecycle = .fielded)
  (hq : q = o.2.emitRead (leWord e.bytes 1) 112)
include hl hq

theorem lcRetire_unread {cause : Nat} :
    lcRetire (.failed cause) ok n d = (n, entryComplete o.1 0x65 {} (evRaise 10 q)) := by
  subst hq
  refine (if_neg (bme_on_goes hb)).trans (lifecycleStep_refused (len := some 112) (st := 0x65) ha ho (if_pos hl) ?_ rfl)
  rcases hl with h | h <;> simp only [h]

variable {bs : Bytes}

theorem lcRetire_unauthorised (h : authOk n bs = false) :
    lcRetire (.ok bs) ok n d = (n, entryComplete o.1 0x6A {} q) := by
  subst hq
  refine (if_neg (bme_on_goes hb)).trans (lifecycleStep_refused (len := some 112) (st := 0x6A) ha ho (if_pos hl) ?_ rfl)
  rcases hl with hl | hl <;> simp [hl, h]

variable (h : authOk n bs = true)
include h

theorem lcRetire_commits : lcRetire (.ok bs) true n d = ({ n with fuses.retired := 3 }, lifecycleCommit o.1 q) := by
  subst hq
  refine (if_neg (bme_on_goes hb)).trans (lifecycleStep_commits (len := some 112) ha ho (if_pos hl) ?_)
  rcases hl with hl | hl <;> simp [hl, h]

theorem lcRetire_fuseError : lcRetire (.ok bs) false n d = (n, entryComplete o.1 0x6B {} q) := by
  subst hq
  refine (if_neg (bme_on_goes hb)).trans
    (lifecycleStep_fuseError (len := some 112) (m := { n with fuses.retired := 3 }) ha ho (if_pos hl) ?_)
  rcases hl with hl | hl <;> simp [hl, h]

end Authorised

end LcRetire

/-! ### HALT_LOG (R514) -/

section HaltLog

theorem haltLogWrite_idle (h : d.haltLog = none) : haltLogWrite n d = (n, d) := by rw [haltLogWrite, h]

/-- The payload of the HALT_LOG record. -/
def haltLogBytes (g : HaltLog) : Bytes :=
  leBytes 1 g.cause ++ leBytes 1 g.left ++ leBytes 6 0 ++ leBytes 8 g.raw.toNat ++ leBytes 8 g.crossing

variable {g : HaltLog} {size : Nat} (h : d.haltLog = some g) (hsize : size = logSlotSize n d)
include h hsize

theorem haltLogWrite_nowhere (h0 : size = 0) : haltLogWrite n d = (n, { d with haltLog := none }) := by
  subst hsize
  rw [haltLogWrite, h]
  exact if_pos h0

theorem haltLogWrite_writes {m : Mem} (hm : m = persistPut (persistBase size) 0xF000 (haltLogBytes g) true n.flash)
    (h0 : size ≠ 0) : haltLogWrite n d = ({ n with flash := m }, persistReport size m { d with haltLog := none }) := by
  subst hsize
  rw [haltLogWrite, h, hm]
  dsimp only
  rw [if_neg h0, haltLogBytes]

end HaltLog

/-! ### The statement -/

/-- Settles O60: each command by the cases of its own part; a commit makes the state that is then read. -/
theorem chartAndLifeCycle : Obligations.ChartAndLifeCycle := by
  intro s e bs st r g ok x cause y hp o f n w0 size slot len any keyLen ends
  refine ⟨fun ha => ?beginEnds, fun ha => ?begins, fun hb => ?waits, fun hb ha => ?writeEnds, fun hb ha => ?writes,
    fun ha => ?verifyEnds, fun ha => ?verifies, fun ha => ?invalidateEnds, fun ha => ?invalidates,
    fun hb ha => ?keepEnds, fun hb ha => ?keeps, fun hb ha => ?recallEnds, fun hb ha => ?recalls,
    fun hb ha => ?provisionEnds, fun hb ha => ?provisions, fun ha => ?fieldEnds, fun ha => ?fields,
    fun hb ha => ?retireEnds, fun hb ha => ?retires, fun h => ?logIdle, ?logs⟩
  case beginEnds | invalidateEnds => exact runsNv_of_onAll rfl hp (adminStepNv_ends ha)
  case verifyEnds => exact runsNv_of_onAll rfl hp (stageVerify_ends ha)
  case begins =>
    exact ⟨fun h => runsNv_of_onAll rfl hp (stageBegin_running ha rfl rfl h),
      fun h hl => runsNv_of_onAll rfl hp (stageBegin_tooLong ha rfl rfl h rfl hl),
      fun h hl => runsNv_of_onAll rfl hp (stageBegin_fails ha rfl rfl h rfl hl rfl),
      fun h hl => runsNv_of_onAll rfl hp (stageBegin_opens ha rfl rfl h rfl hl)⟩
  case waits =>
    exact ⟨runsNv_of_onAll rfl hp (stageWrite_waits hb), runsNv_of_onAll rfl hp (persistWrite_waits hb),
      runs_of_onDev (f := persistRead s.nv) rfl hp (persistRead_waits hb),
      runsNv_of_onAll rfl hp (lcProvision_waits hb), runsNv_of_onAll rfl hp (lcRetire_waits hb)⟩
  case writeEnds => exact runsNv_of_onAll rfl hp (stageWrite_ends hb ha)
  case writes =>
    intro at_ num q
    refine ⟨fun hs => runsNv_of_onAll rfl hp (stageWrite_noSession hb ha rfl hs), fun hs =>
      ⟨fun h => runsNv_of_onAll rfl hp (stageWrite_misplaced hb ha rfl hs rfl rfl h), fun hw hl => ?inOrder⟩⟩
    exact ⟨runsNv_of_onAll rfl hp (stageWrite_unread hb ha rfl hs rfl rfl rfl hw hl),
      runsNv_of_onAll rfl hp (stageWrite_programs hb ha rfl hs rfl rfl (q := q) rfl hw hl),
      runsNv_of_onAll rfl hp (stageWrite_fails hb ha rfl hs rfl rfl (q := q) rfl hw hl rfl)⟩
  case verifies =>
    exact ⟨fun hs => runsNv_of_onAll rfl hp (stageVerify_noSession ha rfl hs), fun hs =>
      ⟨fun hf => runsNv_of_onAll rfl hp (stageVerify_faulty ha rfl hs rfl hf),
        fun hf hl => runsNv_of_onAll rfl hp (stageVerify_passes ha rfl hs rfl hf hl),
        fun hf hl => runsNv_of_onAll rfl hp (stageVerify_loads ha rfl hs rfl hf hl rfl)⟩⟩
  case invalidates =>
    exact ⟨fun h => runsNv_of_onAll rfl hp (slotInvalidate_running ha rfl rfl h),
      fun h hz => runsNv_of_onAll rfl hp (slotInvalidate_nowhere ha rfl rfl h hz),
      fun h hz => runsNv_of_onAll rfl hp (slotInvalidate_erases ha rfl rfl h hz),
      fun h hz => runsNv_of_onAll rfl hp (slotInvalidate_fails ha rfl rfl h hz rfl)⟩
  case keepEnds => exact runsNv_of_onAll rfl hp (persistWrite_ends hb ha)
  case keeps =>
    intro key num q got recs fits m
    refine ⟨fun hk => runsNv_of_onAll rfl hp (persistWrite_forbidden hb ha rfl rfl hk),
      fun hk hg => runsNv_of_onAll rfl hp (persistWrite_unread hb ha rfl rfl hk rfl rfl hg), fun hk hg =>
      ⟨fun hz => runsNv_of_onAll rfl hp (persistWrite_nowhere hb ha rfl rfl hk rfl rfl hg hz),
        fun hz hf => runsNv_of_onAll rfl hp (persistWrite_full hb ha rfl rfl hk rfl rfl hg rfl hz hf),
        fun hz hf => ?room⟩⟩
    cases ok
    case true => exact runsNv_of_onAll rfl hp (persistWrite_puts hb ha rfl rfl hk rfl rfl hg rfl hz hf rfl rfl)
    case false => exact runsNv_of_onAll rfl hp (persistWrite_fails hb ha rfl rfl hk rfl rfl hg rfl hz hf rfl rfl)
  case recallEnds => exact runs_of_onDev (f := persistRead s.nv) rfl hp (persistRead_ends hb ha)
  case recalls =>
    exact ⟨fun h => runs_of_onDev (f := persistRead s.nv) rfl hp (persistRead_notFound hb ha rfl h),
      fun h hr => runs_of_onDev (f := persistRead s.nv) rfl hp (persistRead_found hb ha rfl h hr rfl)⟩
  case provisionEnds => exact runsNv_of_onAll rfl hp (lcProvision_ends hb ha)
  case provisions =>
    exact ⟨fun hl => ⟨runsNv_of_onAll rfl hp (lcProvision_commits hb ha rfl hl),
      runsNv_of_onAll rfl hp (lcProvision_fuseError hb ha rfl hl),
      runsNv_of_onAll rfl hp (lcProvision_unread hb ha rfl hl)⟩,
      fun hl => runsNv_of_onAll rfl hp (lcProvision_notPermitted hb ha rfl hl)⟩
  case fieldEnds => exact runsNv_of_onAll rfl hp (lifecycleStep_ends ha)
  case fields =>
    exact ⟨fun hl => ⟨runsNv_of_onAll rfl hp (lcField_commits ha rfl hl),
      runsNv_of_onAll rfl hp (lcField_fuseError ha rfl hl)⟩,
      fun hl => runsNv_of_onAll rfl hp (lcField_notPermitted ha rfl hl)⟩
  case retireEnds => exact runsNv_of_onAll rfl hp (lcRetire_ends hb ha)
  case retires =>
    exact ⟨fun hl h0 => ⟨runsNv_of_onAll rfl hp (lcRetire_blank_commits hb ha rfl hl h0),
      runsNv_of_onAll rfl hp (lcRetire_blank_fuseError hb ha rfl hl h0)⟩,
      fun hl h0 => runsNv_of_onAll rfl hp (lcRetire_blank_addressed hb ha rfl hl h0),
      fun hl => ⟨fun h => ⟨runsNv_of_onAll rfl hp (lcRetire_commits hb ha rfl hl rfl h),
        runsNv_of_onAll rfl hp (lcRetire_fuseError hb ha rfl hl rfl h)⟩,
        fun h => runsNv_of_onAll rfl hp (lcRetire_unauthorised hb ha rfl hl rfl h),
        runsNv_of_onAll rfl hp (lcRetire_unread hb ha rfl hl rfl)⟩,
      fun hl => runsNv_of_onAll rfl hp (lcRetire_retired hb ha rfl hl)⟩
  case logIdle => exact runsNv_of_onAll rfl hp (haltLogWrite_idle h)
  case logs =>
    exact ⟨fun h h0 => runsNv_of_onAll rfl hp (haltLogWrite_nowhere h rfl h0),
      fun h h0 => runsNv_of_onAll rfl hp (haltLogWrite_writes h rfl rfl h0),
      lifecycle_provisioned, lifecycle_fielded, lifecycle_retired n⟩

end Sys2Proof.Proofs
